-- ==== Sys2Proof/Word.lean ====
section
/-! DEFINITION. Plain words and arithmetic of the 2480's figures: bytes, time stamps, ceilings, clamps, and the
indexing of tables that the manual numbers from 1. -/

namespace Sys2Proof

/-- A byte of a frame (R171). -/
abbrev Byte := BitVec 8

/-- A time stamp: whole seconds on the battery clock, signed (R2). -/
abbrev Time := Int

/-- The largest value of an unsigned 32-bit quantity: credit, credit target, ticket number. -/
abbrev maxU32 : Nat := 4294967295

/-- The largest battery-clock value (R1). -/
abbrev maxClock : Int := 2147483647

/-- The smallest whole number not less than the exact quotient (00_scope, Units; R31 forms it so). -/
def ceilDiv (a b : Nat) : Nat := if a % b = 0 then a / b else a / b + 1

/-- `v` brought into `[lo, hi]`. -/
def clampNat (lo hi v : Nat) : Nat := max lo (min hi v)

/-- `v` brought into `[lo, hi]`. -/
def clampInt (lo hi v : Int) : Int := max lo (min hi v)

/-- The entry numbered `n` of a table numbered from 1. -/
def numbered {α : Type} (l : List α) : Nat → Option α
  | 0 => none
  | n + 1 => l[n]?

/-- The list with `f` applied to the entry at index `i`, the other entries as they were. -/
def updateAt {α : Type} : List α → Nat → (α → α) → List α
  | [], _, _ => []
  | x :: xs, 0, f => f x :: xs
  | x :: xs, i + 1, f => x :: updateAt xs i f

/-- The table numbered from 1 with `f` applied to the entry numbered `n`. -/
def updateNumbered {α : Type} (l : List α) (n : Nat) (f : α → α) : List α :=
  match n with
  | 0 => l
  | i + 1 => updateAt l i f

end Sys2Proof
end

