-- ==== Sys2Proof/Syntax.lean ====
section
/-! DEFINITION. The commands of the 2480, one constructor of `Instr` per row of spec/opcode_table.json, and the names and
records their operands are made of. A field whose code names none of the offered values is `none`. -/

namespace Sys2Proof

/-- The two request ports (R172). -/
inductive Port where
  | sup
  | pnl
  deriving DecidableEq, Repr, Inhabited

/-- The five travelling machines (chapter 9). -/
inductive Machine where
  | pm
  | gc
  | cc
  | qa
  | qb
  deriving DecidableEq, Repr, Inhabited

/-- The two quench cars (chapter 8). -/
inductive Car where
  | a
  | b
  deriving DecidableEq, Repr, Inhabited

/-- The two sides of the battery: pusher side and coke side. -/
inductive Side where
  | ps
  | cs
  deriving DecidableEq, Repr, Inhabited

/-- The links that carry frames (00_scope, Links and lines). -/
inductive Link where
  | port (p : Port)
  | machine (m : Machine)
  | offtake
  deriving DecidableEq, Repr, Inhabited

/-- The STEP operations (9.1). -/
inductive Op where
  | extract
  | replace
  | press
  | guideLock
  | guideRelease
  | receive
  | ramAdvance
  | ramReturn
  | level
  | dump
  deriving DecidableEq, Repr, Inhabited

/-- An oven's service state (R7). -/
inductive Service where
  | inService
  | outOfService
  deriving DecidableEq, Repr, Inhabited

/-- The phases OVEN RESTORE offers (R15). -/
inductive RestorePhase where
  | empty
  | coking
  deriving DecidableEq, Repr, Inhabited

/-- The door states OVEN RESTORE offers (R15). -/
inductive RestoreDoor where
  | pressed (leak : Nat)
  | hung
  | defect
  deriving DecidableEq, Repr, Inhabited

/-- The fields of OVEN RESTORE (R15). -/
structure RestoreFields where
  phase : Option RestorePhase
  age : Nat
  credit : Nat
  mass : Nat
  trim : Nat
  psDoor : Option RestoreDoor
  csDoor : Option RestoreDoor
  service : Option Service
  deriving DecidableEq, Repr, Inhabited

/-- The forms of VALVE (R131). -/
inductive ValveForm where
  | regulate
  | hold
  | manual (position : Nat)
  deriving DecidableEq, Repr, Inhabited

/-- The outcomes RELEASE offers (R82). -/
inductive ReleaseOutcome where
  | clearedEmpty
  | clearedFull
  deriving DecidableEq, Repr, Inhabited

/-- The STATUS sections (R177). -/
inductive StatusSection where
  | general
  | schedule
  | tickets
  | doors
  | charge
  | offtake
  | track
  | machines
  deriving DecidableEq, Repr, Inhabited

/-- The parameters of 11.1, in the table's order. -/
inductive ParamId where
  | ovenCount
  | carSplit
  | plan
  | policy
  | skipThreshold
  | pushGap
  | issueLead
  | tBase
  | wallStale
  | cBase
  | mNom
  | mMin
  | mMax
  | tMin
  | tMax
  | hardLoad
  | trimStep
  | profile
  | pFloor
  | leakTrim
  | gOven
  | deadband
  | vMin
  | isoTol
  | pMain
  | aOff
  | gMain
  | mVmin
  | tIso
  | tAlign
  | tDoor
  | tGuide
  | tRam
  | tClose
  | tService
  | tCharge
  | quenchTime
  | drainTime
  | hotDwell
  | emptyLimit
  | repressTries
  | leakThreshold
  | pressLo
  | pressHi
  | serviceWindow
  | machineSilence
  | supMask
  | pnlMask
  deriving DecidableEq, Repr, Inhabited

/-- The values of POLICY (R46). -/
inductive Policy where
  | wait
  | skip
  deriving DecidableEq, Repr, Inhabited

/-- PLAN: the stride and the sequence of offsets (R39). -/
structure Plan where
  stride : Nat
  order : List Nat
  deriving DecidableEq, Repr, Inhabited

/-- A parameter's value in the form it travels in (11.1). -/
inductive ParamValue where
  | number (v : Int)
  | policy (p : Option Policy)
  | plan (p : Plan)
  | profile (points : List (Nat × Int))
  deriving DecidableEq, Repr, Inhabited

/-- The parameters of group G and P: oven count, car split, plan and pacing (11.1). -/
structure PlanParams where
  ovenCount : Option Nat
  carSplit : Option Nat
  plan : Plan
  policy : Policy
  skipThreshold : Nat
  pushGap : Nat
  issueLead : Nat
  deriving DecidableEq, Repr, Inhabited

/-- The parameters of group C: heat and credit (11.1). -/
structure CreditParams where
  tBase : Nat
  wallStale : Nat
  cBase : Nat
  mNom : Nat
  mMin : Nat
  mMax : Nat
  tMin : Nat
  tMax : Nat
  hardLoad : Nat
  trimStep : Nat
  deriving DecidableEq, Repr, Inhabited

/-- The parameters of group O: gas offtake (11.1). -/
structure OfftakeParams where
  /-- PROFILE: pairs of a fraction in per mille and a pressure in Pa (R134). -/
  profile : List (Nat × Int)
  pFloor : Int
  leakTrim : Nat
  gOven : Nat
  deadband : Nat
  vMin : Nat
  isoTol : Nat
  pMain : Int
  aOff : Nat
  gMain : Nat
  mVmin : Nat
  deriving DecidableEq, Repr, Inhabited

/-- The parameters of group T that bound the steps of a push, a job, a charge and a quench (11.1). -/
structure StepParams where
  tIso : Nat
  tAlign : Nat
  tDoor : Nat
  tGuide : Nat
  tRam : Nat
  tClose : Nat
  tService : Nat
  tCharge : Nat
  quenchTime : Nat
  drainTime : Nat
  hotDwell : Nat
  deriving DecidableEq, Repr, Inhabited

/-- The other parameters of group T, and group L (11.1). -/
structure LimitParams where
  emptyLimit : Nat
  repressTries : Nat
  leakThreshold : Nat
  pressLo : Nat
  pressHi : Nat
  serviceWindow : Nat
  machineSilence : Nat
  supMask : Nat
  pnlMask : Nat
  deriving DecidableEq, Repr, Inhabited

/-- A parameter set: one value for each parameter of 11.1 (R180). OVEN_COUNT and CAR_SPLIT may be unset. -/
structure Params extends PlanParams, CreditParams, OfftakeParams, StepParams, LimitParams
  deriving DecidableEq, Repr, Inhabited

/-- The parameter image of the serial store: every working parameter and the protection level (11.4). -/
structure Image where
  params : Params
  level : Nat
  deriving DecidableEq, Repr, Inhabited

/-- What the cold-start store read finds, when the memory answers (R188; log 32). -/
inductive StoreFound where
  /-- No signature. -/
  | noSignature
  /-- A signature, but a length out of bounds. -/
  | badLength
  /-- A signature, but a check mismatch. -/
  | badCheck
  /-- Signature, length and check good; the values are still to be judged. -/
  | image (im : Image)
  deriving DecidableEq, Repr, Inhabited

/-- The step of a save that failed (R185). -/
inductive StoreStep where
  | write
  | compare
  deriving DecidableEq, Repr, Inhabited

/-- The requests of SUP and PNL with their fields (10.3). -/
inductive Request where
  | status (sec : Option StatusSection)
  | ovenQuery (oven : Nat)
  | ovenRestore (oven : Nat) (fields : RestoreFields)
  | ovenService (oven : Nat) (state : Option Service)
  | ovenHold (oven : Nat) (value : Option Bool)
  | maintRange (range : Option (Nat × Nat))
  | ovenTrim (oven : Nat) (trim : Nat)
  | wallReport (first : Nat) (count : Nat) (readings : List Int)
  | schedStart
  | schedStop
  | cursorSet (index : Nat)
  | catchupClear
  | pushNow (oven : Nat) (force : Bool)
  | ticketCancel (ticket : Nat)
  | release (ticket : Nat) (outcome : Option ReleaseOutcome)
  | logRead (index : Nat)
  | leakReport (oven : Nat) (side : Option Side) (level : Nat)
  | doorReset (oven : Nat) (side : Option Side)
  | valve (oven : Nat) (form : Option ValveForm)
  | carService (car : Option Car) (state : Option Service)
  | pause
  | resume
  | maskSet (level : Nat)
  | restart
  | paramGet (id : Option ParamId)
  | paramSet (id : Option ParamId) (value : ParamValue)
  | storeSave
  | storeLoad
  | storeErase
  | protectSet (level : Nat)
  deriving DecidableEq, Repr, Inhabited

/-- A frame with a correct check on SUP or PNL, as its kind and length judge it (R171). -/
inductive FrameBody where
  /-- A request of a length that fits its kind. -/
  | request (r : Request)
  /-- A kind that is not a request kind (OK, REFUSED and NOTICE among them). -/
  | notRequest
  /-- A request kind with a length that does not fit it. -/
  | badLength
  deriving DecidableEq, Repr, Inhabited

/-- The records a machine sends (9.1). -/
inductive MachineRecord where
  | pos (position : Nat) (moving loaded : Bool)
  | done (op : Op) (oven : Nat) (value : Nat)
  | fault (code : Nat)
  | chargeAsk (oven : Nat)
  | chargeEnd (oven : Nat) (mass : Nat)
  deriving DecidableEq, Repr, Inhabited

/-- The replies of offtake nodes, by class (R124): an oven or main node gives pressure, position and its local fault flag,
a tower node its spray state and its local fault flag. The main and the oven nodes share one reply kind (log 47). -/
inductive NodeReply where
  | valve (pressure : Int) (position : Nat) (fault : Bool)
  | tower (spray fault : Bool)
  deriving DecidableEq, Repr, Inhabited

/-- Why a frame is discarded (R171, R163, R124). -/
inductive DiscardCause where
  /-- The receiver judges the bytes, which begin with a sync byte: a length above 200 or a failing check. -/
  | receiver (bytes : List Byte)
  /-- The check is right; on a machine link the kind or length is one that machine may not send, or on the offtake line
  the reply is invalid or late. -/
  | content
  deriving DecidableEq, Repr, Inhabited

/-- The commands: one constructor per row of spec/opcode_table.json, in the table's order. -/
inductive Instr where
  | coldStart (byResetLine : Bool)
  | resetLineRelease
  | storeReadEnd (found : StoreFound)
  | storeReadTimeout
  | batteryClockTick
  | estopAsserted
  | estopReleased
  | keyLineChange (asserted : Bool)
  | requestFrameArrival (port : Port) (tag : Byte) (body : FrameBody)
  | frameGapTimeout (link : Link) (bytes : List Byte)
  | portFrameSent (port : Port)
  | status (port : Port) (tag : Byte) (sec : Option StatusSection)
  | ovenQuery (port : Port) (tag : Byte) (oven : Nat)
  | ovenRestore (port : Port) (tag : Byte) (oven : Nat) (fields : RestoreFields)
  | ovenService (port : Port) (tag : Byte) (oven : Nat) (state : Option Service)
  | ovenHold (port : Port) (tag : Byte) (oven : Nat) (value : Option Bool)
  | maintRange (port : Port) (tag : Byte) (range : Option (Nat × Nat))
  | ovenTrim (port : Port) (tag : Byte) (oven : Nat) (trim : Nat)
  | wallReport (port : Port) (tag : Byte) (first : Nat) (count : Nat) (readings : List Int)
  | schedStart (port : Port) (tag : Byte)
  | schedStop (port : Port) (tag : Byte)
  | cursorSet (port : Port) (tag : Byte) (index : Nat)
  | catchupClear (port : Port) (tag : Byte)
  | pushNow (port : Port) (tag : Byte) (oven : Nat) (force : Bool)
  | ticketCancel (port : Port) (tag : Byte) (ticket : Nat)
  | release (port : Port) (tag : Byte) (ticket : Nat) (outcome : Option ReleaseOutcome)
  | logRead (port : Port) (tag : Byte) (index : Nat)
  | leakReport (port : Port) (tag : Byte) (oven : Nat) (side : Option Side) (level : Nat)
  | doorReset (port : Port) (tag : Byte) (oven : Nat) (side : Option Side)
  | valve (port : Port) (tag : Byte) (oven : Nat) (form : Option ValveForm)
  | carService (port : Port) (tag : Byte) (car : Option Car) (state : Option Service)
  | pause (port : Port) (tag : Byte)
  | resume (port : Port) (tag : Byte)
  | maskSet (port : Port) (tag : Byte) (level : Nat)
  | restart (port : Port) (tag : Byte)
  | paramGet (port : Port) (tag : Byte) (id : Option ParamId)
  | paramSet (port : Port) (tag : Byte) (id : Option ParamId) (value : ParamValue)
  | storeSave (port : Port) (tag : Byte)
  | storeLoad (port : Port) (tag : Byte)
  | storeErase (port : Port) (tag : Byte)
  | protectSet (port : Port) (tag : Byte) (level : Nat)
  | storeSaveEnd (failed : Option StoreStep)
  | storeSaveTimeout
  | storeEraseEnd (ok : Bool)
  | storeEraseTimeout
  | machinePos (machine : Machine) (position : Nat) (moving loaded : Bool)
  | machineFault (machine : Machine) (code : Nat)
  | extractDone (machine : Machine) (oven : Nat)
  | replaceDone (machine : Machine) (oven : Nat)
  | pressDone (machine : Machine) (oven : Nat) (force : Nat)
  | guideLockDone (machine : Machine) (oven : Nat)
  | guideReleaseDone (machine : Machine) (oven : Nat)
  | ramAdvanceDone (machine : Machine) (oven : Nat) (load : Nat)
  | ramReturnDone (machine : Machine) (oven : Nat)
  | levelDone (machine : Machine) (oven : Nat)
  | receiveDone (machine : Machine) (oven : Nat)
  | dumpDone (machine : Machine) (oven : Nat)
  | chargeAsk (oven : Nat)
  | chargeEnd (oven : Nat) (mass : Nat)
  | otlReply (address : Nat) (reply : NodeReply)
  | replyWaitExpiry
  | wallStalenessExpiry (wall : Nat)
  | readinessExpiry (oven : Nat)
  | overdueTimerExpiry (oven : Nat)
  | pacingTimerExpiry
  | stepTimerExpiry (ticket : Nat)
  | pacingWaitReached (ticket : Nat)
  | serviceTimerExpiry (side : Side)
  | chargeTimerExpiry
  | emptyDwellExpiry (oven : Nat)
  | silenceTimerExpiry (machine : Machine)
  | quenchTimerExpiry (car : Car)
  | drainTimerExpiry (car : Car)
  | hotDwellExpiry (car : Car)
  | discardedFrame (link : Link) (cause : DiscardCause)
  deriving DecidableEq, Repr, Inhabited

end Sys2Proof
end

