-- ==== Sys2Proof/WellFormed.lean ====
section
/-! DEFINITION. Which commands can be spelled at all: the limits that the records' fields have by their form, apart from the
checks by which a request is refused. -/

namespace Sys2Proof.WellFormed

/-- A time, credit or ticket field of 32 bits (00_scope, Units). -/
def fits32 (n : Nat) : Bool := n ≤ maxU32

/-- A fault code is 1 to 255 (9.1). -/
def faultCode (code : Nat) : Bool := 1 ≤ code && code ≤ 255

/-- Only the quench cars report a loaded flag (9.1). -/
def loadedFlag (m : Machine) (loaded : Bool) : Bool := !loaded || m = .qa || m = .qb

/-- A node address travels in the one-byte tag (R124). -/
def nodeAddress (address : Nat) : Bool := address ≤ 255

/-- The readings of a WALL REPORT fit a payload of at most 200 bytes, two bytes each after the index and the count (10.1). -/
def readingsFit (readings : List Int) : Bool := readings.length ≤ 99

/-- Discarded bytes begin with the sync byte A7 hex (R171). -/
def beginsWithSync : List Byte → Bool
  | b :: _ => b = 0xA7#8
  | [] => false

/-- Ovens, walls and tickets that keep a timer are numbered from 1. -/
def numberedFrom1 (n : Nat) : Bool := 1 ≤ n

/-- The fields of a request fit its record. -/
def request : Request → Bool
  | .ovenRestore _ f => fits32 f.credit
  | .wallReport _ _ readings => readingsFit readings
  | .ticketCancel num => fits32 num
  | .release num _ => fits32 num
  | _ => true

/-- What a frame carries fits its record. -/
def frameBody : FrameBody → Bool
  | .request r => request r
  | .notRequest => true
  | .badLength => true

/-- A cause for which a frame is discarded. -/
def discard : DiscardCause → Bool
  | .receiver bytes => beginsWithSync bytes
  | .content => true

/-- The command can be spelled. -/
def instr : Instr → Bool
  | .requestFrameArrival _ _ body => frameBody body
  | .ovenRestore _ _ n f => request (.ovenRestore n f)
  | .wallReport _ _ first count readings => request (.wallReport first count readings)
  | .ticketCancel _ _ num => request (.ticketCancel num)
  | .release _ _ num outcome => request (.release num outcome)
  | .machinePos m _ _ loaded => loadedFlag m loaded
  | .machineFault _ code => faultCode code
  | .otlReply address _ => nodeAddress address
  | .wallStalenessExpiry w => numberedFrom1 w
  | .readinessExpiry n => numberedFrom1 n
  | .overdueTimerExpiry n => numberedFrom1 n
  | .stepTimerExpiry num => numberedFrom1 num && fits32 num
  | .pacingWaitReached num => numberedFrom1 num && fits32 num
  | .emptyDwellExpiry n => numberedFrom1 n
  | .discardedFrame _ cause => discard cause
  | .coldStart _ | .resetLineRelease | .storeReadEnd _ | .storeReadTimeout | .batteryClockTick | .estopAsserted
  | .estopReleased | .keyLineChange _ | .frameGapTimeout _ _ | .portFrameSent _ | .status _ _ _ | .ovenQuery _ _ _
  | .ovenService _ _ _ _ | .ovenHold _ _ _ _ | .maintRange _ _ _ | .ovenTrim _ _ _ _ | .schedStart _ _
  | .schedStop _ _ | .cursorSet _ _ _ | .catchupClear _ _ | .pushNow _ _ _ _ | .logRead _ _ _
  | .leakReport _ _ _ _ _ | .doorReset _ _ _ _ | .valve _ _ _ _ | .carService _ _ _ _ | .pause _ _ | .resume _ _
  | .maskSet _ _ _ | .restart _ _ | .paramGet _ _ _ | .paramSet _ _ _ _ | .storeSave _ _ | .storeLoad _ _
  | .storeErase _ _ | .protectSet _ _ _ | .storeSaveEnd _ | .storeSaveTimeout | .storeEraseEnd _
  | .storeEraseTimeout | .extractDone _ _ | .replaceDone _ _ | .pressDone _ _ _ | .guideLockDone _ _
  | .guideReleaseDone _ _ | .ramAdvanceDone _ _ _ | .ramReturnDone _ _ | .levelDone _ _ | .receiveDone _ _
  | .dumpDone _ _ | .chargeAsk _ | .chargeEnd _ _ | .replyWaitExpiry | .pacingTimerExpiry | .serviceTimerExpiry _
  | .chargeTimerExpiry | .silenceTimerExpiry _ | .quenchTimerExpiry _ | .drainTimerExpiry _ | .hotDwellExpiry _ => true

end Sys2Proof.WellFormed
end

