-- ==== Sys2Proof/Config.lean ====
section
/-! DEFINITION. What the manual leaves to each implementation: the codes of record kinds and the layout of payloads. They are
constants without a body, so that nothing can be proved from a choice of them (log 5). -/

namespace Sys2Proof.Config

/-- What the kind and payload of a frame with a correct check say on SUP and PNL (R171 gives no kind codes). -/
opaque frameBody : Byte → List Byte → FrameBody

/-- The record that the kind and payload of a frame with a correct check spell on a machine's link; `none` for a kind or a
length that the machine may not send (R163 gives no kind codes). -/
opaque machineRecord : Machine → Byte → List Byte → Option MachineRecord

/-- The reply that the kind and payload of a frame with a correct check spell on the offtake line; `none` for another kind or
length (R124 gives no kind codes). -/
opaque nodeReply : Byte → List Byte → Option NodeReply

end Sys2Proof.Config
end

