-- ==== Sys2Proof/Machine/Parameters.lean ====
section
/-! DEFINITION. The parameter table (11.1): defaults, groups, access classes, ranges and relations, and how one
parameter is read from and written to a parameter set. -/

namespace Sys2Proof.Machine

/-- The parameter groups (11.1). -/
inductive ParamGroup where
  | g
  | p
  | c
  | o
  | t
  | l
  deriving DecidableEq, Repr, Inhabited

/-- The access classes (R180). -/
inductive AccessClass where
  | once
  | quiet
  | live
  deriving DecidableEq, Repr, Inhabited

/-- The range a parameter has, as PARAM GET carries it (R181): absent for CAR_SPLIT while UNCONFIGURED. -/
inductive ParamRange where
  | absent
  | between (lo hi : Int)
  | policies
  | plans
  | profiles
  deriving DecidableEq, Repr, Inhabited

/-- The defaults of 11.1. OVEN_COUNT is unset, and with it CAR_SPLIT has no value (R180). -/
def defaultParams : Params where
  ovenCount := none
  carSplit := none
  plan := { stride := 5, order := [0, 2, 4, 1, 3] }
  policy := .skip
  skipThreshold := 1800
  pushGap := 480
  issueLead := 300
  tBase := 600
  wallStale := 900
  cBase := 36000000
  mNom := 320
  mMin := 200
  mMax := 450
  tMin := 50400
  tMax := 108000
  hardLoad := 1400
  trimStep := 20
  profile := [(0, 120), (250, 100), (600, 80), (850, 60)]
  pFloor := -20
  leakTrim := 15
  gOven := 8
  deadband := 5
  vMin := 50
  isoTol := 10
  pMain := 100
  aOff := 120
  gMain := 6
  mVmin := 100
  tIso := 60
  tAlign := 600
  tDoor := 180
  tGuide := 60
  tRam := 150
  tClose := 300
  tService := 180
  tCharge := 900
  quenchTime := 90
  drainTime := 60
  hotDwell := 240
  emptyLimit := 1800
  repressTries := 3
  leakThreshold := 2
  pressLo := 80
  pressHi := 160
  serviceWindow := 240
  machineSilence := 6
  supMask := 2
  pnlMask := 8

/-- The group of each parameter (11.1). -/
def paramGroup : ParamId → ParamGroup
  | .ovenCount | .carSplit => .g
  | .plan | .policy | .skipThreshold | .pushGap | .issueLead => .p
  | .tBase | .wallStale | .cBase | .mNom | .mMin | .mMax | .tMin | .tMax | .hardLoad | .trimStep => .c
  | .profile | .pFloor | .leakTrim | .gOven | .deadband | .vMin | .isoTol | .pMain | .aOff | .gMain | .mVmin => .o
  | .tIso | .tAlign | .tDoor | .tGuide | .tRam | .tClose | .tService | .tCharge | .quenchTime | .drainTime
  | .hotDwell | .emptyLimit | .repressTries | .leakThreshold | .pressLo | .pressHi | .serviceWindow
  | .machineSilence => .t
  | .supMask | .pnlMask => .l

/-- The access class of each parameter (11.1, R180). -/
def paramClass : ParamId → AccessClass
  | .ovenCount => .once
  | .carSplit | .plan | .policy | .skipThreshold | .pushGap | .issueLead => .quiet
  | _ => .live

/-- The groups each protection level protects (R184). -/
def protectedAt : Nat → ParamGroup → Bool
  | 0, _ => false
  | 1, .g => true
  | 1, _ => false
  | 2, .g => true
  | 2, .p => true
  | 2, .c => true
  | 2, _ => false
  | _, _ => true

/-- Every parameter, in the order of the table: the order in which STORE LOAD sets them (R186). -/
def allParams : List ParamId :=
  [.ovenCount, .carSplit, .plan, .policy, .skipThreshold, .pushGap, .issueLead, .tBase, .wallStale, .cBase, .mNom,
   .mMin, .mMax, .tMin, .tMax, .hardLoad, .trimStep,
   .profile, .pFloor, .leakTrim, .gOven, .deadband, .vMin, .isoTol, .pMain, .aOff, .gMain, .mVmin, .tIso, .tAlign,
   .tDoor, .tGuide, .tRam, .tClose,
   .tService, .tCharge, .quenchTime, .drainTime, .hotDwell, .emptyLimit, .repressTries, .leakThreshold, .pressLo,
   .pressHi, .serviceWindow, .machineSilence, .supMask, .pnlMask]

/-- A parameter's value in a set, absent for an unset OVEN_COUNT or CAR_SPLIT (R181). -/
def paramValue (q : Params) : ParamId → Option ParamValue
  | .ovenCount => q.ovenCount.map fun n => .number n
  | .carSplit => q.carSplit.map fun n => .number n
  | .plan => some (.plan q.plan)
  | .policy => some (.policy (some q.policy))
  | .skipThreshold => some (.number q.skipThreshold)
  | .pushGap => some (.number q.pushGap)
  | .issueLead => some (.number q.issueLead)
  | .tBase => some (.number q.tBase)
  | .wallStale => some (.number q.wallStale)
  | .cBase => some (.number q.cBase)
  | .mNom => some (.number q.mNom)
  | .mMin => some (.number q.mMin)
  | .mMax => some (.number q.mMax)
  | .tMin => some (.number q.tMin)
  | .tMax => some (.number q.tMax)
  | .hardLoad => some (.number q.hardLoad)
  | .trimStep => some (.number q.trimStep)
  | .profile => some (.profile q.profile)
  | .pFloor => some (.number q.pFloor)
  | .leakTrim => some (.number q.leakTrim)
  | .gOven => some (.number q.gOven)
  | .deadband => some (.number q.deadband)
  | .vMin => some (.number q.vMin)
  | .isoTol => some (.number q.isoTol)
  | .pMain => some (.number q.pMain)
  | .aOff => some (.number q.aOff)
  | .gMain => some (.number q.gMain)
  | .mVmin => some (.number q.mVmin)
  | .tIso => some (.number q.tIso)
  | .tAlign => some (.number q.tAlign)
  | .tDoor => some (.number q.tDoor)
  | .tGuide => some (.number q.tGuide)
  | .tRam => some (.number q.tRam)
  | .tClose => some (.number q.tClose)
  | .tService => some (.number q.tService)
  | .tCharge => some (.number q.tCharge)
  | .quenchTime => some (.number q.quenchTime)
  | .drainTime => some (.number q.drainTime)
  | .hotDwell => some (.number q.hotDwell)
  | .emptyLimit => some (.number q.emptyLimit)
  | .repressTries => some (.number q.repressTries)
  | .leakThreshold => some (.number q.leakThreshold)
  | .pressLo => some (.number q.pressLo)
  | .pressHi => some (.number q.pressHi)
  | .serviceWindow => some (.number q.serviceWindow)
  | .machineSilence => some (.number q.machineSilence)
  | .supMask => some (.number q.supMask)
  | .pnlMask => some (.number q.pnlMask)

/-- The set with a numeric parameter given a value; the others are left to `setParam`. -/
def setNumber (q : Params) (id : ParamId) (v : Int) : Params :=
  match id with
  | .ovenCount => { q with ovenCount := some v.toNat }
  | .carSplit => { q with carSplit := some v.toNat }
  | .plan | .policy | .profile => q
  | .skipThreshold => { q with skipThreshold := v.toNat }
  | .pushGap => { q with pushGap := v.toNat }
  | .issueLead => { q with issueLead := v.toNat }
  | .tBase => { q with tBase := v.toNat }
  | .wallStale => { q with wallStale := v.toNat }
  | .cBase => { q with cBase := v.toNat }
  | .mNom => { q with mNom := v.toNat }
  | .mMin => { q with mMin := v.toNat }
  | .mMax => { q with mMax := v.toNat }
  | .tMin => { q with tMin := v.toNat }
  | .tMax => { q with tMax := v.toNat }
  | .hardLoad => { q with hardLoad := v.toNat }
  | .trimStep => { q with trimStep := v.toNat }
  | .pFloor => { q with pFloor := v }
  | .leakTrim => { q with leakTrim := v.toNat }
  | .gOven => { q with gOven := v.toNat }
  | .deadband => { q with deadband := v.toNat }
  | .vMin => { q with vMin := v.toNat }
  | .isoTol => { q with isoTol := v.toNat }
  | .pMain => { q with pMain := v }
  | .aOff => { q with aOff := v.toNat }
  | .gMain => { q with gMain := v.toNat }
  | .mVmin => { q with mVmin := v.toNat }
  | .tIso => { q with tIso := v.toNat }
  | .tAlign => { q with tAlign := v.toNat }
  | .tDoor => { q with tDoor := v.toNat }
  | .tGuide => { q with tGuide := v.toNat }
  | .tRam => { q with tRam := v.toNat }
  | .tClose => { q with tClose := v.toNat }
  | .tService => { q with tService := v.toNat }
  | .tCharge => { q with tCharge := v.toNat }
  | .quenchTime => { q with quenchTime := v.toNat }
  | .drainTime => { q with drainTime := v.toNat }
  | .hotDwell => { q with hotDwell := v.toNat }
  | .emptyLimit => { q with emptyLimit := v.toNat }
  | .repressTries => { q with repressTries := v.toNat }
  | .leakThreshold => { q with leakThreshold := v.toNat }
  | .pressLo => { q with pressLo := v.toNat }
  | .pressHi => { q with pressHi := v.toNat }
  | .serviceWindow => { q with serviceWindow := v.toNat }
  | .machineSilence => { q with machineSilence := v.toNat }
  | .supMask => { q with supMask := v.toNat }
  | .pnlMask => { q with pnlMask := v.toNat }

/-- The value has the form and the length the parameter has: a PLAN 1 to 10 offsets, a PROFILE 1 to 6 breakpoints (R39, R134,
R182, check 1; log 18). That a PLAN's offsets are as many as its STRIDE is not judged here (log 58). -/
def valueFits (id : ParamId) : ParamValue → Bool
  | .plan pl => id = .plan && 1 ≤ pl.order.length && pl.order.length ≤ 10
  | .profile points => id = .profile && 1 ≤ points.length && points.length ≤ 6
  | .policy _ => id = .policy
  | .number _ => id ≠ .plan && id ≠ .profile && id ≠ .policy

/-- The set with one parameter given a value of its form. -/
def setParam (q : Params) (id : ParamId) : ParamValue → Params
  | .plan pl => { q with plan := pl }
  | .profile pts => { q with profile := pts }
  | .policy (some po) => { q with policy := po }
  | .policy none => q
  | .number n => setNumber q id n

/-- The range of a numeric parameter by itself (11.1). The bounds that are other parameters' values (CAR_SPLIT's N − 1,
ISSUE_LEAD's PUSH_GAP, T_MAX's T_MIN) are those of the set. -/
def numberRange (q : Params) : ParamId → Int × Int
  | .ovenCount => (8, 96)
  | .carSplit => (1, (q.ovenCount.getD 0 : Int) - 1)
  | .plan | .policy | .profile => (0, 0)
  | .skipThreshold => (0, 7200)
  | .pushGap => (240, 3600)
  | .issueLead => (0, q.pushGap)
  | .tBase => (300, 900)
  | .wallStale => (60, 3600)
  | .cBase => (1000000, 400000000)
  | .mNom => (100, 600)
  | .mMin => (50, 1000)
  | .mMax => (50, 1000)
  | .tMin => (3600, 172800)
  | .tMax => (q.tMin, 259200)
  | .hardLoad => (200, 4000)
  | .trimStep => (0, 100)
  | .pFloor => (-200, 300)
  | .leakTrim => (0, 100)
  | .gOven => (0, 255)
  | .deadband => (0, 50)
  | .vMin => (0, 500)
  | .isoTol => (0, 100)
  | .pMain => (-200, 500)
  | .aOff => (0, 400)
  | .gMain => (0, 255)
  | .mVmin => (0, 900)
  | .tIso => (10, 300)
  | .tAlign => (60, 1800)
  | .tDoor => (30, 600)
  | .tGuide => (10, 300)
  | .tRam => (30, 600)
  | .tClose => (60, 900)
  | .tService => (30, 600)
  | .tCharge => (120, 1800)
  | .quenchTime => (30, 300)
  | .drainTime => (0, 300)
  | .hotDwell => (60, 900)
  | .emptyLimit => (300, 7200)
  | .repressTries => (1, 5)
  | .leakThreshold => (1, 3)
  | .pressLo => (0, 400)
  | .pressHi => (0, 400)
  | .serviceWindow => (60, 900)
  | .machineSilence => (2, 30)
  | .supMask => (0, 15)
  | .pnlMask => (0, 15)

/-- PLAN's own conditions: STRIDE 1 to 10 and ORDER a permutation of 0..STRIDE − 1 (R39), so that an ORDER of another number of
offsets is refused by check 4 of R182 (log 58). -/
def planOk (pl : Plan) : Bool :=
  1 ≤ pl.stride && pl.stride ≤ 10 && pl.order.length == pl.stride &&
    (List.range pl.stride).all fun k => pl.order.contains k

/-- The fractions after the first rise strictly. -/
def risesFrom : Nat → List (Nat × Int) → Bool
  | _, [] => true
  | last, (f, _) :: rest => last < f && risesFrom f rest

/-- PROFILE's own conditions: 1 to 6 breakpoints, fractions 0..1000 beginning at 0 and rising strictly, pressures −200..300
(R134). -/
def profileOk : List (Nat × Int) → Bool
  | [] => false
  | (f, pr) :: rest =>
    f == 0 && rest.length ≤ 5 && risesFrom 0 rest &&
      ((f, pr) :: rest).all fun b => b.1 ≤ 1000 && -200 ≤ b.2 && b.2 ≤ 300

/-- A value within the parameter's own range, the other parameters standing as in `q` (R182, check 4). -/
def valueInRange (q : Params) (id : ParamId) : ParamValue → Bool
  | .number v => (numberRange q id).1 ≤ v && v ≤ (numberRange q id).2
  | .policy po => po.isSome
  | .plan pl => planOk pl
  | .profile pts => profileOk pts

/-- The relations between parameters (R182, check 4). -/
def relationsHold (q : Params) : Bool :=
  q.mMin ≤ q.mNom && q.mNom ≤ q.mMax && q.tMin ≤ q.tMax && q.issueLead ≤ q.pushGap && q.pressLo ≤ q.pressHi &&
    match q.ovenCount, q.carSplit with
    | some n, some k => k < n
    | _, _ => true

/-- A whole parameter set whose values break no range and no relation of R182, as the store read judges an image (R188).
CAR_SPLIT has a value exactly when OVEN_COUNT has (R180). -/
def paramsOk (q : Params) : Bool :=
  (allParams.all fun id =>
    match paramValue q id with
    | some v => valueInRange q id v
    | none => true) &&
  relationsHold q && q.ovenCount.isSome == q.carSplit.isSome

/-- The range a parameter has now (R181). -/
def paramRange (q : Params) : ParamId → ParamRange
  | .plan => .plans
  | .policy => .policies
  | .profile => .profiles
  | .carSplit => if q.ovenCount.isSome then .between 1 ((q.ovenCount.getD 0 : Int) - 1) else .absent
  | id => .between (numberRange q id).1 (numberRange q id).2

/-- The default a parameter has: CAR_SPLIT's is floor(N/2), absent while UNCONFIGURED (11.1). -/
def paramDefault (q : Params) : ParamId → Option ParamValue
  | .carSplit => q.ovenCount.map fun n => .number ((n / 2 : Nat) : Int)
  | id => paramValue defaultParams id

end Sys2Proof.Machine
end

