-- ==== Sys2Proof/Machine/State.lean ====
section
/-! DEFINITION. The state of the 2480 as plain data: every record, table, list, timer, flag and line the manual names, the
notices and replies it forms, and the state right after power has been applied (R188).

`State` has two halves and the command queue. `Ground` is what only a command itself writes: the clock, the lines, the
parameters, the run state, and what the plant last reported (walls, doors, nodes, mirrors). `Plant` is what the events that
follow at once within a step may write as well: the ovens' cycle, tickets, lists, claims, cars, valves and ports. A follow-up
event has the type `Ground → Plant → Plant`, so that it cannot change `Ground` holds by construction. -/

namespace Sys2Proof.Machine

/-! ## Ovens -/

/-- The ten oven phases (1.3). -/
inductive Phase where
  | unknown
  | empty
  | charging
  | coking
  | ready
  | ticketed
  | opening
  | pushing
  | closing
  | pushFault
  deriving DecidableEq, Repr, Inhabited

/-- The causes of a phase change (R4), one per row of its table, rows that join several events with 'or' too (log 54). -/
inductive Cause where
  | ovenRestore
  | chargeGo
  | chargeEnd
  | readinessMet
  | ticketIssue
  | forcedIssue
  | enterUndooring
  | enterPushing
  | enterClosing
  | ticketComplete
  | faultHold
  | clearedEmpty
  | clearedFull
  | ticketReturn
  deriving DecidableEq, Repr, Inhabited

/-- The offtake modes (R129). -/
inductive OfftakeMode where
  | regulate
  | aspirate
  | isolate
  | manual
  | hold
  deriving DecidableEq, Repr, Inhabited

/-- The command side of an oven's node record (R125): what the offtake unit commands and holds for the valve. -/
structure Valve where
  mode : OfftakeMode
  position : Option Nat
  confirmed : Bool
  setPoint : Option Int
  deriving DecidableEq, Repr, Inhabited

/-- Accrual state: the last accrual time and the held rate (R25). -/
structure Accrual where
  since : Time
  rate : Nat
  deriving DecidableEq, Repr, Inhabited

/-- The oven record of section 1.2. -/
structure OvenRecord where
  number : Nat
  phase : Phase
  service : Service
  hold : Bool
  chargeEnd : Option Time
  mass : Nat
  credit : Nat
  target : Nat
  trim : Nat
  hardRun : Nat
  overdueSent : Bool
  unconfirmed : Bool
  cold : Bool
  emptyLongSent : Bool
  emptySince : Option Time
  deriving DecidableEq, Repr, Inhabited

/-- An oven record with what the credit, charge and offtake units hold for the oven: accrual state, readiness expiry and
overdue timer (R25, R31, R34), empty dwell timer (R120) and the commanded valve (R125). -/
structure Oven extends OvenRecord where
  accrual : Option Accrual
  readiness : Option Time
  overdue : Option Time
  dwell : Option Time
  valve : Valve
  deriving DecidableEq, Repr, Inhabited

/-- A wall record (R19) with its staleness expiry (R22). -/
structure Wall where
  temp : Nat
  report : Time
  valid : Bool
  expiry : Option Time
  deriving DecidableEq, Repr, Inhabited

/-- The door states (R92). -/
inductive DoorState where
  | unknown
  | pressed
  | hung
  | removed
  | pressFault
  | defect
  deriving DecidableEq, Repr, Inhabited

/-- A door record (R92). -/
structure Door where
  state : DoorState
  leak : Nat
  force : Nat
  count : Nat
  deriving DecidableEq, Repr, Inhabited

/-- The two door records of an oven. -/
structure DoorPair where
  ps : Door
  cs : Door
  deriving DecidableEq, Repr, Inhabited

/-! ## The offtake line -/

/-- The line side of a node record (R125): its state, miss count, fault flag and the values of its last valid reply. -/
structure NodeLine where
  online : Bool
  miss : Nat
  fault : Bool
  pressure : Option Int
  actual : Option Nat
  spray : Option Bool
  deriving DecidableEq, Repr, Inhabited

/-- What a poll carried (R124): an absent position is the marker KEEP. -/
inductive Carried where
  | main (position : Option Nat)
  | oven (mode : OfftakeMode) (position : Option Nat)
  | tower (spray : Bool)
  deriving DecidableEq, Repr, Inhabited

/-- The exchange in progress and its place in the poll round (R123, R124). -/
structure Poll where
  address : Nat
  carried : Carried
  group : Nat
  place : Nat
  /-- The number of oven nodes of the round in progress. -/
  ovens : Nat
  deriving DecidableEq, Repr, Inhabited

/-! ## Machines -/

/-- A position mirror (R165), its claim apart. -/
structure Mirror where
  online : Bool
  heard : Bool
  position : Option Nat
  moving : Bool
  lastFault : Option (Nat × Time)
  silence : Option Time
  deriving DecidableEq, Repr, Inhabited

/-- The claim of PM or GC (R165). -/
inductive Claim where
  | free
  | ticket (number : Nat)
  | service
  | charge
  deriving DecidableEq, Repr, Inhabited

/-- The reasons CC is given with CHARGE NO and CHARGE WAIT (R111, R113, R118, R121). -/
inductive ChargeReason where
  | unconfigured
  | range
  | chargeActive
  | notEmpty
  | door
  | outOfService
  | maintRange
  | position
  | runState
  | mainNode
  | ovenNode
  | pmOffline
  | pmBusy
  | preparing
  | levellerFault
  | stale
  | restart
  deriving DecidableEq, Repr, Inhabited

/-- The records the 2480 sends to machines (9.1). -/
inductive ToMachine where
  | move (position : Nat)
  | step (op : Op) (oven : Nat)
  /-- STEP with the operation DUMP; no rule names an oven for it (R156). -/
  | dump
  | stop
  | chargeGo (oven : Nat)
  | chargeWait (reason : ChargeReason)
  | chargeNo (reason : ChargeReason)
  deriving DecidableEq, Repr, Inhabited

/-- The run states (R168). -/
inductive RunState where
  | running
  | paused
  | stopped
  deriving DecidableEq, Repr, Inhabited

/-- What changed the run state, as RUN_STATE carries it (R168): one cause for PAUSE and one for RESUME, whichever port the
request is taken on, one for the emergency stop line, asserted or found so at start-up (R170), and one for RESTART (R179;
log 56). -/
inductive RunCause where
  | pause
  | resume
  | estop
  | restart
  deriving DecidableEq, Repr, Inhabited

/-! ## Tickets -/

/-- The ticket kinds (3.6). -/
inductive TicketKind where
  | plan
  | catchup
  | manual
  | forced
  deriving DecidableEq, Repr, Inhabited

/-- The ticket states (R63). -/
inductive TicketState where
  | isolating
  | aligning
  | undooring
  | guiding
  | pushing
  | closing
  | faultHeld
  deriving DecidableEq, Repr, Inhabited

/-- The command a party of a ticket was last sent (R66). -/
inductive Cmd where
  /-- The offtake unit: ISOLATE. -/
  | isolate
  /-- A machine: MOVE to the oven. -/
  | move
  /-- The car: to stand at the oven (its run is the track unit's). -/
  | stand
  /-- A machine or the car: a STEP operation. -/
  | step (op : Op)
  /-- The car: to report itself loaded. -/
  | load
  deriving DecidableEq, Repr, Inhabited

/-- What a ticket still expects of a party in its current step (R66): nothing, the completion of a command, or, in CLOSING
while suspended, nothing until the next command of the side is sent at RESUME (R86). -/
inductive Wait where
  | complete
  | waiting (c : Cmd)
  | recorded (c : Cmd)
  deriving DecidableEq, Repr, Inhabited

/-- The parties of a ticket (4.1). -/
inductive Party where
  | pm
  | gc
  | car
  | offtake
  deriving DecidableEq, Repr, Inhabited

/-- A car's fault reason (R144). -/
inductive CarFault where
  | code (code : Nat)
  | offline
  | overrun
  | order
  deriving DecidableEq, Repr, Inhabited

/-- The recorded reasons of an abort, a cancel or a hold (R77, R84, R85). -/
inductive AbortReason where
  | timeout (state : TicketState) (parties : List (Party × Cmd))
  | machineFault (m : Machine) (code : Nat)
  | offline (m : Machine)
  | alignment (m : Machine)
  | alignmentCar (c : Car)
  | carFault (c : Car) (reason : CarFault)
  | nodeLost
  | cancelRequest
  | restart
  deriving DecidableEq, Repr, Inhabited

/-- What a ticket's step still waits for, party by party (R63, Outstanding completions). -/
structure Waits where
  offtake : Wait
  pm : Wait
  gc : Wait
  car : Wait
  deriving DecidableEq, Repr, Inhabited

/-- A ticket (R63). `issueCar` is the car bound at issue, which the push log keeps (R89). -/
structure Ticket where
  number : Nat
  oven : Nat
  kind : TicketKind
  issueTime : Time
  issueCar : Car
  car : Option Car
  state : TicketState
  isolated : Bool
  suspended : Bool
  waits : Waits
  entry : Time
  timer : Option Time
  pacingWait : Option Time
  extractSent : Bool
  pushStart : Option Time
  credit : Option Nat
  ram : Option Nat
  reason : Option AbortReason
  deriving DecidableEq, Repr, Inhabited

/-- The outcomes of a retirement (R64). -/
inductive TicketOutcome where
  | complete
  | aborted
  | cancelled
  | releasedEmpty
  | releasedFull
  deriving DecidableEq, Repr, Inhabited

/-- A push log record (R89). -/
structure LogRecord where
  ticket : Nat
  oven : Nat
  kind : TicketKind
  car : Car
  issueTime : Time
  pushStart : Option Time
  retireTime : Time
  netCoking : Option Int
  credit : Option Nat
  ram : Option Nat
  outcome : TicketOutcome
  reason : Option AbortReason
  deriving DecidableEq, Repr, Inhabited

/-! ## Schedule, doors, charge -/

/-- The passing reasons (R45), and ABORTED, which only a catch-up entry carries (R47). -/
inductive PassReason where
  | passOut
  | wait
  | held
  | noCar
  | nodeLost
  | notReady
  | aborted
  deriving DecidableEq, Repr, Inhabited

/-- A catch-up entry (R47). -/
structure CatchupEntry where
  oven : Nat
  reason : PassReason
  joined : Time
  deriving DecidableEq, Repr, Inhabited

/-- An entry of a door service list (R99). -/
structure ServiceEntry where
  oven : Nat
  joined : Time
  deriving DecidableEq, Repr, Inhabited

/-- The working states of a service job; IDLE is the absence of a job (5.5). -/
inductive JobState where
  | moving
  | pressing
  deriving DecidableEq, Repr, Inhabited

/-- A service job in MOVING or PRESSING (5.5). -/
structure Job where
  oven : Nat
  state : JobState
  suspended : Bool
  command : Cmd
  timer : Option Time
  deriving DecidableEq, Repr, Inhabited

/-- One side of the door unit: its service list, full latch and job (R99, R100, R103). -/
structure ServiceSide where
  list : List ServiceEntry
  latch : Bool
  job : Option Job
  deriving DecidableEq, Repr, Inhabited

/-- Why levelling, or a service job, is faulted (R116, R106). -/
inductive WorkFault where
  | timeout
  | machineFault
  | offline
  | alignment
  deriving DecidableEq, Repr, Inhabited

/-- The level result of a charge (R116). -/
inductive LevelResult where
  | done
  | faulted (reason : WorkFault)
  deriving DecidableEq, Repr, Inhabited

/-- The charge record (R115). The flags are set when `mass` was reported (CC end) and when `level` is present. -/
structure Charge where
  oven : Nat
  start : Time
  ccEnd : Bool
  mass : Option Nat
  level : Option LevelResult
  timer : Option Time
  remaining : Option Int
  suspended : Bool
  deriving DecidableEq, Repr, Inhabited

/-- The pending ask (R112). -/
structure Ask where
  oven : Nat
  since : Time
  reason : ChargeReason
  claimed : Bool
  deriving DecidableEq, Repr, Inhabited

/-! ## The track -/

/-- The eleven car states (R144). -/
inductive CarState where
  | parked
  | runToOven
  | atOven
  | receiving
  | runToTower
  | waterWait
  | quenching
  | draining
  | runToWharf
  | dumping
  | fault
  deriving DecidableEq, Repr, Inhabited

/-- A car's target with its standing (R144). -/
structure Target where
  position : Nat
  granted : Bool
  deriving DecidableEq, Repr, Inhabited

/-- A car record (R144). `loading` is the loading time HOT_DWELL is reckoned from (R159). -/
structure CarRecord where
  position : Option Nat
  moving : Bool
  loaded : Bool
  state : CarState
  inService : Bool
  bound : Option Nat
  span : Option (Nat × Nat)
  target : Option Target
  quench : Option Time
  drain : Option Time
  hot : Option Time
  loading : Option Time
  fault : Option CarFault
  deriving DecidableEq, Repr, Inhabited

/-- A car record as it is created (R144). -/
def CarRecord.created : CarRecord where
  position := none
  moving := false
  loaded := false
  state := .parked
  inService := true
  bound := none
  span := none
  target := none
  quench := none
  drain := none
  hot := none
  loading := none
  fault := none

/-! ## Notices -/

/-- What a catch-up SKIP did with the oven (R47, R48). -/
inductive Disposition where
  | listed
  | dropped
  deriving DecidableEq, Repr, Inhabited

/-- The values of a node's last valid reply, as node notices carry them. -/
structure NodeValues where
  pressure : Option Int
  actual : Option Nat
  spray : Option Bool
  deriving DecidableEq, Repr, Inhabited

/-- A node's command, as NODE_LOST carries it (R126). -/
inductive NodeCommand where
  | main
  | oven (mode : OfftakeMode)
  | tower (spray : Bool)
  deriving DecidableEq, Repr, Inhabited

/-- What a DOOR_FAULT reports (R94, R95, R106). -/
inductive DoorFault where
  | strayExtract
  | press (force lo hi : Nat)
  | job (state : JobState) (reason : WorkFault)
  deriving DecidableEq, Repr, Inhabited

/-- The failed check or step a STORE_FAIL carries (R185, R187, R189; the names are the model's, log 34). -/
inductive StoreFailure where
  | length
  | check
  | values
  | partlyWritten
  | write
  | compare
  | bound
  | erase
  deriving DecidableEq, Repr, Inhabited

/-- The notices with the subject fields their raising rules give (10.4). -/
inductive NoticeBody where
  | machinePos (m : Machine) (position : Nat) (moving : Bool)
  | phase (oven : Nat) (old new : Phase) (cause : Cause)
  | ticketStep (ticket oven : Nat) (state : TicketState) (entry : Time) (suspended : Bool)
  | doorState (oven : Nat) (side : Side) (old : DoorState) (door : Door)
  | carState (c : Car) (old new : CarState) (position : Option Nat) (bound : Option Nat)
  | claim (m : Machine) (old new : Claim)
  | ready (oven credit target : Nat) (net : Int)
  | chargeDone (oven : Nat) (reported : Option Nat) (mass target : Nat) (level : Option LevelResult)
  | issue (ticket oven : Nat) (kind : TicketKind) (c : Car) (cursor : Nat) (forced : Option (Nat × Nat))
  | ticketEnd (ticket oven : Nat) (outcome : TicketOutcome)
  | skip (oven : Nat) (reason : PassReason) (disposition : Disposition) (index : Option Nat)
  | nodeBack (address : Nat) (values : NodeValues)
  | valveOverride (oven ticket : Nat) (mode : OfftakeMode) (position : Option Nat)
  | machineOnline (m : Machine) (position : Option Nat)
  | wallStale (wall temp : Nat) (report : Time)
  | storeSaved
  | restarted (cancelled : Nat) (run : RunState)
  | catchupFull (oven : Nat) (reason : PassReason)
  | serviceFull (side : Side) (oven : Nat)
  | doorFault (oven : Nat) (side : Side) (fault : DoorFault)
  | levelFault (oven : Nat) (reason : WorkFault)
  | emptyLong (oven : Nat) (since : Time) (stood : Int) (ps cs : DoorState) (service : Service)
      (reason : Option ChargeReason)
  | runState (old new : RunState) (cause : RunCause)
  | estopReleased
  | hardPush (oven load trim run : Nat)
  | chargeTimeout (oven : Nat) (ccEnd : Bool) (level : Option LevelResult) (mass : Option Nat)
  | nodeLost (address : Nat) (command : NodeCommand) (values : NodeValues)
  | nodeFault (address : Nat) (values : NodeValues)
  | overdue (oven : Nat) (phase : Phase) (net : Int) (credit : Nat)
  | valveDrift (oven position tolerance : Nat)
  | machineFault (m : Machine) (code : Nat) (position : Option Nat) (holder : Claim)
  | doorDefect (oven : Nat) (side : Side) (count : Nat)
  | hotDwell (c : Car) (tower : Nat) (state : CarState) (seconds : Int)
  | ticketAbort (ticket oven : Nat) (kind : TicketKind) (state : TicketState) (reason : AbortReason)
  | storeFail (failure : StoreFailure)
  | carFault (c : Car) (reason : CarFault) (position : Option Nat) (left : CarState)
  | machineOffline (m : Machine) (position : Option Nat) (holder : Claim)
  | pushFault (ticket oven : Nat) (state : TicketState) (reason : AbortReason) (ram : Option Nat) (ps cs : DoorState)
  | estop (left : RunState)
  deriving DecidableEq, Repr, Inhabited

/-- A notice: its level, the battery clock at the event that raised it, and its kind with its subject fields (R175). -/
structure Notice where
  level : Nat
  time : Time
  body : NoticeBody
  deriving DecidableEq, Repr, Inhabited

/-! ## Replies -/

/-- The refusal codes (R173). -/
inductive Code where
  | format
  | range
  | state
  | busy
  | auth
  | locked
  | full
  | unconfigured
  | starting
  deriving DecidableEq, Repr, Inhabited

/-- The detail of a refusal: the check that failed, or, for PUSH NOW, the passing reason (R172, R57; log 19). -/
inductive Detail where
  | frame
  | holdFull
  | starting
  | panelOnly
  | unconfigured
  | number
  | field
  | maintenanceRange
  | force
  | phase
  | ticketHeld
  | ticketUnknown
  | ticketState
  | faultHeld
  | listFull
  | passing (reason : PassReason)
  | quiet
  | doorState
  | bound
  | link
  | grant
  | order
  | line
  | runState
  | workingPush
  | chargeRecord
  | group
  | accessClass
  | relation
  | netCoking
  | storeBusy
  | storeAbsent
  | notVerified
  | ovenCount
  | keyLine
  deriving DecidableEq, Repr, Inhabited

/-- The store states (R185). -/
inductive StoreState where
  | absent
  | blank
  | verified
  | corrupt
  deriving DecidableEq, Repr, Inhabited

/-- Where a door stands with its side's service (R92). -/
inductive DoorListing where
  | neither
  | listed
  | held
  deriving DecidableEq, Repr, Inhabited

/-- The OVEN QUERY reply for an oven 1 to N (R13, R92, R141). -/
structure OvenReply where
  record : OvenRecord
  forecast : Option Int
  ticket : Option Nat
  inRange : Bool
  doors : DoorPair
  psListing : DoorListing
  csListing : DoorListing
  node : NodeLine
  valve : Valve
  deriving DecidableEq, Repr, Inhabited

/-- STATUS section GENERAL (R177). -/
structure GeneralReply where
  clock : Time
  ovenCount : Option Nat
  runState : RunState
  estopLine : Bool
  keyLine : Bool
  schedRunning : Bool
  maint : Option (Nat × Nat)
  protection : Nat
  store : StoreState
  storeBusy : Bool
  supMask : Nat
  pnlMask : Nat
  supQueued : Nat
  pnlQueued : Nat
  deriving DecidableEq, Repr, Inhabited

/-- STATUS section SCHEDULE (R61). -/
structure ScheduleReply where
  running : Bool
  cursor : Nat
  cursorOven : Option Nat
  lastPushStart : Option Time
  nextIssue : Option Time
  latch : Bool
  catchup : List CatchupEntry
  deriving DecidableEq, Repr, Inhabited

/-- One ticket in STATUS section TICKETS (R76). -/
structure TicketReply where
  number : Nat
  oven : Nat
  kind : TicketKind
  state : TicketState
  car : Option Car
  isolated : Bool
  suspended : Bool
  outstanding : List (Party × Cmd)
  entry : Time
  timer : Option Time
  pacingWait : Option Time
  extractSent : Bool
  deriving DecidableEq, Repr, Inhabited

/-- STATUS section OFFTAKE (R141). -/
structure OfftakeReply where
  main : NodeLine
  mainPosition : Option Nat
  mainSetPoint : Option Int
  setPointNow : Int
  towerA : NodeLine
  towerB : NodeLine
  sprayA : Bool
  sprayB : Bool
  ovensOnline : Nat
  ovensLost : Nat
  ovensUnheard : Nat
  lastPolled : Option Nat
  deriving DecidableEq, Repr, Inhabited

/-- STATUS section TRACK (R162). -/
structure TrackReply where
  carA : CarRecord
  carB : CarRecord
  grant : Option Car
  waiting : List Car
  trackHold : Bool
  deriving DecidableEq, Repr, Inhabited

/-- STATUS section MACHINES (R170). -/
structure MachinesReply where
  pm : Mirror
  gc : Mirror
  cc : Mirror
  qa : Mirror
  qb : Mirror
  claimPm : Claim
  claimGc : Claim
  runState : RunState
  estopLine : Bool
  deriving DecidableEq, Repr, Inhabited

/-- The STATUS sections' contents (R177); a section whose records are not yet created is absent. -/
inductive StatusBody where
  | absent
  | general (r : GeneralReply)
  | schedule (r : ScheduleReply)
  | tickets (list : List TicketReply) (counter : Nat)
  | doors (ps cs : ServiceSide)
  | charge (record : Option Charge) (ask : Option Ask)
  | offtake (r : OfftakeReply)
  | track (r : TrackReply)
  | machines (r : MachinesReply)
  deriving DecidableEq, Repr, Inhabited

/-- PARAM GET's reply (R181). -/
structure ParamReply where
  group : ParamGroup
  access : AccessClass
  range : ParamRange
  default : Option ParamValue
  value : Option ParamValue
  deriving DecidableEq, Repr, Inhabited

/-- The data of an OK reply, as the owning rules give it. -/
inductive OkData where
  /-- No data beyond OK (rules that name none). -/
  | plain
  | status (body : StatusBody) (overrun : Bool)
  | oven (r : OvenReply)
  /-- An absent record, every other field zero (R14). -/
  | ovenAbsent
  | restored (mass target : Nat)
  | service (state : Service)
  | trim (trim : Nat)
  | clamped (n : Nat)
  | cursor (index : Nat) (oven : Option Nat)
  | cleared (n : Nat)
  | issued (ticket : Nat) (kind : TicketKind) (c : Car)
  | cancelled (ticket : Nat) (phase : Phase)
  | released (ticket : Nat) (outcome : ReleaseOutcome) (phase : Phase)
  | log (count : Nat) (record : Option LogRecord)
  | door (d : Door)
  | valve (mode : OfftakeMode) (position : Option Nat)
  | car (r : CarRecord)
  | runState (run : RunState) (estopLine : Bool)
  | mask (level : Nat)
  | restarted (cancelled : Nat) (run : RunState)
  | param (r : ParamReply)
  | value (v : Option ParamValue)
  | configured (n split : Nat)
  | loaded (changed : Nat)
  | protection (level : Nat)
  deriving DecidableEq, Repr, Inhabited

/-- A reply (R172). -/
inductive Reply where
  | ok (data : OkData)
  | refused (code : Code) (detail : Detail)
  deriving DecidableEq, Repr, Inhabited

/-- A frame a port sends (R175): a reply under its request's tag, or a notice under its sequence number. -/
inductive OutFrame where
  | reply (tag : Byte) (r : Reply)
  | notice (seq : Byte) (n : Notice)
  deriving DecidableEq, Repr, Inhabited

/-- A port (R172, R175). `urgent` holds the FULL and FORMAT replies ready, `replies` the others, oldest first. -/
structure PortState where
  hold : List (Byte × Request)
  urgent : List (Byte × Reply)
  replies : List (Byte × Reply)
  queue : List Notice
  sending : Option OutFrame
  seq : Byte
  mask : Nat
  overrun : Bool
  deriving DecidableEq, Repr, Inhabited

/-- A port with nothing held, ready, queued or sent, under a mask (R175, R188). -/
def PortState.quiet (mask : Nat) : PortState where
  hold := []
  urgent := []
  replies := []
  queue := []
  sending := none
  seq := 0
  mask := mask
  overrun := false

/-! ## Follow-up events -/

/-- The events of their own that a step starts and takes before it ends (log 3). -/
inductive Task where
  /-- An evaluation of the schedule unit (R51). -/
  | evaluate
  /-- The pacing timer, set to a time not later than now (R42). -/
  | pacing
  /-- Freed claims, or a confirmed isolation, offered to the waiting tickets (R69, R167). -/
  | offerTicket
  /-- A re-check of the pending ask (R112). -/
  | recheckAsk
  /-- A test point of a side's service job (R103). -/
  | testJob (side : Side)
  /-- A re-check of a car's pending target (R151). -/
  | recheckTarget (c : Car)
  /-- A car's report or arrival, judged by the push sequencer (R145). -/
  | carReported (c : Car)
  /-- A car's first loaded report in RECEIVING (R154). -/
  | carLoaded (c : Car)
  /-- A fault of a bound car, handed to the push sequencer (R160). -/
  | carFaulted (c : Car) (ticket : Nat) (reason : CarFault)
  /-- A readiness expiry not later than now (R31). -/
  | readiness (oven : Nat)
  /-- An overdue timer not later than now (R34). -/
  | overdue (oven : Nat)
  /-- An empty dwell timer not later than now (R120). -/
  | dwell (oven : Nat)
  /-- A drain timer of 0 (R155). -/
  | drain (c : Car)
  deriving DecidableEq, Repr, Inhabited

/-! ## The state -/

/-- The store operation in progress (R185, R187); the busy flag is set while there is one. -/
inductive StoreOp where
  | save (snapshot : Image)
  | erase
  deriving DecidableEq, Repr, Inhabited

/-- The receivers: the bytes of the frame not yet complete on each link, from its sync byte on (R171). -/
structure Receivers where
  sup : List Byte
  pnl : List Byte
  pm : List Byte
  gc : List Byte
  cc : List Byte
  qa : List Byte
  qb : List Byte
  offtake : List Byte
  deriving DecidableEq, Repr, Inhabited

/-- Clock, start-up, lines, parameters, store and battery-wide states. -/
structure GroundBase where
  clock : Time
  starting : Bool
  resetHeld : Bool
  estopLine : Bool
  keyLine : Bool
  params : Params
  protection : Nat
  store : StoreState
  storeOp : Option StoreOp
  verified : Option Image
  partWritten : Bool
  runState : RunState
  schedRunning : Bool
  maint : Option (Nat × Nat)
  order : List Nat
  deriving DecidableEq, Repr, Inhabited

/-- What the plant last reported: walls, doors, nodes, mirrors, the exchange on the offtake line and the receivers. -/
structure GroundReports where
  walls : List Wall
  doors : List DoorPair
  ovenNodes : List NodeLine
  mainNode : NodeLine
  towerNodeA : NodeLine
  towerNodeB : NodeLine
  poll : Option Poll
  pm : Mirror
  gc : Mirror
  cc : Mirror
  qa : Mirror
  qb : Mirror
  rx : Receivers
  deriving DecidableEq, Repr, Inhabited

/-- What only a command itself writes. -/
structure Ground extends GroundBase, GroundReports
  deriving DecidableEq, Repr, Inhabited

/-- Ports, ovens, schedule and tickets. -/
structure PlantCycle where
  sup : PortState
  pnl : PortState
  ovens : List Oven
  cursor : Nat
  catchup : List CatchupEntry
  catchLatch : Bool
  lastPushStart : Option Time
  pacing : Option Time
  tickets : List Ticket
  nextTicket : Nat
  log : List LogRecord
  deriving DecidableEq, Repr, Inhabited

/-- Door service, charging, the main valve, the track, claims, and the model's own lists. -/
structure PlantWork where
  psSide : ServiceSide
  csSide : ServiceSide
  charge : Option Charge
  ask : Option Ask
  mainPosition : Option Nat
  mainSetPoint : Option Int
  sprayA : Bool
  sprayB : Bool
  carA : CarRecord
  carB : CarRecord
  grant : Option Car
  waiting : List Car
  trackHold : Bool
  claimPm : Claim
  claimGc : Claim
  /-- MODEL's own: the records sent to machines by the last command, oldest first (log 6). -/
  sent : List (Machine × ToMachine)
  /-- MODEL's own: the PRESS commands that tickets in CLOSING have sent, each with its machine and oven, and that no PRESS
  DONE has answered yet, oldest first (log 13). -/
  closingPresses : List (Machine × Nat)
  /-- MODEL's own: the follow-up events not yet taken, in the order they will be (log 3). -/
  agenda : List Task
  deriving DecidableEq, Repr, Inhabited

/-- What follow-up events may write as well. -/
structure Plant extends PlantCycle, PlantWork
  deriving DecidableEq, Repr, Inhabited

/-- The state of the 2480 and the queue of commands that wait to be taken, oldest first. -/
structure State where
  ground : Ground
  plant : Plant
  pending : List Instr
  deriving DecidableEq, Repr, Inhabited

/-- The machine stops with a fault: no rule of the 2480 stops it, so nothing raises one. -/
inductive Fault where
  deriving DecidableEq, Repr

/-- A command without a meaning. -/
inductive Refusal where
  /-- Raised only by an arm of `exec` whose command has no meaning in this model; safe, since the machine then stops. No
  arm raises it now. -/
  | notModelled (mnemonic : String)
  deriving DecidableEq, Repr

/-- A node record as it is created: LOST, miss count 0, fault flag clear, every value absent (R125). -/
def NodeLine.created : NodeLine where
  online := false
  miss := 0
  fault := false
  pressure := none
  actual := none
  spray := none

/-- A mirror at cold start (R165). -/
def Mirror.cold : Mirror where
  online := false
  heard := false
  position := none
  moving := false
  lastFault := none
  silence := none

/-- A side of the door unit with an empty list and no job (R110). -/
def ServiceSide.idle : ServiceSide where
  list := []
  latch := false
  job := none

/-- Power has just been applied: clock 0, STARTING, the store read in progress (R188), every table as the chapters give it
for cold start. The lines' levels and what the store read will set are the model's choices (log 8, 9). -/
def State.reset : State where
  ground :=
    { clock := 0
      starting := true
      resetHeld := false
      estopLine := false
      keyLine := false
      params := defaultParams
      protection := 0
      store := .absent
      storeOp := none
      verified := none
      partWritten := false
      runState := .paused
      schedRunning := false
      maint := none
      order := []
      walls := []
      doors := []
      ovenNodes := []
      mainNode := .created
      towerNodeA := .created
      towerNodeB := .created
      poll := none
      pm := .cold
      gc := .cold
      cc := .cold
      qa := .cold
      qb := .cold
      rx := { sup := [], pnl := [], pm := [], gc := [], cc := [], qa := [], qb := [], offtake := [] } }
  plant :=
    { sup := .quiet defaultParams.supMask
      pnl := .quiet defaultParams.pnlMask
      ovens := []
      cursor := 0
      catchup := []
      catchLatch := false
      lastPushStart := none
      pacing := none
      tickets := []
      nextTicket := 1
      log := []
      psSide := .idle
      csSide := .idle
      charge := none
      ask := none
      mainPosition := none
      mainSetPoint := none
      sprayA := false
      sprayB := false
      carA := .created
      carB := .created
      grant := none
      waiting := []
      trackHold := false
      claimPm := .free
      claimGc := .free
      sent := []
      closingPresses := []
      agenda := [] }
  pending := []

end Sys2Proof.Machine
end

