-- ==== Sys2Proof/Machine/Ops.lean ====
section
/-! DEFINITION. The shared operations of the blocks: reading and updating numbered records, raising notices and forming
replies at the ports, sending records to machines, claims, and starting follow-up events. -/

namespace Sys2Proof.Machine

/-! ## Names -/

/-- The other quench car. -/
def otherCar : Car → Car
  | .a => .b
  | .b => .a

/-- The machine whose onboard controller a car is. -/
def carMachine : Car → Machine
  | .a => .qa
  | .b => .qb

/-- The machine that serves the doors of a side (chapter 5). -/
def sideMachine : Side → Machine
  | .ps => .pm
  | .cs => .gc

/-- All five machines, in the order of 9. -/
def allMachines : List Machine := [.pm, .gc, .cc, .qa, .qb]

/-! ## Ground -/

/-- The oven count, 0 while UNCONFIGURED. -/
def Ground.count (g : Ground) : Nat := g.params.ovenCount.getD 0

/-- The 2480 is configured once the oven count is set (R183, R189). -/
def Ground.configured (g : Ground) : Bool := g.params.ovenCount.isSome

/-- Machines may move (R168). -/
def Ground.running (g : Ground) : Bool := g.runState = .running

/-- The oven number names an oven 1 to N. -/
def Ground.isOven (g : Ground) (n : Nat) : Bool := 1 ≤ n && n ≤ g.count

/-- The oven lies in the maintenance range (R10). -/
def Ground.inRange (g : Ground) (n : Nat) : Bool :=
  match g.maint with
  | some (lo, hi) => lo ≤ n && n ≤ hi
  | none => false

/-- A machine's mirror (R165). -/
def Ground.mirror (g : Ground) : Machine → Mirror
  | .pm => g.pm
  | .gc => g.gc
  | .cc => g.cc
  | .qa => g.qa
  | .qb => g.qb

/-- The ground with one mirror replaced. -/
def Ground.setMirror (g : Ground) (m : Machine) (r : Mirror) : Ground :=
  match m with
  | .pm => { g with pm := r }
  | .gc => { g with gc := r }
  | .cc => { g with cc := r }
  | .qa => { g with qa := r }
  | .qb => { g with qb := r }

/-- The bytes of the frame not yet complete on a link (R171). -/
def Ground.rxOf (g : Ground) : Link → List Byte
  | .port .sup => g.rx.sup
  | .port .pnl => g.rx.pnl
  | .machine .pm => g.rx.pm
  | .machine .gc => g.rx.gc
  | .machine .cc => g.rx.cc
  | .machine .qa => g.rx.qa
  | .machine .qb => g.rx.qb
  | .offtake => g.rx.offtake

/-- The receivers with the bytes of one link replaced (R171). -/
def Receivers.set (r : Receivers) (link : Link) (bytes : List Byte) : Receivers :=
  match link with
  | .port .sup => { r with sup := bytes }
  | .port .pnl => { r with pnl := bytes }
  | .machine .pm => { r with pm := bytes }
  | .machine .gc => { r with gc := bytes }
  | .machine .cc => { r with cc := bytes }
  | .machine .qa => { r with qa := bytes }
  | .machine .qb => { r with qb := bytes }
  | .offtake => { r with offtake := bytes }

/-- The machine's mirror shows the spot `n` and no movement. -/
def Ground.atSpot (g : Ground) (m : Machine) (n : Nat) : Bool :=
  (g.mirror m).position = some n && !(g.mirror m).moving

/-- A wall record; a wall with no record is never live (R19). -/
def Ground.wall (g : Ground) (w : Nat) : Wall :=
  (numbered g.walls w).getD { temp := 0, report := 0, valid := false, expiry := none }

/-- The state with the bytes a link's receiver holds replaced (R171). -/
def State.setRx (s : State) (link : Link) (bytes : List Byte) : State :=
  { s with ground := { s.ground with rx := s.ground.rx.set link bytes } }

/-- A whole frame has arrived on a link: its receiver holds no part of a frame (R171; log 28). -/
def State.received (s : State) (link : Link) : State := s.setRx link []

/-- A door record as it is created (R92). -/
def Door.created : Door where
  state := .unknown
  leak := 0
  force := 0
  count := 0

/-- The two door records of an oven (R92). -/
def Ground.doorPair (g : Ground) (n : Nat) : DoorPair :=
  (numbered g.doors n).getD { ps := .created, cs := .created }

/-- One side of a door pair. -/
def DoorPair.side (d : DoorPair) : Side → Door
  | .ps => d.ps
  | .cs => d.cs

/-- The pair with the door of one side replaced. -/
def DoorPair.setSide (d : DoorPair) (side : Side) (r : Door) : DoorPair :=
  match side with
  | .ps => { d with ps := r }
  | .cs => { d with cs := r }

/-- A door record (R92). -/
def Ground.door (g : Ground) (n : Nat) (side : Side) : Door := (g.doorPair n).side side

/-- The node record of an oven, line side (R125). -/
def Ground.ovenNode (g : Ground) (n : Nat) : NodeLine := (numbered g.ovenNodes n).getD .created

/-- The tower node of a car's own tower (R143). -/
def Ground.towerNode (g : Ground) : Car → NodeLine
  | .a => g.towerNodeA
  | .b => g.towerNodeB

/-! ## Plant -/

/-- An oven as it is created (R17, R125). -/
def Oven.created (n : Nat) : Oven where
  number := n
  phase := .unknown
  service := .inService
  hold := false
  chargeEnd := none
  mass := 0
  credit := 0
  target := 0
  trim := 1000
  hardRun := 0
  overdueSent := false
  unconfirmed := false
  cold := false
  emptyLongSent := false
  emptySince := none
  accrual := none
  readiness := none
  overdue := none
  dwell := none
  valve := { mode := .hold, position := none, confirmed := false, setPoint := none }

/-- The oven numbered `n`; a number that names no oven reads as an UNKNOWN oven. -/
def Plant.oven (p : Plant) (n : Nat) : Oven := (numbered p.ovens n).getD (Oven.created n)

/-- The plant with the oven numbered `n` changed. -/
def Plant.modOven (p : Plant) (n : Nat) (f : Oven → Oven) : Plant := { p with ovens := updateNumbered p.ovens n f }

/-- The plant with an oven's commanded valve changed. -/
def Plant.modValve (p : Plant) (n : Nat) (f : Valve → Valve) : Plant :=
  p.modOven n fun o => { o with valve := f o.valve }

/-- A side of the door unit. -/
def Plant.side (p : Plant) : Side → ServiceSide
  | .ps => p.psSide
  | .cs => p.csSide

/-- The plant with a side of the door unit changed. -/
def Plant.modSide (p : Plant) (side : Side) (f : ServiceSide → ServiceSide) : Plant :=
  match side with
  | .ps => { p with psSide := f p.psSide }
  | .cs => { p with csSide := f p.csSide }

/-- A car record. -/
def Plant.car (p : Plant) : Car → CarRecord
  | .a => p.carA
  | .b => p.carB

/-- The plant with a car record changed. -/
def Plant.modCar (p : Plant) (c : Car) (f : CarRecord → CarRecord) : Plant :=
  match c with
  | .a => { p with carA := f p.carA }
  | .b => { p with carB := f p.carB }

/-- The spray command of a car's own tower (R140). -/
def Plant.spray (p : Plant) : Car → Bool
  | .a => p.sprayA
  | .b => p.sprayB

/-- The plant with a tower's spray command set (R140). -/
def Plant.setSpray (p : Plant) (c : Car) (on : Bool) : Plant :=
  match c with
  | .a => { p with sprayA := on }
  | .b => { p with sprayB := on }

/-- The ticket of a number, if it is in the list. -/
def Plant.ticket? (p : Plant) (num : Nat) : Option Ticket := p.tickets.find? fun t => t.number = num

/-- The ticket that names an oven, if there is one (R64: never two). -/
def Plant.ticketOf? (p : Plant) (n : Nat) : Option Ticket := p.tickets.find? fun t => t.oven = n

/-- The plant with the ticket of a number changed. -/
def Plant.modTicket (p : Plant) (num : Nat) (f : Ticket → Ticket) : Plant :=
  { p with tickets := p.tickets.map fun t => if t.number = num then f t else t }

/-- An oven holds a ticket exactly when its phase is one of these five (1.3). -/
def Phase.holdsTicket : Phase → Bool
  | .ticketed | .opening | .pushing | .closing | .pushFault => true
  | _ => false

/-- The phases in which credit accrues (1.3). -/
def Phase.accrues : Phase → Bool
  | .coking | .ready | .ticketed => true
  | _ => false

/-- The ticket states from ALIGNING through CLOSING. -/
def TicketState.claims : TicketState → Bool
  | .aligning | .undooring | .guiding | .pushing | .closing => true
  | _ => false

/-- The port's state. -/
def Plant.port (p : Plant) : Port → PortState
  | .sup => p.sup
  | .pnl => p.pnl

/-- The plant with a port changed. -/
def Plant.modPort (p : Plant) (port : Port) (f : PortState → PortState) : Plant :=
  match port with
  | .sup => { p with sup := f p.sup }
  | .pnl => { p with pnl := f p.pnl }

/-! ## Ports -/

/-- A free port begins its next frame: a FULL or FORMAT reply, else a ready reply, else the head notice, which leaves the
queue and takes the port's sequence number (R172, R175; log 7). -/
def PortState.pump (s : PortState) : PortState :=
  match s.sending with
  | some _ => s
  | none =>
    match s.urgent, s.replies, s.queue with
    | (tag, r) :: rest, _, _ => { s with urgent := rest, sending := some (.reply tag r) }
    | [], (tag, r) :: rest, _ => { s with replies := rest, sending := some (.reply tag r) }
    | [], [], n :: rest => { s with queue := rest, sending := some (.notice s.seq n), seq := s.seq + 1 }
    | [], [], [] => s

/-- A notice judged for one port (R175): not offered below the mask, queued while there is room among 32, else discarded
with the overrun flag set. -/
def PortState.offer (s : PortState) (n : Notice) : PortState :=
  if n.level < s.mask then s
  else if s.queue.length < 32 then PortState.pump { s with queue := s.queue ++ [n] }
  else { s with overrun := true }

/-- A reply that is ready in its turn (R172). -/
def PortState.answer (s : PortState) (tag : Byte) (r : Reply) : PortState :=
  PortState.pump { s with replies := s.replies ++ [(tag, r)] }

/-- A FULL or FORMAT reply, ahead of every other reply not yet begun, and after those of its own kind that wait (R172;
log 53). -/
def PortState.answerUrgent (s : PortState) (tag : Byte) (r : Reply) : PortState :=
  PortState.pump { s with urgent := s.urgent ++ [(tag, r)] }

/-- A node address belongs to the main or a tower (R123). -/
def isPlantNode (address : Nat) : Bool := address = 0 || address = 120 || address = 121

/-- The level of each notice (10.4). -/
def NoticeBody.level : NoticeBody → Nat
  | .machinePos .. => 0
  | .phase .. | .ticketStep .. | .doorState .. | .carState .. | .claim .. => 1
  | .ready .. | .chargeDone .. => 3
  | .issue .. | .ticketEnd .. => 4
  | .skip .. | .nodeBack .. | .valveOverride .. | .machineOnline .. => 5
  | .wallStale .. | .storeSaved | .restarted .. => 6
  | .catchupFull .. | .serviceFull .. => 7
  | .doorFault .. | .levelFault .. | .emptyLong .. | .runState .. | .estopReleased => 8
  | .hardPush .. | .chargeTimeout .. => 9
  | .nodeLost a .. | .nodeFault a .. => if isPlantNode a then 12 else 9
  | .overdue .. | .valveDrift .. | .machineFault .. => 10
  | .doorDefect .. | .hotDwell .. => 11
  | .ticketAbort .. | .storeFail .. => 12
  | .carFault .. | .machineOffline .. => 13
  | .pushFault .. => 14
  | .estop .. => 15

/-- A block raises a notice: it is offered to both ports (R175). -/
def raise (g : Ground) (body : NoticeBody) (p : Plant) : Plant :=
  let n : Notice := { level := body.level, time := g.clock, body := body }
  { p with sup := p.sup.offer n, pnl := p.pnl.offer n }

/-! ## Machines and follow-up events -/

/-- A record is sent to a machine (9.1). -/
def send (m : Machine) (r : ToMachine) (p : Plant) : Plant := { p with sent := p.sent ++ [(m, r)] }

/-- A ticket in CLOSING sends its machine a step command; a PRESS awaits its answer from then on (R74, R87; log 13). -/
def sendStep (m : Machine) (op : Op) (n : Nat) (p : Plant) : Plant :=
  let q := send m (.step op n) p
  if op = .press then { q with closingPresses := q.closingPresses ++ [(m, n)] } else q

/-- A PRESS DONE answers the oldest PRESS of the machine and oven that awaits an answer, if there is one (log 13). -/
def pressAnswered (m : Machine) (n : Nat) (p : Plant) : Plant :=
  { p with closingPresses := p.closingPresses.erase (m, n) }

/-- No PRESS of the machine and oven awaits an answer any more: the machine has been given other work there (log 13). -/
def forgetPresses (m : Machine) (n : Nat) (p : Plant) : Plant :=
  { p with closingPresses := p.closingPresses.filter (· ≠ (m, n)) }

/-- STOP is sent to each machine of a list, in order. -/
def sendStops (ms : List Machine) (p : Plant) : Plant := ms.foldl (fun p m => send m .stop p) p

/-- The place of a follow-up event among those of one step (log 3): what is due at once and what the work under way is told
comes first, then the offers of freed machines in the order of R167 (a waiting ticket, the charge unit, the door unit), and
the evaluation last. -/
def Task.rank : Task → Nat
  | .pacing | .recheckTarget _ | .carReported _ | .carLoaded _ | .carFaulted .. | .readiness _ | .overdue _ | .dwell _
  | .drain _ => 0
  | .offerTicket => 1
  | .recheckAsk => 2
  | .testJob _ => 3
  | .evaluate => 4

/-- A follow-up event takes its place after those of its rank and of lower ranks that wait already (log 3). -/
def insertTask (t : Task) : List Task → List Task
  | [] => [t]
  | x :: rest => if x.rank ≤ t.rank then x :: insertTask t rest else t :: x :: rest

/-- A follow-up event is started (log 3). -/
def start (t : Task) (p : Plant) : Plant := { p with agenda := insertTask t p.agenda }

/-- A list of follow-up events is started, in order. -/
def startAll (ts : List Task) (p : Plant) : Plant :=
  { p with agenda := ts.foldl (fun agenda t => insertTask t agenda) p.agenda }

/-! ## Claims -/

/-- The claim of PM or GC; the other machines have none (R165). -/
def Plant.claim (p : Plant) : Machine → Claim
  | .pm => p.claimPm
  | .gc => p.claimGc
  | _ => .free

/-- The claim of a machine changes, raising CLAIM (R166). -/
def setClaim (g : Ground) (m : Machine) (new : Claim) (p : Plant) : Plant :=
  if p.claim m = new then p
  else
    let q : Plant :=
      match m with
      | .pm => { p with claimPm := new }
      | .gc => { p with claimGc := new }
      | _ => p
    raise g (.claim m (p.claim m) new) q

/-- The waiting work a release is offered to: first a waiting ticket, then, for PM, the charge unit, then the door unit
(R167). -/
def releaseOffers (ms : List Machine) : List Task :=
  [.offerTicket] ++ (if ms.contains .pm then [.recheckAsk] else []) ++
    (if ms.contains .pm then [.testJob .ps] else []) ++ (if ms.contains .gc then [.testJob .cs] else [])

/-- The holder releases its machines at one event (R167); in a warm restart the release is offered to no work (R179). -/
def releaseClaims (g : Ground) (ms : List Machine) (offered : Bool) (p : Plant) : Plant :=
  let q := ms.foldl (fun p m => setClaim g m .free p) p
  if offered then startAll (releaseOffers ms) q else q

end Sys2Proof.Machine
end

