-- ==== Sys2Proof/Machine/Flags.lean ====
section
/-! DEFINITION. The credit unit's figures (chapter 2): wall liveness, an oven's rate and its COLD_DATA flag, accrual, the
credit target, the readiness test and expiry, the forecast and the overdue timer. -/

namespace Sys2Proof.Machine

/-- A wall is live at the clock's time: valid, and reported at most WALL_STALE ago (R22). -/
def wallLive (g : Ground) (w : Nat) : Bool :=
  (g.wall w).valid && g.clock - (g.wall w).report ≤ (g.params.wallStale : Int)

/-- Either wall of the oven is live; oven n lies between walls n and n + 1 (R19). -/
def anyWallLive (g : Ground) (n : Nat) : Bool := wallLive g n || wallLive g (n + 1)

/-- The oven's rate from its walls as they stand (R23). -/
def rateOf (g : Ground) (n : Nat) : Nat :=
  match wallLive g n, wallLive g (n + 1) with
  | true, true => ((g.wall n).temp + (g.wall (n + 1)).temp) / 2 - g.params.tBase
  | true, false => (g.wall n).temp - g.params.tBase
  | false, true => (g.wall (n + 1)).temp - g.params.tBase
  | false, false => 0

/-- Step 1 and 2 of an accrual event (R25): the credit rises by rate × elapsed, saturating, and the last accrual time is
now. An oven without accrual state is left as it is. -/
def accrueOven (now : Time) (o : Oven) : Oven :=
  match o.accrual with
  | none => o
  | some a =>
    { o with
      credit := min maxU32 (o.credit + a.rate * (now - a.since).toNat)
      accrual := some { a with since := now } }

/-- The credit part of a readiness expiry (R31). -/
def creditPart (o : Oven) : Option Time :=
  match o.accrual with
  | none => none
  | some a =>
    if o.target ≤ o.credit then some a.since
    else if a.rate = 0 then none
    else
      let t := a.since + (ceilDiv (o.target - o.credit) a.rate : Nat)
      if maxClock < t then none else some t

/-- The time part of a readiness expiry (R31). -/
def timePart (g : Ground) (o : Oven) : Time := o.chargeEnd.getD 0 + (g.params.tMin : Int)

/-- The readiness expiry of an oven in COKING; an oven in another phase has none (R31; log 25). -/
def readinessExpiryOf (g : Ground) (o : Oven) : Option Time :=
  if o.phase = .coking then
    match creditPart o with
    | some c => some (max c (timePart g o))
    | none => if g.clock < timePart g o then some (timePart g o) else none
  else none

/-- The readiness expiry is recomputed; one not later than now is reached at once (R31). -/
def resetReadiness (g : Ground) (n : Nat) (p : Plant) : Plant :=
  let e := readinessExpiryOf g (p.oven n)
  let q := p.modOven n fun o => { o with readiness := e }
  match e with
  | some t => if t ≤ g.clock then start (.readiness n) q else q
  | none => q

/-- Step 3 of an accrual event (R25): rate (R23), COLD_DATA (R24) and readiness expiry (R31) from the walls as they
stand, for an oven that has accrual state. -/
def recomputeOven (g : Ground) (n : Nat) (p : Plant) : Plant :=
  match (p.oven n).accrual with
  | none => p
  | some a =>
    resetReadiness g n <| p.modOven n fun o =>
      { o with accrual := some { a with rate := rateOf g n }, cold := !anyWallLive g n }

/-- The credit is brought up to now (R25, steps 1 and 2). -/
def accrue (g : Ground) (n : Nat) (p : Plant) : Plant := p.modOven n (accrueOven g.clock)

/-- An accrual event of an oven (R25). An oven outside the accruing phases has no accrual state and is not changed. -/
def accrualEvent (g : Ground) (n : Nat) (p : Plant) : Plant := recomputeOven g n (accrue g n p)

/-- Accrual begins or resumes now, with the credit as it stands (R27). -/
def beginAccrual (g : Ground) (n : Nat) (p : Plant) : Plant :=
  recomputeOven g n <| p.modOven n fun o => { o with accrual := some { since := g.clock, rate := 0 } }

/-- Rate, accrual state, readiness expiry and overdue timer are discarded (R27). -/
def dropAccrual (n : Nat) (p : Plant) : Plant :=
  p.modOven n fun o => { o with accrual := none, readiness := none, overdue := none }

/-- The mass as clamped to [M_MIN, M_MAX] (R28, step 1). -/
def clampMass (q : Params) (mass : Nat) : Nat := clampNat q.mMin q.mMax mass

/-- The credit target of a clamped mass and a trim (R28, steps 2 to 4). -/
def creditTarget (q : Params) (mass trim : Nat) : Nat :=
  clampNat 1 maxU32 ((q.cBase * mass / q.mNom) * trim / 1000)

/-- The mass is clamped and stored, and the credit target computed from it and the oven's trim (R28). -/
def setTarget (g : Ground) (n : Nat) (mass : Nat) (p : Plant) : Plant :=
  p.modOven n fun o =>
    { o with mass := clampMass g.params mass, target := creditTarget g.params (clampMass g.params mass) o.trim }

/-- Seconds since charge end, the net coking time (R30). -/
def netCoking (g : Ground) (o : Oven) : Int := g.clock - o.chargeEnd.getD 0

/-- The readiness test (R30). -/
def readinessTest (g : Ground) (o : Oven) : Bool :=
  o.target ≤ o.credit && (g.params.tMin : Int) ≤ netCoking g o

/-- The forecast (R33); `none` stands for NONE. -/
def forecast (g : Ground) (o : Oven) : Option Int :=
  match o.phase with
  | .ready => some 0
  | .coking =>
    match o.accrual, o.readiness with
    | some a, some e =>
      if a.rate = 0 then none
      else if 604800 < e - g.clock then none
      else some (max 0 (e - g.clock))
    | _, _ => none
  | _ => none

/-- The overdue timer is set for an oven in COKING or READY whose OVERDUE_SENT is clear; one not later than now is reached
at once (R34). -/
def setOverdue (g : Ground) (n : Nat) (p : Plant) : Plant :=
  let o := p.oven n
  if (o.phase = .coking || o.phase = .ready) && !o.overdueSent then
    let t := o.chargeEnd.getD 0 + (g.params.tMax : Int)
    let q := p.modOven n fun o => { o with overdue := some t }
    if t ≤ g.clock then start (.overdue n) q else q
  else p

/-- The empty dwell timer of an oven in EMPTY whose EMPTY_LONG_SENT is clear; one not later than now expires at once
(R120). -/
def setDwell (g : Ground) (n : Nat) (p : Plant) : Plant :=
  let o := p.oven n
  match o.phase, o.emptyLongSent, o.emptySince with
  | .empty, false, some t =>
    let e := t + (g.params.emptyLimit : Int)
    let q := p.modOven n fun o => { o with dwell := some e }
    if e ≤ g.clock then start (.dwell n) q else q
  | _, _, _ => p

/-- The overdue timer is reached: OVERDUE is raised and OVERDUE_SENT set (R34). A timer not set or not yet due is not
reached. -/
def overdueReached (g : Ground) (n : Nat) (p : Plant) : Plant :=
  let o := p.oven n
  match o.overdue with
  | none => p
  | some t =>
    if g.clock < t then p
    else
      raise g (.overdue n o.phase (netCoking g o) o.credit)
        (p.modOven n fun o => { o with overdue := none, overdueSent := true })

/-- A hard push is judged by the ram peak load (R35). -/
def judgeLoad (g : Ground) (n : Nat) (load : Nat) (p : Plant) : Plant :=
  if g.params.hardLoad < load then
    let q := p.modOven n fun o =>
      { o with trim := min 1250 (o.trim + g.params.trimStep), hardRun := min 255 (o.hardRun + 1) }
    raise g (.hardPush n load (q.oven n).trim (q.oven n).hardRun) q
  else p.modOven n fun o => { o with hardRun := 0 }

end Sys2Proof.Machine
end

