-- ==== Sys2Proof/Machine/Service.lean ====
section
/-! DEFINITION. The door service lists (5.4): qualification, joining, leaving, refilling, and the moves between the EMPTY
group and the working group. -/

namespace Sys2Proof.Machine

/-- A ticket of the oven stands in CLOSING. -/
def closingTicketOf (p : Plant) (n : Nat) : Bool := p.tickets.any fun t => t.oven = n && t.state = .closing

/-- A door qualifies for service (R98). -/
def qualifies (g : Ground) (p : Plant) (n : Nat) (side : Side) : Bool :=
  match (g.door n side).state with
  | .hung => !closingTicketOf p n
  | .pressFault => true
  | .pressed => g.params.leakThreshold ≤ (g.door n side).leak
  | _ => false

/-- The door is in its side's service list. -/
def ServiceSide.lists (d : ServiceSide) (n : Nat) : Bool := d.list.any fun e => e.oven = n

/-- The door is held by its side's service job. -/
def ServiceSide.holds (d : ServiceSide) (n : Nat) : Bool :=
  match d.job with
  | some j => j.oven = n
  | none => false

/-- The oven of an entry is in phase EMPTY: the entry belongs to the EMPTY group (R99). -/
def inEmptyGroup (p : Plant) (e : ServiceEntry) : Bool := (p.oven e.oven).phase = .empty

/-- An entry placed immediately after the last entry of the EMPTY group (R99, R101). -/
def afterEmptyGroup (p : Plant) (l : List ServiceEntry) (e : ServiceEntry) : List ServiceEntry :=
  l.filter (inEmptyGroup p) ++ [e] ++ l.filter fun x => !inEmptyGroup p x

/-- An entry placed as R99 gives: after the EMPTY group when its oven is EMPTY, otherwise at the tail. -/
def placeEntry (p : Plant) (l : List ServiceEntry) (e : ServiceEntry) : List ServiceEntry :=
  if inEmptyGroup p e then afterEmptyGroup p l e else l ++ [e]

/-- A qualifying door joins its side's list (R99), which is a test point of the side's job at a restore too (R103, R110;
log 40), or finds it full (R100), as an unlisted door that qualified before and is judged again does (log 39). A door already
listed or held does not join. -/
def joinList (g : Ground) (n : Nat) (side : Side) (p : Plant) : Plant :=
  let d := p.side side
  if d.lists n || d.holds n then p
  else if 16 ≤ d.list.length then
    let q := p.modSide side fun d => { d with latch := true }
    if d.latch then q else raise g (.serviceFull side n) q
  else
    start (.testJob side) <|
      p.modSide side fun d => { d with list := placeEntry p d.list { oven := n, joined := g.clock } }

/-- The first door of a side, by ascending oven number, that qualifies, is not listed and is not held (R100). -/
def refillChoice (g : Ground) (p : Plant) (side : Side) : Option Nat :=
  ((List.range g.count).map (· + 1)).find? fun n =>
    qualifies g p n side && !(p.side side).lists n && !(p.side side).holds n

/-- After a departure the latch is cleared and the list refilled at one place (R100). -/
def refill (g : Ground) (side : Side) (p : Plant) : Plant :=
  let q := p.modSide side fun d => { d with latch := false }
  match refillChoice g q side with
  | some n => joinList g n side q
  | none => q

/-- A door leaves its side's list, if it is there (R98, R100). -/
def leaveList (g : Ground) (n : Nat) (side : Side) (p : Plant) : Plant :=
  if (p.side side).lists n then
    refill g side <| p.modSide side fun d => { d with list := d.list.filter fun e => e.oven ≠ n }
  else p

/-- A door's qualification is judged again (R98). -/
def rejudge (g : Ground) (n : Nat) (side : Side) (p : Plant) : Plant :=
  if qualifies g p n side then joinList g n side p else leaveList g n side p

/-- Both doors of an oven are judged again, PS before CS (R98; log 46). -/
def rejudgeBoth (g : Ground) (n : Nat) (p : Plant) : Plant := rejudge g n .cs (rejudge g n .ps p)

/-- At entry to CLOSING a HUNG door stops qualifying (R98): a door of the oven that no longer qualifies leaves its list, PS
before CS (R99; log 21, 46). -/
def dropUnqualified (g : Ground) (n : Nat) (p : Plant) : Plant :=
  let p := if qualifies g p n .ps then p else leaveList g n .ps p
  if qualifies g p n .cs then p else leaveList g n .cs p

/-- When an oven enters or leaves EMPTY its entry moves to just after the other entries of the EMPTY group, keeping its
time joined (R101). -/
def regroupSide (n : Nat) (side : Side) (p : Plant) : Plant :=
  p.modSide side fun d =>
    match d.list.find? fun e => e.oven = n with
    | none => d
    | some e => { d with list := afterEmptyGroup p (d.list.filter fun x => x.oven ≠ n) e }

/-- R101 on both sides. -/
def regroup (n : Nat) (p : Plant) : Plant := regroupSide n .cs (regroupSide n .ps p)

/-- The first entry of a list goes into service: it leaves the list, which is refilled while the job holds its door (R104). -/
def takeHead (g : Ground) (side : Side) (j : Job) (p : Plant) : Plant :=
  refill g side <| p.modSide side fun d => { d with list := d.list.tail, job := some j }

end Sys2Proof.Machine
end

