-- ==== Sys2Proof/Machine/Phases.lean ====
section
/-! DEFINITION. Oven phases (1.3): which cause moves an oven from which phase (R4), the fields tied to a phase and the blocks
informed of a change (R5, R27), and the return of an oven from a ticketed phase by the readiness test (R30). -/

namespace Sys2Proof.Machine

/-- The table of R4: the cause takes an oven from one phase to another. -/
def Cause.moves : Cause → Phase → Phase → Bool
  | .ovenRestore, .unknown, .empty => true
  | .ovenRestore, .unknown, .coking => true
  | .chargeGo, .empty, .charging => true
  | .chargeEnd, .charging, .coking => true
  | .readinessMet, .coking, .ready => true
  | .ticketIssue, .ready, .ticketed => true
  | .forcedIssue, .coking, .ticketed => true
  | .enterUndooring, .ticketed, .opening => true
  | .enterPushing, .opening, .pushing => true
  | .enterClosing, .pushing, .closing => true
  | .ticketComplete, .closing, .empty => true
  | .faultHold, .opening, .pushFault => true
  | .faultHold, .pushing, .pushFault => true
  | .faultHold, .closing, .pushFault => true
  | .clearedEmpty, .pushFault, .empty => true
  | .clearedFull, .pushFault, .ready => true
  | .clearedFull, .pushFault, .coking => true
  | .ticketReturn, .ticketed, .ready => true
  | .ticketReturn, .ticketed, .coking => true
  | _, _, _ => false

/-- The record fields tied to a phase change (R3, R5), and the timers that end with the phase left (R31, R34, R120). -/
def phaseFields (now : Time) (old new : Phase) (o : Oven) : Oven :=
  { o with
    phase := new
    credit := if new = .empty ∨ (old = .charging ∧ new = .coking) then 0 else o.credit
    chargeEnd :=
      if new = .empty then none else if old = .charging ∧ new = .coking then some now else o.chargeEnd
    emptySince := if new = .empty then some now else none
    emptyLongSent := if new = .empty ∨ old = .empty then false else o.emptyLongSent
    cold := if new = .empty then false else o.cold
    unconfirmed := if new = .charging then false else o.unconfirmed
    overdueSent := if old = .charging ∧ new = .coking then false else o.overdueSent
    readiness := if new = .coking then o.readiness else none
    overdue := if new = .coking ∨ new = .ready then o.overdue else none
    dwell := if new = .empty then o.dwell else none
    accrual := if new.accrues then o.accrual else none }

/-- The other blocks' part of a phase change (R5, R27, R98): the door unit's lists, the empty dwell, accrual at entry to
TICKETED and OPENING, and the triggers of evaluation (R51). -/
def phaseInforms (g : Ground) (n : Nat) (old new : Phase) (p : Plant) : Plant :=
  let p := if old = .empty ∨ new = .empty then regroup n p else p
  let p := if new = .empty then setDwell g n p else p
  let p := if new = .ticketed then recomputeOven g n p else p
  let p := if old = .closing then rejudgeBoth g n p else p
  let p := if new = .closing then dropUnqualified g n p else p
  if new = .ready ∨ (new = .coking ∧ (old = .charging ∨ old = .unknown)) then start .evaluate p else p

/-- A phase change is asked for: applied when the oven's phase is a from-phase of the cause, otherwise the phase stays
(R4). An accruing oven first accrues to now (R27). -/
def changePhase (g : Ground) (n : Nat) (new : Phase) (cause : Cause) (p : Plant) : Plant :=
  let old := (p.oven n).phase
  if cause.moves old new then
    let p := accrue g n p
    let p := p.modOven n (phaseFields g.clock old new)
    phaseInforms g n old new (raise g (.phase n old new cause) p)
  else p

/-- The oven becomes READY: the change is asked for and READY is raised (R30). -/
def becomeReady (g : Ground) (n : Nat) (cause : Cause) (p : Plant) : Plant :=
  let q := changePhase g n .ready cause p
  let o := q.oven n
  raise g (.ready n o.credit o.target (netCoking g o)) q

/-- An oven returns from TICKETED or PUSH_FAULT to READY or COKING by the readiness test, and accrual resumes (R27, R30). -/
def returnOven (g : Ground) (n : Nat) (cause : Cause) (p : Plant) : Plant :=
  let p := accrue g n p
  let p :=
    if readinessTest g (p.oven n) then becomeReady g n cause p else changePhase g n .coking cause p
  setOverdue g n (beginAccrual g n p)

/-- A readiness expiry is reached (R32): the oven accrues to now and is tested. An expiry not set or not yet due is not
reached. -/
def readinessReached (g : Ground) (n : Nat) (p : Plant) : Plant :=
  let o := p.oven n
  match o.phase, o.readiness with
  | .coking, some t =>
    if g.clock < t then p
    else
      let p := accrue g n p
      if readinessTest g (p.oven n) then recomputeOven g n (becomeReady g n .readinessMet p)
      else recomputeOven g n p
  | _, _ => p

end Sys2Proof.Machine
end

