-- ==== Sys2Proof/Machine/Track.lean ====
section
/-! DEFINITION. The track unit (chapter 8): positions, reach and the choice of car, binding, movement authority, the car's
cycle, the water arbiter, and car faults. -/

namespace Sys2Proof.Machine

/-! ## Positions, reach, choice -/

/-- The track position of an oven's spot (R143). -/
def ovenSpot (n : Nat) : Nat := n + 1

/-- The track position of a car's own tower (R143). -/
def towerSpot (g : Ground) : Car → Nat
  | .a => 1
  | .b => g.count + 2

/-- The track position of a car's own wharf (R143). -/
def wharfSpot (g : Ground) : Car → Nat
  | .a => 0
  | .b => g.count + 3

/-- The stretch lies wholly within the car's own half (R143). -/
def inOwnHalf (g : Ground) (c : Car) (lo hi : Nat) : Bool :=
  match c with
  | .a => hi ≤ g.params.carSplit.getD 0 + 1
  | .b => g.params.carSplit.getD 0 + 2 ≤ lo && hi ≤ g.count + 3

/-- A stretch on a car's own side of a position the other car holds: below it for QA, above it for QB. -/
def onOwnSide (c : Car) (lo hi x : Nat) : Bool :=
  match c with
  | .a => hi < x
  | .b => x < lo

/-- The stretch is clear of the other car's span, where it has one (R147, R150). -/
def clearOfSpan (c : Car) (lo hi : Nat) : Option (Nat × Nat) → Bool
  | none => true
  | some (l, h) => onOwnSide c lo hi l && onOwnSide c lo hi h

/-- The stretch is clear of the other car: of its span, of its position, and within the own half while that position is
unknown (R147, R150). -/
def clearStretch (g : Ground) (p : Plant) (c : Car) (lo hi : Nat) : Bool :=
  let o := p.car (otherCar c)
  clearOfSpan c lo hi o.span &&
    match o.position with
    | some x => onOwnSide c lo hi x
    | none => inOwnHalf g c lo hi

/-- The position is ordered with the other car (R146). -/
def ordered (g : Ground) (p : Plant) (c : Car) (x : Nat) : Bool :=
  let o := p.car (otherCar c)
  x ≤ g.count + 3 && clearOfSpan c x x o.span &&
    match o.position with
    | some y => onOwnSide c x x y
    | none => true

/-- The car reaches the position (R147). -/
def reaches (g : Ground) (p : Plant) (c : Car) (x : Nat) : Bool :=
  let r := p.car c
  r.inService && r.state ≠ .fault && r.position.isSome && clearStretch g p c x x

/-- The states a bindable car may stand in (R148). -/
def CarState.free : CarState → Bool
  | .parked | .dumping | .runToWharf => true
  | _ => false

/-- The car is bindable (R148). -/
def bindable (p : Plant) (c : Car) : Bool :=
  let r := p.car c
  r.inService && r.bound.isNone && r.state.free

/-- The track unit's answer for an oven (R148). -/
inductive CarAnswer where
  | available (c : Car)
  | busy
  | noCar
  deriving DecidableEq, Repr, Inhabited

/-- An oven's preferred car (R143). -/
def preferredCar (g : Ground) (n : Nat) : Car := if n ≤ g.params.carSplit.getD 0 then .a else .b

/-- What one serving car offers an oven (R148). -/
def offerOf (g : Ground) (p : Plant) (c : Car) (n : Nat) : CarAnswer :=
  if reaches g p c (ovenSpot n) then if bindable p c then .available c else .busy else .noCar

/-- The car for an oven: the preferred car alone while it is in service and not in FAULT, otherwise the other car (R148). -/
def carFor (g : Ground) (p : Plant) (n : Nat) : CarAnswer :=
  let c := preferredCar g n
  let r := p.car c
  if r.inService && r.state ≠ .fault then offerOf g p c n else offerOf g p (otherCar c) n

/-! ## States, targets, arrivals -/

/-- The oven of the ticket a car is bound to. -/
def boundOven (p : Plant) (c : Car) : Option Nat :=
  match (p.car c).bound with
  | none => none
  | some num => (p.ticket? num).map fun t => t.oven

/-- A car changes its state, raising CAR_STATE; a change that makes it bindable is reported to the schedule unit (R144,
R148). -/
def setCarState (g : Ground) (c : Car) (new : CarState) (p : Plant) : Plant :=
  let old := (p.car c).state
  if old = new then p
  else
    let q := p.modCar c fun r => { r with state := new }
    let q := raise g (.carState c old new (q.car c).position (q.car c).bound) q
    if bindable q c && !old.free then start .evaluate q else q

/-- The grant is given to the first waiting car whose tower is ONLINE and unfaulted, and its spray commanded ON (R157). -/
def lookForGrant (g : Ground) (p : Plant) : Plant :=
  match p.grant with
  | some _ => p
  | none =>
    match p.waiting.find? fun c => (g.towerNode c).online && !(g.towerNode c).fault with
    | none => p
    | some c => Plant.setSpray { p with grant := some c, waiting := p.waiting.filter (· ≠ c) } c true

/-- A car asks for the water (R155, R157). -/
def requestWater (g : Ground) (c : Car) (p : Plant) : Plant :=
  lookForGrant g (if p.waiting.contains c then p else { p with waiting := p.waiting ++ [c] })

/-- A car at its target at rest: the target is cleared, the span is where it stands, and its state advances (R151, R154 to
R156). -/
def arrive (g : Ground) (c : Car) (x : Nat) (p : Plant) : Plant :=
  let p := p.modCar c fun r => { r with target := none, span := some (x, x) }
  let r := p.car c
  match r.state with
  | .runToOven =>
    if r.bound.isSome then start (.carReported c) (setCarState g c .atOven p) else setCarState g c .parked p
  | .runToTower => requestWater g c (setCarState g c .waterWait p)
  | .runToWharf =>
    let q := setCarState g c .dumping p
    if g.running then send (carMachine c) .dump q else q
  | _ => p

/-- A target is requested (R150): granted with the stretch as span and a MOVE, or an arrival at once when the car already
stands there; otherwise PENDING, the span as it was. -/
def requestTarget (g : Ground) (c : Car) (x : Nat) (p : Plant) : Plant :=
  let r := p.car c
  match r.position with
  | none => p.modCar c fun r => { r with target := some { position := x, granted := false } }
  | some y =>
    if g.running && !p.trackHold && clearStretch g p c (min x y) (max x y) then
      let q := p.modCar c fun r =>
        { r with span := some (min x y, max x y), target := some { position := x, granted := true } }
      if y = x && !r.moving then arrive g c x q else send (carMachine c) (.move x) q
    else p.modCar c fun r => { r with target := some { position := x, granted := false } }

/-- The position a car's running state runs to (R150). -/
def stateTarget (g : Ground) (p : Plant) (c : Car) : Option Nat :=
  match (p.car c).state with
  | .runToOven => (boundOven p c).map ovenSpot
  | .runToTower => some (towerSpot g c)
  | .runToWharf => some (wharfSpot g c)
  | _ => none

/-- A car enters RUN_TO_TOWER with its tower as target. -/
def runToTower (g : Ground) (c : Car) (p : Plant) : Plant :=
  requestTarget g c (towerSpot g c) (setCarState g c .runToTower p)

/-- A bound car in PARKED starts for its oven: AT_OVEN at once when it stands at the spot at rest, RUN_TO_OVEN when the run
state is RUNNING, otherwise it waits for RESUME (R149; log 14). -/
def startRun (g : Ground) (c : Car) (n : Nat) (p : Plant) : Plant :=
  let r := p.car c
  if r.position = some (ovenSpot n) && !r.moving then start (.carReported c) (setCarState g c .atOven p)
  else if g.running && r.position.isSome then requestTarget g c (ovenSpot n) (setCarState g c .runToOven p)
  else p

/-- The hot dwell timer is set from now (R159). -/
def setHot (g : Ground) (c : Car) (p : Plant) : Plant :=
  p.modCar c fun r =>
    { r with loading := some g.clock, hot := some (g.clock + (g.params.hotDwell : Int) + 1) }

/-! ## Binding -/

/-- The available car is bound to a new ticket for an oven (R149). -/
def bindCar (g : Ground) (c : Car) (num n : Nat) (p : Plant) : Plant :=
  let q := p.modCar c fun r => { r with bound := some num }
  if (p.car c).state = .parked then startRun g c n q else q

/-- The binding of a car ends, and the car is disposed of by its state (R149). At the entry to FAULT_HELD a car at its oven
that is shown loaded is treated as loaded too (R79; log 22). -/
def unbindCar (g : Ground) (c : Car) (faultHeld : Bool) (p : Plant) : Plant :=
  let p := p.modCar c fun r => { r with bound := none }
  let r := p.car c
  match r.state with
  | .parked | .runToWharf | .dumping => if bindable p c then start .evaluate p else p
  | .runToOven =>
    if faultHeld && r.loaded then runToTower g c (setHot g c p)
    else
      match r.target with
      | some { granted := true, .. } => p
      | _ => setCarState g c .parked (p.modCar c fun r => { r with target := none })
  | .atOven => if faultHeld && r.loaded then runToTower g c (setHot g c p) else setCarState g c .parked p
  | .receiving => runToTower g c (if r.hot.isSome then p else setHot g c p)
  | _ => p

/-- The bound car is let go at the ticket's entry to CLOSING (R65, R154). -/
def letCarGo (g : Ground) (c : Car) (p : Plant) : Plant :=
  if (p.car c).state = .receiving then runToTower g c p else p

/-- RECEIVE, naming the oven, is sent to the bound car in AT_OVEN (R154). -/
def sendReceive (c : Car) (n : Nat) (p : Plant) : Plant :=
  if (p.car c).state = .atOven then send (carMachine c) (.step .receive n) p else p

/-! ## Faults -/

/-- A car enters FAULT, or, being in FAULT, has another fault cause reported, with FAULT as the state left (R160; log 42).
At the entry CAR_STATE is raised before CAR_FAULT (R144, R160; log 48). -/
def faultCar (g : Ground) (c : Car) (reason : CarFault) (p : Plant) : Plant :=
  let r := p.car c
  if r.state = .fault then raise g (.carFault c reason r.position .fault) p
  else
    let track : Bool := reason = .overrun || reason = .order
    let p := if track then sendStops [.qa, .qb] { p with trackHold := true } else send (carMachine c) .stop p
    let p := p.modCar c fun r => { r with target := none, drain := none, hot := none, fault := some reason }
    let p := { p with waiting := p.waiting.filter (· ≠ c) }
    let p := if p.grant = some c && r.state = .waterWait then p.setSpray c false else p
    let p := setCarState g c .fault p
    let p := raise g (.carFault c reason r.position r.state) p
    match r.bound with
    | some num => start (.carFaulted c num reason) p
    | none => p

/-! ## Position reports -/

/-- A first report sets up a car whose position was unknown (R146). -/
def firstReport (g : Ground) (c : Car) (x : Nat) (p : Plant) : Plant :=
  if (p.car c).state = .fault then p
  else if ordered g p c x then
    let p := p.modCar c fun r => { r with span := some (x, x) }
    if (p.car c).loaded then runToTower g c (setHot g c p)
    else if bindable p c then start .evaluate p
    else p
  else faultCar g c .order p

/-- A position lies within a span. -/
def inSpan (x : Nat) : Option (Nat × Nat) → Bool
  | some (l, h) => l ≤ x && x ≤ h
  | none => false

/-- The span as a report at `x` trims it: to the stretch still to run of a granted target, otherwise to `x` (R151). -/
def trimmedSpan (x : Nat) : Option Target → Nat × Nat
  | some { position := t, granted := true } => (min x t, max x t)
  | _ => (x, x)

/-- A report of a car of known position: the span is judged and trimmed, and an arrival taken; a report outside the span of
a car not in FAULT is an overrun (R151, R152, R154). -/
def spanReport (g : Ground) (c : Car) (x : Nat) (moving : Bool) (p : Plant) : Plant :=
  let r := p.car c
  if r.state = .fault then
    if inSpan x r.span && !moving then p.modCar c fun r => { r with span := some (x, x) } else p
  else if inSpan x r.span then
    let p := p.modCar c fun r => { r with span := some (trimmedSpan x r.target) }
    if (r.target.any fun t => t.position = x) && !moving then arrive g c x p
    else if r.state = .atOven && moving then
      setCarState g c .runToOven (p.modCar c fun r => { r with target := some { position := x, granted := true } })
    else p
  else faultCar g c .overrun p

/-- A report of a car in RECEIVING is the first that shows it loaded (R154; log 15). -/
def firstLoaded (r : CarRecord) : Bool := r.state = .receiving && r.loaded && r.loading.isNone

/-- What a report tells the push sequencer, in the order of steps 3 and 4 of R145 (log 51): the completion of the car's part
of PUSHING, with the hot dwell started, at the first loaded report (R154); and then, of a bound car, the report itself, which
may abort the ticket for a movement (R73, R77). -/
def tellSequencer (g : Ground) (c : Car) (p : Plant) : Plant :=
  let p := if firstLoaded (p.car c) then start (.carLoaded c) (setHot g c p) else p
  if (p.car c).bound.isSome then start (.carReported c) p else p

/-- A POS record of a car, in the order of R145. -/
def carReport (g : Ground) (c : Car) (x : Nat) (moving loaded : Bool) (p : Plant) : Plant :=
  let old := p.car c
  let p := p.modCar c fun r => { r with position := some x, moving := moving, loaded := loaded }
  let p := if old.position.isNone then firstReport g c x p else spanReport g c x moving p
  let p := tellSequencer g c p
  if old.position.isNone || (p.car c).span ≠ old.span then start (.recheckTarget (otherCar c)) p else p

/-- A pending target is re-checked against R150 (R151). -/
def recheckTarget (g : Ground) (c : Car) (p : Plant) : Plant :=
  match (p.car c).target with
  | some { position := x, granted := false } => requestTarget g c x p
  | _ => p

/-! ## Quench, drain, dump -/

/-- The grant is released and offered to the waiting list (R157, R158). -/
def releaseGrant (g : Ground) (p : Plant) : Plant := lookForGrant g { p with grant := none }

/-- A tower's spray state reaches the track unit (R158): ON confirmed starts the quench of the grant holder, OFF confirmed
releases the grant, and the arbiter looks again. The report is judged by the spray command as it now stands, whatever the poll
carried (log 49). -/
def sprayReported (g : Ground) (c : Car) (on : Bool) (p : Plant) : Plant :=
  if p.grant = some c then
    if on && p.spray c then
      if (p.car c).state = .waterWait then
        setCarState g c .quenching <| p.modCar c fun r =>
          { r with hot := none, quench := some (g.clock + (g.params.quenchTime : Int)) }
      else p
    else if !on && !p.spray c then
      if (p.car c).state = .quenching then
        let q := p.modCar c fun r => { r with drain := some (g.clock + (g.params.drainTime : Int)) }
        let q := releaseGrant g (setCarState g c .draining q)
        if g.params.drainTime = 0 then start (.drain c) q else q
      else releaseGrant g p
    else p
  else lookForGrant g p

/-- The quench timer expires: the spray is commanded OFF (R155). -/
def quenchReached (g : Ground) (c : Car) (p : Plant) : Plant :=
  match (p.car c).quench with
  | none => p
  | some t => if g.clock < t then p else (p.modCar c fun r => { r with quench := none }).setSpray c false

/-- The drain timer expires: the car runs to its wharf (R155). -/
def drainReached (g : Ground) (c : Car) (p : Plant) : Plant :=
  match (p.car c).drain with
  | none => p
  | some t =>
    if g.clock < t then p
    else
      requestTarget g c (wharfSpot g c) <| setCarState g c .runToWharf <|
        p.modCar c fun r => { r with drain := none }

/-- The hot dwell timer expires: HOT_DWELL is raised, with the track position of the car's tower (R143, R159). -/
def hotReached (g : Ground) (c : Car) (p : Plant) : Plant :=
  match (p.car c).hot with
  | none => p
  | some t =>
    if g.clock < t then p
    else
      let r := p.car c
      raise g (.hotDwell c (towerSpot g c) r.state (g.clock - r.loading.getD 0)) (p.modCar c fun r => { r with hot := none })

/-- DUMP DONE from a car in DUMPING, whatever oven it names (R156; log 23). -/
def dumpDone (g : Ground) (c : Car) (p : Plant) : Plant :=
  if (p.car c).state = .dumping then
    let p := setCarState g c .parked (p.modCar c fun r => { r with loaded := false })
    match boundOven p c with
    | some n => startRun g c n p
    | none => p
  else p

/-! ## Run state and restart -/

/-- One car at RESUME (R153). -/
def resumeCar (g : Ground) (c : Car) (p : Plant) : Plant :=
  let r := p.car c
  match r.target, r.state with
  | some { position := x, granted := true }, _ => send (carMachine c) (.move x) p
  | some { position := x, granted := false }, _ => requestTarget g c x p
  | none, .parked =>
    match boundOven p c with
    | some n => startRun g c n p
    | none => p
  | none, .dumping => send (carMachine c) .dump p
  | none, _ =>
    match stateTarget g p c with
    | some x => requestTarget g c x p
    | none => p

/-- RESUME taking the run state to RUNNING at the track unit: the track hold clears and each car goes on (R152, R153). -/
def resumeTrack (g : Ground) (p : Plant) : Plant :=
  resumeCar g .b (resumeCar g .a { p with trackHold := false })

/-- A car at warm restart: a pending target is dropped and the span trimmed to the car's position (R162), but for a car in FAULT
that is moving or stands outside its span, whose span stays (R151; log 57). -/
def restartCar (c : Car) (p : Plant) : Plant :=
  p.modCar c fun r =>
    let target := match r.target with
      | some { position := x, granted := true } => some { position := x, granted := true }
      | _ => none
    let span := match r.position, r.span with
      | some x, some (l, h) =>
        if r.state = .fault && !(inSpan x (some (l, h)) && !r.moving) then some (l, h) else some (trimmedSpan x target)
      | _, s => s
    { r with target := target, span := span }

end Sys2Proof.Machine
end

