-- ==== Sys2Proof/Machine/Offtake.lean ====
section
/-! DEFINITION. The offtake unit's command side (chapter 7): offtake modes and the requests for them, set points, and the
proportional step of the oven and main regulators. -/

namespace Sys2Proof.Machine

/-- The commanded position at entry to REGULATE: the position it had, within [V_MIN, 1000], or V_MIN when absent (R132). -/
def regulatePosition (g : Ground) : Option Nat → Nat
  | some x => clampNat g.params.vMin 1000 x
  | none => g.params.vMin

/-- ISOLATE for a ticket or a restore to EMPTY (R130): granted from REGULATE, MANUAL and HOLD. -/
def commandIsolate (n : Nat) (p : Plant) : Plant :=
  match (p.oven n).valve.mode with
  | .regulate | .manual | .hold =>
    p.modValve n fun v => { v with mode := .isolate, position := some 0, confirmed := false }
  | _ => p

/-- ISOLATE asked for by the push sequencer at ticket issue; a MANUAL or HOLD it replaces is reported by VALVE_OVERRIDE
(R130). -/
def isolateForTicket (g : Ground) (n num : Nat) (p : Plant) : Plant :=
  let v := (p.oven n).valve
  let q := commandIsolate n p
  if v.mode = .manual || v.mode = .hold then raise g (.valveOverride n num v.mode v.position) q else q

/-- ASPIRATE at CHARGE GO (R130): granted from ISOLATE. -/
def commandAspirate (n : Nat) (p : Plant) : Plant :=
  match (p.oven n).valve.mode with
  | .isolate => p.modValve n fun v => { v with mode := .aspirate, position := some 1000, confirmed := false }
  | _ => p

/-- REGULATE (R130, R132): the position the valve had, brought into range. From REGULATE it changes nothing. -/
def commandRegulate (g : Ground) (n : Nat) (p : Plant) : Plant :=
  match (p.oven n).valve.mode with
  | .regulate => p
  | _ =>
    p.modValve n fun v =>
      { v with mode := .regulate, position := some (regulatePosition g v.position), confirmed := false }

/-- The pressure of the last breakpoint whose fraction is at most `f` (R134). -/
def profilePressure (f : Nat) : List (Nat × Int) → Int → Int
  | [], last => last
  | (k, pr) :: rest, last => if k ≤ f then profilePressure f rest pr else last

/-- The credit fraction in per mille (R134). -/
def creditFraction (o : OvenRecord) : Nat :=
  if o.target ≤ o.credit then 1000 else o.credit * 1000 / o.target

/-- The leak figure of an oven (R97). -/
def leakFigure (g : Ground) (n : Nat) : Nat :=
  let leakOf (d : Door) : Nat := if d.state = .pressed then d.leak else 0
  max (leakOf (g.doorPair n).ps) (leakOf (g.doorPair n).cs)

/-- The set point of an oven's regulator step (R135). -/
def ovenSetPoint (g : Ground) (n : Nat) (o : OvenRecord) : Int :=
  max g.params.pFloor
    (profilePressure (creditFraction o) g.params.profile 0 - (leakFigure g n : Int) * (g.params.leakTrim : Int))

/-- The main set point in force (R138, R139). -/
def mainSetPointNow (g : Ground) (p : Plant) : Int :=
  if p.charge.isSome then g.params.pMain - (g.params.aOff : Int) else g.params.pMain

/-- The position after a regulator step (R136): left as it is within the deadband, otherwise moved by (e × gain) / 64,
truncated toward zero, and clamped to [lo, 1000]. -/
def regulatorStep (deadband gain lo : Nat) (setPoint measured : Int) (position : Nat) : Nat :=
  let e := measured - setPoint
  if e.natAbs ≤ deadband then position
  else (clampInt lo 1000 ((position : Int) + (e * (gain : Int)).tdiv 64)).toNat

/-- A change of V_MIN lifts every regulating oven below it (R137). -/
def liftVMin (g : Ground) (p : Plant) : Plant :=
  { p with
    ovens := p.ovens.map fun o =>
      match o.valve.mode, o.valve.position with
      | .regulate, some x => { o with valve := { o.valve with position := some (max g.params.vMin x) } }
      | _, _ => o }

/-- A change of M_VMIN lifts the main's commanded position at once where it lies below the new value (R139; log 41). -/
def liftMVmin (g : Ground) (p : Plant) : Plant :=
  { p with mainPosition := p.mainPosition.map (max g.params.mVmin) }

end Sys2Proof.Machine
end

