-- ==== Sys2Proof/Machine/Push.lean ====
section
/-! DEFINITION. The push sequencer (chapter 4): completions and timers, the entry to each step, aborts, fault hold, the early
retirement that aborts and cancels share, completion, suspension and resumption, and the push log. -/

namespace Sys2Proof.Machine

/-! ## Pacing and the service window -/

/-- The next issue time (R42): now while no last push start is present. -/
def nextIssue (g : Ground) (p : Plant) : Time :=
  match p.lastPushStart with
  | none => g.clock
  | some t => t + (g.params.pushGap : Int) - (g.params.issueLead : Int)

/-- The pacing timer is set to a recomputed next issue time; one not later than now expires at once (R42). -/
def setPacing (g : Ground) (p : Plant) : Plant :=
  match p.lastPushStart with
  | none => p
  | some _ =>
    let q : Plant := { p with pacing := some (nextIssue g p) }
    if nextIssue g p ≤ g.clock then start .pacing q else q

/-- The service window report (R60). -/
def windowOpen (g : Ground) (p : Plant) : Bool :=
  !g.schedRunning || (g.params.serviceWindow : Int) ≤ nextIssue g p - g.clock

/-- The door unit is informed when the report turns from false to true (R60). -/
def announceWindow (wasOpen : Bool) (g : Ground) (p : Plant) : Plant :=
  if !wasOpen && windowOpen g p then startAll [.testJob .ps, .testJob .cs] p else p

/-! ## Waits -/

/-- Nothing is outstanding. -/
def Waits.none : Waits where
  offtake := .complete
  pm := .complete
  gc := .complete
  car := .complete

/-- The outstanding set is empty (R66). -/
def Waits.empty (w : Waits) : Bool :=
  w.offtake = .complete && w.pm = .complete && w.gc = .complete && w.car = .complete

/-- One party's wait, if its completion is outstanding. -/
def outstandingOf (party : Party) : Wait → List (Party × Cmd)
  | .waiting c => [(party, c)]
  | _ => []

/-- The outstanding parties, each with the command it was last sent (R66). -/
def Waits.outstanding (w : Waits) : List (Party × Cmd) :=
  outstandingOf .offtake w.offtake ++ outstandingOf .pm w.pm ++ outstandingOf .gc w.gc ++ outstandingOf .car w.car

/-- A machine's wait; only PM and GC are parties of their own. -/
def Waits.machine (w : Waits) : Machine → Wait
  | .pm => w.pm
  | .gc => w.gc
  | _ => .complete

/-- The waits with PM's or GC's replaced. -/
def Waits.setMachine (w : Waits) (m : Machine) (x : Wait) : Waits :=
  match m with
  | .pm => { w with pm := x }
  | .gc => { w with gc := x }
  | _ => w

/-- The step's timeout parameter (R67). -/
def stepTime (q : Params) : TicketState → Nat
  | .isolating => q.tIso
  | .aligning => q.tAlign
  | .undooring => q.tDoor
  | .guiding => q.tGuide
  | .pushing => q.tRam
  | .closing => q.tClose
  | .faultHeld => 0

/-- A ticket enters a step: its outstanding set, entry time and, unless suspended, its step timer are set, and TICKET_STEP
raised (R66, R67, R76). -/
def enterStep (g : Ground) (num : Nat) (st : TicketState) (w : Waits) (p : Plant) : Plant :=
  match p.ticket? num with
  | none => p
  | some t =>
    raise g (.ticketStep num t.oven st g.clock t.suspended) <|
      p.modTicket num fun t =>
        { t with
          state := st
          waits := w
          entry := g.clock
          timer := if t.suspended then none else some (g.clock + (stepTime g.params st : Int)) }

/-! ## Retirement -/

/-- The push log record of a retirement (R89), read before the oven's phase changes. -/
def logRecordOf (g : Ground) (p : Plant) (t : Ticket) (outcome : TicketOutcome) (reason : Option AbortReason) :
    LogRecord where
  ticket := t.number
  oven := t.oven
  kind := t.kind
  car := t.issueCar
  issueTime := t.issueTime
  pushStart := t.pushStart
  retireTime := g.clock
  netCoking := t.pushStart.map fun s => s - (p.oven t.oven).chargeEnd.getD 0
  credit := t.credit
  ram := t.ram
  outcome := outcome
  reason := reason

/-- A record becomes the newest of the log, which keeps 64 (R89). -/
def writeLog (r : LogRecord) (p : Plant) : Plant := { p with log := (r :: p.log).take 64 }

/-- A ticket leaves the list; the others keep their order (R64). -/
def dropTicket (num : Nat) (p : Plant) : Plant := { p with tickets := p.tickets.filter fun t => t.number ≠ num }

/-- What a retirement starts: an evaluation (R51) and the test points of both side jobs (R103). -/
def retirementTasks : List Task := [.evaluate, .testJob .ps, .testJob .cs]

/-- The binding of a ticket's car ends. -/
def endBinding (g : Ground) (t : Ticket) (faultHeld : Bool) (p : Plant) : Plant :=
  match t.car with
  | some c => unbindCar g c faultHeld p
  | none => p

/-- An entry leaves the catch-up list, clearing the full latch (R49). -/
def dropCatchup (n : Nat) (p : Plant) : Plant :=
  if p.catchup.any fun e => e.oven = n then
    { p with catchup := p.catchup.filter fun e => e.oven ≠ n, catchLatch := false }
  else p

/-- An early-aborted oven goes to the head of the catch-up list; a full list loses its tail entry (R48). -/
def insertHead (g : Ground) (n : Nat) (p : Plant) : Plant :=
  if g.inRange n then p
  else if p.catchup.any fun e => e.oven = n then p
  else
    let p : Plant :=
      if 8 ≤ p.catchup.length then
        match p.catchup.getLast? with
        | some e => raise g (.skip e.oven e.reason .dropped none) { p with catchup := p.catchup.dropLast }
        | none => p
      else p
    { p with catchup := { oven := n, reason := .aborted, joined := g.clock } :: p.catchup }

/-- How a ticket retires before its EXTRACT: aborted, cancelled on request, or cancelled by a warm restart. -/
inductive EarlyEnd where
  | abort
  | cancel
  | restart
  deriving DecidableEq, Repr, Inhabited

/-- The effects of an early abort (R78), shared by TICKET CANCEL (R84) and the cancellation at warm restart (R85): those two
list no oven and raise TICKET_END, and a warm restart sends no STOP of its own and offers the claims to no work. -/
def retireEarly (g : Ground) (num : Nat) (how : EarlyEnd) (reason : AbortReason) (p : Plant) : Plant :=
  match p.ticket? num with
  | none => p
  | some t =>
    let outcome : TicketOutcome := if how = .abort then .aborted else .cancelled
    let record := logRecordOf g p t outcome (some reason)
    let p := dropTicket num p
    let p := returnOven g t.oven .ticketReturn p
    let p := commandRegulate g t.oven p
    let p := endBinding g t false p
    let p :=
      if p.claimPm = .ticket num then
        let q := if how = .restart then p else sendStops [.pm, .gc] p
        releaseClaims g [.pm, .gc] (how ≠ .restart) q
      else p
    let p := if how = .abort then insertHead g t.oven p else p
    let p := writeLog record p
    let p :=
      if how = .abort then raise g (.ticketAbort num t.oven t.kind t.state reason) p
      else raise g (.ticketEnd num t.oven outcome) p
    startAll retirementTasks p

/-- A ticket aborted with its extract sent flag set enters FAULT_HELD (R79). -/
def holdTicket (g : Ground) (num : Nat) (reason : AbortReason) (p : Plant) : Plant :=
  match p.ticket? num with
  | none => p
  | some t =>
    let p := p.modTicket num fun t =>
      { t with
        state := .faultHeld
        waits := Waits.none
        entry := g.clock
        timer := none
        pacingWait := none
        suspended := false
        reason := some reason
        car := none }
    let p := raise g (.ticketStep num t.oven .faultHeld g.clock false) p
    let p := sendStops [.pm, .gc] p
    let p := changePhase g t.oven .pushFault .faultHold p
    let p := endBinding g t true p
    raise g (.pushFault num t.oven t.state reason t.ram (g.door t.oven .ps).state (g.door t.oven .cs).state) p

/-- A ticket is aborted: early while no EXTRACT has been sent, otherwise into FAULT_HELD; a FAULT_HELD ticket takes no
cause (R77, R80, R81). -/
def abortTicket (g : Ground) (num : Nat) (reason : AbortReason) (p : Plant) : Plant :=
  match p.ticket? num with
  | none => p
  | some t =>
    if t.state = .faultHeld then p
    else if t.extractSent then holdTicket g num reason p
    else retireEarly g num .abort reason p

/-- A ticket retires COMPLETE (R75). -/
def completeTicket (g : Ground) (num : Nat) (p : Plant) : Plant :=
  match p.ticket? num with
  | none => p
  | some t =>
    let record := logRecordOf g p t .complete none
    let p := dropTicket num p
    let p := changePhase g t.oven .empty .ticketComplete p
    let p := endBinding g t false p
    let p := releaseClaims g [.pm, .gc] true p
    let p := writeLog record p
    let p := raise g (.ticketEnd num t.oven .complete) p
    startAll retirementTasks p

/-! ## Entries to the steps -/

/-- The waits of ALIGNING as the mirrors and the car stand (R70). -/
def alignWaits (g : Ground) (p : Plant) (t : Ticket) : Waits where
  offtake := .complete
  pm := if g.atSpot .pm t.oven then .complete else .waiting .move
  gc := if g.atSpot .gc t.oven then .complete else .waiting .move
  car :=
    match t.car with
    | some c => if (p.car c).state = .atOven then .complete else .waiting .stand
    | none => .waiting .stand

/-- Entry to UNDOORING (R71). -/
def enterUndooring (g : Ground) (num : Nat) (t : Ticket) (p : Plant) : Plant :=
  let p := enterStep g num .undooring
    { Waits.none with pm := .waiting (.step .extract), gc := .waiting (.step .extract) } p
  let p := forgetPresses .gc t.oven (forgetPresses .pm t.oven p)
  let p := send .gc (.step .extract t.oven) (send .pm (.step .extract t.oven) p)
  let p := changePhase g t.oven .opening .enterUndooring p
  p.modTicket num fun t => { t with extractSent := true, credit := some (p.oven t.oven).credit }

/-- Entry to GUIDING (R72). -/
def enterGuiding (g : Ground) (num : Nat) (t : Ticket) (p : Plant) : Plant :=
  let p := enterStep g num .guiding
    { Waits.none with gc := .waiting (.step .guideLock), car := .waiting (.step .receive) } p
  let p := send .gc (.step .guideLock t.oven) p
  match t.car with
  | some c => sendReceive c t.oven p
  | none => p

/-- Entry to PUSHING (R73): the push start is recorded and handed to the schedule unit (R42). -/
def enterPushing (g : Ground) (num : Nat) (t : Ticket) (p : Plant) : Plant :=
  let wasOpen := windowOpen g p
  let p := enterStep g num .pushing
    { Waits.none with pm := .waiting (.step .ramAdvance), car := .waiting .load } p
  let p := send .pm (.step .ramAdvance t.oven) p
  let p := p.modTicket num fun t => { t with pushStart := some g.clock, pacingWait := none }
  let p := setPacing g { p with lastPushStart := some g.clock }
  let p := announceWindow wasOpen g p
  changePhase g t.oven .pushing .enterPushing p

/-- Entry to CLOSING (R74). -/
def enterClosing (g : Ground) (num : Nat) (t : Ticket) (p : Plant) : Plant :=
  let p := enterStep g num .closing
    { Waits.none with pm := .waiting (.step .ramReturn), gc := .waiting (.step .guideRelease) } p
  let p := send .gc (.step .guideRelease t.oven) (send .pm (.step .ramReturn t.oven) p)
  let p := match t.car with
    | some c => letCarGo g c p
    | none => p
  changePhase g t.oven .closing .enterClosing p

/-- The time at which a push may start: PUSH_GAP after the last push start, if there is one (R72). -/
def pacingTime (g : Ground) (p : Plant) : Option Time :=
  p.lastPushStart.map fun t => t + (g.params.pushGap : Int)

/-- The pacing is met (R72). -/
def pacingMet (g : Ground) (p : Plant) : Bool := (pacingTime g p).all fun w => w ≤ g.clock

/-- GUIDING with both completions recorded (R72): the step timer is dropped; with the pacing met the ticket enters PUSHING,
unless it is suspended, and otherwise it takes its pacing wait. -/
def guidingDone (g : Ground) (num : Nat) (t : Ticket) (p : Plant) : Plant :=
  if pacingMet g p then if t.suspended then p else enterPushing g num t p
  else p.modTicket num fun t => { t with timer := none, pacingWait := pacingTime g p }

/-- A ticket advances when its outstanding set is empty, unless it is suspended: then only the pacing of GUIDING is tested,
since that test is made when both completions have been recorded (R66, R72, R86). -/
def tryAdvance (g : Ground) (num : Nat) (p : Plant) : Plant :=
  match p.ticket? num with
  | none => p
  | some t =>
    if !t.waits.empty then p
    else if t.suspended then if t.state = .guiding then guidingDone g num t p else p
    else
      match t.state with
      | .aligning => enterUndooring g num t p
      | .undooring => enterGuiding g num t p
      | .guiding => guidingDone g num t p
      | .pushing => enterClosing g num t p
      | .closing => completeTicket g num p
      | _ => p

/-- ALIGNING is judged again as the mirrors and the car stand (R70). -/
def checkAligning (g : Ground) (num : Nat) (p : Plant) : Plant :=
  match p.ticket? num with
  | none => p
  | some t =>
    if t.state = .aligning then
      tryAdvance g num (p.modTicket num fun t => { t with waits := alignWaits g p t })
    else p

/-- MOVE is sent to PM and GC where they are not at the spot at rest (R70, R87). -/
def sendMoves (w : Waits) (n : Nat) (p : Plant) : Plant :=
  let p := if w.pm = .waiting .move then send .pm (.move n) p else p
  if w.gc = .waiting .move then send .gc (.move n) p else p

/-- Entry to ALIGNING (R69, R70): both claims are taken; suspended at once while the run state is not RUNNING (R86);
aborted at once when a granted machine is OFFLINE (R166), PM's loss being handed over first when both are (log 37). -/
def enterAligning (g : Ground) (num : Nat) (p : Plant) : Plant :=
  match p.ticket? num with
  | none => p
  | some t =>
    let p := setClaim g .gc (.ticket num) (setClaim g .pm (.ticket num) p)
    let p := p.modTicket num fun t => { t with suspended := !g.running }
    let w := alignWaits g p t
    let p := enterStep g num .aligning w p
    let p := if g.running then sendMoves w t.oven p else p
    if !g.pm.online then abortTicket g num (.offline .pm) p
    else if !g.gc.online then abortTicket g num (.offline .gc) p
    else tryAdvance g num p

/-- A ticket may enter ALIGNING (R69): isolated in ISOLATING, with no other ticket from ALIGNING through CLOSING or in
FAULT_HELD. -/
def mayAlign (p : Plant) (t : Ticket) : Bool :=
  t.state = .isolating && t.isolated &&
    p.tickets.all fun o => o.number = t.number || !(o.state.claims || o.state = .faultHeld)

/-- Free claims are offered to the waiting tickets, the one issued earlier first (R69, R167). -/
def offerToTickets (g : Ground) (p : Plant) : Plant :=
  if p.claimPm = .free && p.claimGc = .free then
    match p.tickets.find? (mayAlign p) with
    | some t => enterAligning g t.number p
    | none => p
  else p

/-- The offtake unit confirms isolation of an oven (R68). -/
def isolationConfirmed (n : Nat) (p : Plant) : Plant :=
  match p.ticketOf? n with
  | none => p
  | some t =>
    if t.state = .isolating && !t.isolated then
      start .offerTicket <| p.modTicket t.number fun t =>
        { t with isolated := true, timer := none, waits := { t.waits with offtake := .complete } }
    else p

/-! ## Completions -/

/-- The next command of a side's sequence in CLOSING (R74). -/
def closingNext : Op → Option Op
  | .ramReturn | .guideRelease => some .replace
  | .replace => some .press
  | _ => none

/-- The wait of a machine after the DONE of its outstanding operation: in CLOSING the next command of the side, sent at once
or, while suspended, at RESUME (R74, R86). -/
def waitAfter (t : Ticket) (op : Op) : Wait :=
  if t.state = .closing then
    match closingNext op with
    | some next => if t.suspended then .recorded (.step op) else .waiting (.step next)
    | none => .complete
  else .complete

/-- A DONE of PM or GC satisfies the ticket of its oven whose outstanding command it matches (R66); any other changes no
ticket. -/
def machineDone (g : Ground) (m : Machine) (op : Op) (n : Nat) (p : Plant) : Plant :=
  match p.ticketOf? n with
  | none => p
  | some t =>
    if t.waits.machine m = .waiting (.step op) then
      let w := waitAfter t op
      let p := p.modTicket t.number fun t => { t with waits := t.waits.setMachine m w }
      let p := match w with
        | .waiting (.step next) => sendStep m next n p
        | _ => p
      tryAdvance g t.number p
    else p

/-- PM's RAM ADVANCE DONE: the ram peak load is written to the ticket and judged before the ticket goes on (R73, R35). -/
def ramAdvanced (g : Ground) (n load : Nat) (p : Plant) : Plant :=
  match p.ticketOf? n with
  | none => p
  | some t =>
    if t.waits.pm = .waiting (.step .ramAdvance) then
      machineDone g .pm .ramAdvance n <| judgeLoad g n load <|
        p.modTicket t.number fun t => { t with ram := some load }
    else p

/-- The bound car's completion of a command is recorded (R66). -/
def carDone (g : Ground) (c : Car) (cmd : Cmd) (p : Plant) : Plant :=
  match (p.car c).bound with
  | none => p
  | some num =>
    match p.ticket? num with
    | none => p
    | some t =>
      if t.waits.car = .waiting cmd then
        tryAdvance g num (p.modTicket num fun t => { t with waits := { t.waits with car := .complete } })
      else p

/-- RECEIVE DONE from a bound car in AT_OVEN naming its ticket's oven (R154). -/
def receiveDone (g : Ground) (c : Car) (n : Nat) (p : Plant) : Plant :=
  if (p.car c).state = .atOven && boundOven p c = some n then
    carDone g c (.step .receive) (setCarState g c .receiving (p.modCar c fun r => { r with loading := none }))
  else p

/-- A report of a bound car, judged by the push sequencer (R145): completion of ALIGNING, or alignment loss from UNDOORING
through PUSHING (R77). -/
def carReported (g : Ground) (c : Car) (p : Plant) : Plant :=
  match (p.car c).bound with
  | none => p
  | some num =>
    match p.ticket? num with
    | none => p
    | some t =>
      match t.state with
      | .aligning => checkAligning g num p
      | .undooring | .guiding | .pushing =>
        if (p.car c).position = some (ovenSpot t.oven) && !(p.car c).moving then p
        else abortTicket g num (.alignmentCar c) p
      | _ => p

/-- A bound car has entered FAULT: a ticket in ISOLATING through PUSHING is aborted (R77, R160). -/
def carFaulted (g : Ground) (c : Car) (num : Nat) (reason : CarFault) (p : Plant) : Plant :=
  match p.ticket? num with
  | none => p
  | some t =>
    match t.state with
    | .isolating | .aligning | .undooring | .guiding | .pushing => abortTicket g num (.carFault c reason) p
    | _ => p

/-- A position report of a machine whose claim a ticket holds (R70, R77). -/
def ticketMachineReport (g : Ground) (m : Machine) (num : Nat) (p : Plant) : Plant :=
  match p.ticket? num with
  | none => p
  | some t =>
    match t.state with
    | .aligning => checkAligning g num p
    | .undooring | .guiding | .pushing | .closing =>
      if g.atSpot m t.oven then p else abortTicket g num (.alignment m) p
    | _ => p

/-- A fault or a loss of link of a machine whose claim a ticket holds (R77): it applies from ALIGNING through CLOSING. -/
def ticketMachineLost (g : Ground) (num : Nat) (reason : AbortReason) (p : Plant) : Plant :=
  match p.ticket? num with
  | none => p
  | some t => if t.state.claims then abortTicket g num reason p else p

/-! ## Timers -/

/-- A step timer expires (R67). -/
def stepReached (g : Ground) (num : Nat) (p : Plant) : Plant :=
  match p.ticket? num with
  | none => p
  | some t =>
    match t.timer with
    | none => p
    | some e => if g.clock < e then p else abortTicket g num (.timeout t.state t.waits.outstanding) p

/-- A pacing wait is reached (R72): a ticket that is not suspended enters PUSHING. -/
def pacingWaitReached (g : Ground) (num : Nat) (p : Plant) : Plant :=
  match p.ticket? num with
  | none => p
  | some t =>
    match t.state, t.pacingWait with
    | .guiding, some w => if g.clock < w || t.suspended then p else enterPushing g num t p
    | _, _ => p

/-! ## Suspension -/

/-- The run state has left RUNNING: tickets in ALIGNING through CLOSING are suspended and their step timers dropped (R86). -/
def suspendTickets (p : Plant) : Plant :=
  { p with
    tickets := p.tickets.map fun t =>
      if t.state.claims then { t with suspended := true, timer := none } else t }

/-- The command a machine is sent again at RESUME, or, when its DONE was recorded during the suspension, the next of its
side (R87). -/
def resendOf : Wait → Option Cmd
  | .waiting c => some c
  | .recorded (.step op) => (closingNext op).map Cmd.step
  | _ => none

/-- PM or GC is sent its command again (R87). -/
def resend (m : Machine) (n : Nat) (w : Wait) (p : Plant) : Plant :=
  match resendOf w with
  | some (.step op) => sendStep m op n p
  | some .move => send m (.move n) p
  | _ => p

/-- A wait after the resumption: a recorded side waits for its next command. -/
def resumeWait (w : Wait) : Wait :=
  match w, resendOf w with
  | .recorded _, some c => .waiting c
  | w, _ => w

/-- A suspended ticket is resumed (R87). -/
def resumeTicket (g : Ground) (num : Nat) (p : Plant) : Plant :=
  match p.ticket? num with
  | none => p
  | some t =>
    if !t.suspended then p
    else
      let w := if t.state = .aligning then alignWaits g p t else t.waits
      let p := p.modTicket num fun t => { t with suspended := false, waits := w }
      if w.empty then tryAdvance g num p
      else
        let p := resend .gc t.oven w.gc (resend .pm t.oven w.pm p)
        let p := match t.car, w.car with
          | some c, .waiting (.step .receive) => sendReceive c t.oven p
          | _, _ => p
        p.modTicket num fun t =>
          { t with
            waits := { w with pm := resumeWait w.pm, gc := resumeWait w.gc }
            timer := some (g.clock + (stepTime g.params t.state : Int)) }

/-- RESUME at the push sequencer: tickets are resumed in issue order (R87). -/
def resumeTickets (g : Ground) (p : Plant) : Plant :=
  (p.tickets.map fun t => t.number).foldl (fun p num => resumeTicket g num p) p

end Sys2Proof.Machine
end

