-- ==== Sys2Proof/Machine/Schedule.lean ====
section
/-! DEFINITION. The schedule unit (chapter 3): the push order, eligibility and passing reasons, the issue of a ticket, the
catch-up list, and evaluations. -/

namespace Sys2Proof.Machine

/-! ## The push order -/

/-- The ovens 1 to `n`, ascending. -/
def ovenNumbers (n : Nat) : List Nat := (List.range n).map (· + 1)

/-- The push order of `n` ovens under a plan (R39): offset by offset, the ovens of the offset in ascending number. -/
def pushOrder (n : Nat) (pl : Plan) : List Nat :=
  pl.order.flatMap fun o => (ovenNumbers n).filter fun k => (k - 1) % pl.stride = o

/-- The cursor oven (R40). -/
def cursorOven (g : Ground) (p : Plant) : Option Nat := g.order[p.cursor]?

/-- The cursor advances, wrapping from N − 1 to 0 (R40). -/
def advanceCursor (g : Ground) (p : Plant) : Plant :=
  { p with cursor := if p.cursor + 1 < g.order.length then p.cursor + 1 else 0 }

/-- The index that the oven of an old cursor holds in a new order (R39). -/
def movedCursor (old new : List Nat) (cursor : Nat) : Nat :=
  match old[cursor]? with
  | some n => new.findIdx (· = n)
  | none => cursor

/-! ## Eligibility -/

/-- The car that makes an oven eligible, with the phase condition as given, and the maintenance-range condition kept or left
out (R44, R57, R58). -/
def eligibleCar (g : Ground) (p : Plant) (wanted : Phase) (ranged : Bool) (n : Nat) : Option Car :=
  let o := p.oven n
  if o.phase = wanted && o.service = .inService && !o.hold && !(ranged && g.inRange n) && (g.ovenNode n).online then
    match carFor g p n with
    | .available c => some c
    | _ => none
  else none

/-- The oven's forecast is NONE or above SKIP_THRESHOLD (R45, row 7). -/
def farFromReady (g : Ground) (o : Oven) : Bool :=
  match forecast g o with
  | none => true
  | some f => (g.params.skipThreshold : Int) < f

/-- The passing reason of an oven (R45); `none` stands for an eligible oven. -/
def passReason (g : Ground) (p : Plant) (ranged : Bool) (n : Nat) : Option PassReason :=
  let o := p.oven n
  if o.service = .outOfService || (ranged && g.inRange n) then some .passOut
  else if o.phase.holdsTicket then some .passOut
  else if o.phase = .empty || o.phase = .charging || o.phase = .unknown then some .wait
  else if o.hold then some .held
  else if carFor g p n = .noCar then some .noCar
  else if !(g.ovenNode n).online then some .nodeLost
  else if o.phase = .coking then
    if g.params.policy = .skip && farFromReady g o then some .notReady else some .wait
  else if carFor g p n = .busy then some .wait
  else none

/-! ## Issue -/

/-- The ticket number after a number, in 1 to 4,294,967,295 (R63). -/
def ticketAfter (n : Nat) : Nat := if n = maxU32 then 1 else n + 1

/-- A ticket as it is created, in ISOLATING (R55, R68). -/
def newTicket (g : Ground) (num n : Nat) (kind : TicketKind) (c : Car) : Ticket where
  number := num
  oven := n
  kind := kind
  issueTime := g.clock
  issueCar := c
  car := some c
  state := .isolating
  isolated := false
  suspended := false
  waits := { Waits.none with offtake := .waiting .isolate }
  entry := g.clock
  timer := some (g.clock + (g.params.tIso : Int))
  pacingWait := none
  extractSent := false
  pushStart := none
  credit := none
  ram := none
  reason := none

/-- A ticket is issued for an oven with its available car, and ISSUE raised (R55, R58). -/
def issueTicket (g : Ground) (kind : TicketKind) (n : Nat) (c : Car) (p : Plant) : Plant :=
  let num := p.nextTicket
  let figures := ((p.oven n).credit, (p.oven n).target)
  let p := bindCar g c num n p
  let p : Plant := { p with tickets := p.tickets ++ [newTicket g num n kind c], nextTicket := ticketAfter num }
  let p := raise g (.ticketStep num n .isolating g.clock false) p
  let p := isolateForTicket g n num p
  let p := changePhase g n .ticketed (if kind = .forced then .forcedIssue else .ticketIssue) p
  let figures := if kind = .forced then some ((p.oven n).credit, figures.2) else none
  let p := dropCatchup n (if kind = .plan then advanceCursor g p else p)
  raise g (.issue num n kind c p.cursor figures) p

/-! ## Evaluations -/

/-- An evaluation acts (R52). -/
def evaluationActs (g : Ground) (p : Plant) : Bool :=
  g.configured && g.schedRunning && g.running && p.tickets.length < 2 &&
    !(p.tickets.any fun t => t.state = .faultHeld) && nextIssue g p ≤ g.clock

/-- The catch-up step's choice: the first entry, head to tail, whose oven is eligible (R53). -/
def catchupChoice (g : Ground) (p : Plant) : List CatchupEntry → Option (Nat × Car)
  | [] => none
  | e :: rest =>
    match eligibleCar g p .ready true e.oven with
    | some c => some (e.oven, c)
    | none => catchupChoice g p rest

/-- An oven joins the catch-up list at the tail, raising SKIP (R47). -/
def listAtTail (g : Ground) (n : Nat) (reason : PassReason) (p : Plant) : Plant :=
  raise g (.skip n reason .listed (some p.cursor))
    { p with catchup := p.catchup ++ [{ oven := n, reason := reason, joined := g.clock }] }

/-- A full list met by the cursor: CATCHUP_FULL once in a spell, and the latch set (R47). -/
def catchupFull (g : Ground) (n : Nat) (reason : PassReason) (p : Plant) : Plant :=
  let q : Plant := { p with catchLatch := true }
  if p.catchLatch then q else raise g (.catchupFull n reason) q

/-- The cursor step, over at most as many ovens as its first argument (R54). -/
def cursorStep (g : Ground) : Nat → Plant → Plant
  | 0, p => p
  | k + 1, p =>
    match cursorOven g p with
    | none => p
    | some n =>
      match eligibleCar g p .ready true n, passReason g p true n with
      | some c, _ => issueTicket g .plan n c p
      | none, none => p
      | none, some .wait => p
      | none, some .passOut => cursorStep g k (advanceCursor g p)
      | none, some reason =>
        if p.catchup.any fun e => e.oven = n then cursorStep g k (advanceCursor g p)
        else if p.catchup.length < 8 then cursorStep g k (advanceCursor g (listAtTail g n reason p))
        else catchupFull g n reason p

/-- One evaluation (R52 to R54). -/
def evaluate (g : Ground) (p : Plant) : Plant :=
  if evaluationActs g p then
    match catchupChoice g p p.catchup with
    | some (n, c) => issueTicket g .catchup n c p
    | none => cursorStep g g.count p
  else p

/-- The pacing timer expires: it is held no longer, and an evaluation is started (R42). A timer not set or not yet due is
not reached: a STORE LOAD that changes both PUSH_GAP and ISSUE_LEAD thus makes one expiry at most (R43; log 50). -/
def pacingReached (g : Ground) (p : Plant) : Plant :=
  match p.pacing with
  | none => p
  | some t => if g.clock < t then p else start .evaluate { p with pacing := none }

/-- A catch-up entry is removed by a request, which is a catch-up change (R49, R51). -/
def removeCatchup (n : Nat) (p : Plant) : Plant :=
  if p.catchup.any fun e => e.oven = n then start .evaluate (dropCatchup n p) else p

end Sys2Proof.Machine
end

