-- ==== Sys2Proof/Machine/Charge.lean ====
section
/-! DEFINITION. The charge unit (chapter 6): the answer to a charge ask, the pending ask and its preparation, the charge record
from GO to its end, suspension, and the empty dwell. -/

namespace Sys2Proof.Machine

/-! ## The answer to an ask -/

/-- What entries 1 to 13 of R111 say of an oven: NO, WAIT, or that none of them holds. -/
inductive AskAnswer where
  | no (reason : ChargeReason)
  | wait (reason : ChargeReason)
  | clear
  deriving DecidableEq, Repr, Inhabited

/-- Both doors of the oven are PRESSED (R111, entry 5). -/
def bothPressed (g : Ground) (n : Nat) : Bool := (g.door n .ps).state = .pressed && (g.door n .cs).state = .pressed

/-- Entries 1 to 13 of R111, the first that holds. -/
def askAnswer (g : Ground) (p : Plant) (n : Nat) : AskAnswer :=
  if !g.configured then .no .unconfigured
  else if !g.isOven n then .no .range
  else if p.charge.isSome then .no .chargeActive
  else if (p.oven n).phase ≠ .empty then .no .notEmpty
  else if !bothPressed g n then .no .door
  else if (p.oven n).service = .outOfService then .no .outOfService
  else if g.inRange n then .no .maintRange
  else if !g.atSpot .cc n then .no .position
  else if !g.running then .wait .runState
  else if !g.mainNode.online then .wait .mainNode
  else if !(g.ovenNode n).online then .wait .ovenNode
  else if !g.pm.online then .wait .pmOffline
  else
    match p.claimPm with
    | .ticket _ | .service => .wait .pmBusy
    | _ => .clear

/-! ## GO -/

/-- The charge begins (R115). -/
def beginCharge (g : Ground) (n : Nat) (p : Plant) : Plant :=
  let p : Plant :=
    { p with
      charge := some
        { oven := n
          start := g.clock
          ccEnd := false
          mass := none
          level := none
          timer := some (g.clock + (g.params.tCharge : Int))
          remaining := none
          suspended := false }
      ask := none }
  let p := changePhase g n .charging .chargeGo p
  let p := commandAspirate n p
  send .pm (.step .level n) (send .cc (.chargeGo n) p)

/-- CC is sent CHARGE WAIT with a reason other than the last sent, which is recorded (R112). -/
def tellWait (a : Ask) (reason : ChargeReason) (p : Plant) : Plant :=
  if a.reason = reason then p
  else send .cc (.chargeWait reason) { p with ask := some { a with reason := reason } }

/-- The pending ask is dropped; PM, if claimed for it, is sent STOP and released (R114). -/
def dropAsk (g : Ground) (p : Plant) : Plant :=
  match p.ask with
  | none => p
  | some a =>
    let q : Plant := { p with ask := none }
    if a.claimed then releaseClaims g [.pm] true (send .pm .stop q) else q

/-- No NO condition and no WAIT condition of entries 9 to 13 holds for an ask: PM is claimed for it if it is not yet, and
the charge begins with PM at the spot at rest; otherwise PM is sent there and the ask waits PREPARING (R113). -/
def prepareAsk (g : Ground) (a : Ask) (p : Plant) : Plant :=
  if a.claimed then
    if g.atSpot .pm a.oven then beginCharge g a.oven p else tellWait a .preparing p
  else
    let p := setClaim g .pm .charge p
    if g.atSpot .pm a.oven then beginCharge g a.oven p
    else
      send .cc (.chargeWait .preparing) <|
        send .pm (.move a.oven) { p with ask := some { a with reason := .preparing, claimed := true } }

/-- The pending ask is re-checked (R112). -/
def recheckAsk (g : Ground) (p : Plant) : Plant :=
  match p.ask with
  | none => p
  | some a =>
    match askAnswer g p a.oven with
    | .no reason => dropAsk g (send .cc (.chargeNo reason) p)
    | .wait reason => tellWait a reason p
    | .clear => prepareAsk g a p

/-- A CHARGE ASK of an oven that is not the pending ask's (R111): a NO changes nothing; otherwise a pending ask of another
oven is dropped (log 20) and the ask is prepared or becomes the pending ask. PM freed by the ask dropped is offered to a
waiting ticket first, and to the new ask by the re-check that follows (R167). -/
def newAsk (g : Ground) (n : Nat) (p : Plant) : Plant :=
  match askAnswer g p n with
  | .no reason => send .cc (.chargeNo reason) p
  | .wait reason =>
    send .cc (.chargeWait reason)
      { dropAsk g p with ask := some { oven := n, since := g.clock, reason := reason, claimed := false } }
  | .clear =>
    let a : Ask := { oven := n, since := g.clock, reason := .preparing, claimed := false }
    if p.ask.any fun old => old.claimed then { dropAsk g p with ask := some a } else prepareAsk g a (dropAsk g p)

/-- A CHARGE ASK of the pending ask's oven is answered from the same table, and the ask stays as it was (R111). -/
def repeatAsk (g : Ground) (a : Ask) (p : Plant) : Plant :=
  match askAnswer g p a.oven with
  | .no reason => send .cc (.chargeNo reason) p
  | .wait reason => send .cc (.chargeWait reason) p
  | .clear =>
    if a.claimed && !g.atSpot .pm a.oven then send .cc (.chargeWait .preparing) p else prepareAsk g a p

/-- A CHARGE ASK (R111). -/
def chargeAsked (g : Ground) (n : Nat) (p : Plant) : Plant :=
  match p.ask with
  | some a => if a.oven = n then repeatAsk g a p else newAsk g n p
  | none => newAsk g n p

/-! ## The end of a charge -/

/-- The oven goes over to COKING with a mass, its offtake to REGULATE, the charge record is deleted, and PM is released
(R117, steps 1 to 6; R118). -/
def endCharge (g : Ground) (c : Charge) (mass : Nat) (unconfirmed stopPm : Bool) (p : Plant) : Plant :=
  let p := setTarget g c.oven mass p
  let p := changePhase g c.oven .coking .chargeEnd p
  let p := if unconfirmed then p.modOven c.oven fun o => { o with unconfirmed := true } else p
  let p := setOverdue g c.oven (beginAccrual g c.oven p)
  let p := commandRegulate g c.oven p
  let p : Plant := { p with charge := none }
  releaseClaims g [.pm] true (if stopPm then send .pm .stop p else p)

/-- A charge with both flags set completes (R117). -/
def completeCharge (g : Ground) (p : Plant) : Plant :=
  match p.charge with
  | none => p
  | some c =>
    if c.ccEnd && c.level.isSome then
      let q := endCharge g c (c.mass.getD 0) false false p
      raise g (.chargeDone c.oven c.mass (q.oven c.oven).mass (q.oven c.oven).target c.level) q
    else p

/-- The charge timer expires: the charge ends with M_NOM, unconfirmed (R118). -/
def chargeTimeout (g : Ground) (p : Plant) : Plant :=
  match p.charge with
  | none => p
  | some c =>
    match c.timer with
    | none => p
    | some t =>
      if g.clock < t then p
      else
        raise g (.chargeTimeout c.oven c.ccEnd c.level c.mass)
          (endCharge g c g.params.mNom true c.level.isNone p)

/-- CC's CHARGE END (R116, R118). -/
def chargeEndReport (g : Ground) (n mass : Nat) (p : Plant) : Plant :=
  match p.charge with
  | some c =>
    if c.oven = n then
      if c.ccEnd then p
      else completeCharge g { p with charge := some { c with ccEnd := true, mass := some mass } }
    else send .cc (.chargeNo .stale) p
  | none => send .cc (.chargeNo .stale) p

/-- PM's LEVEL DONE (R116). -/
def levelDone (g : Ground) (n : Nat) (p : Plant) : Plant :=
  match p.charge with
  | some c =>
    if c.oven = n && c.level.isNone then completeCharge g { p with charge := some { c with level := some .done } }
    else p
  | none => p

/-- Levelling is faulted while the level flag is clear (R116). -/
def faultLevel (g : Ground) (reason : WorkFault) (p : Plant) : Plant :=
  match p.charge with
  | some c =>
    if c.level.isNone then
      let p := send .pm .stop { p with charge := some { c with level := some (.faulted reason) } }
      completeCharge g (raise g (.levelFault c.oven reason) p)
    else p
  | none => p

/-! ## Machine events -/

/-- A position report of PM while its claim is CHARGE (R112, R116). -/
def chargePmReport (g : Ground) (p : Plant) : Plant :=
  match p.charge with
  | some c => if g.atSpot .pm c.oven then p else faultLevel g .alignment p
  | none => recheckAsk g p

/-- A FAULT record of PM while its claim is CHARGE (R113, R116). -/
def chargePmFault (g : Ground) (p : Plant) : Plant :=
  match p.charge with
  | some _ => faultLevel g .machineFault p
  | none =>
    match p.ask with
    | some a => if a.claimed then send .cc (.chargeNo .levellerFault) (dropAsk g p) else p
    | none => p

/-- PM's link goes OFFLINE while its claim is CHARGE (R113, R116; log 26). -/
def chargePmLost (g : Ground) (p : Plant) : Plant :=
  match p.charge with
  | some _ => faultLevel g .offline p
  | none =>
    match p.ask with
    | some a =>
      if a.claimed then
        send .cc (.chargeWait .pmOffline) <|
          releaseClaims g [.pm] true { p with ask := some { a with reason := .pmOffline, claimed := false } }
      else p
    | none => p

/-! ## Suspension -/

/-- The run state has left RUNNING: a charge not yet suspended is suspended, keeping the seconds that remained (R119). -/
def suspendCharge (g : Ground) (p : Plant) : Plant :=
  { p with
    charge := p.charge.map fun c =>
      if c.suspended then c
      else { c with suspended := true, timer := none, remaining := c.timer.map fun t => t - g.clock } }

/-- RESUME at the charge unit: a suspended charge goes on (R119), and PM is sent on its way again for a claimed ask (R113). -/
def resumeCharge (g : Ground) (p : Plant) : Plant :=
  match p.charge, p.ask with
  | some c, _ =>
    if c.suspended then
      let t := g.clock + c.remaining.getD 0
      let p : Plant := { p with charge := some { c with suspended := false, timer := some t, remaining := none } }
      let p := if c.ccEnd then p else send .cc (.chargeGo c.oven) p
      let p := if c.level.isSome then p else send .pm (.step .level c.oven) p
      chargeTimeout g p
    else p
  | none, some a => if a.claimed && !g.atSpot .pm a.oven then send .pm (.move a.oven) p else p
  | none, none => p

/-- A warm restart drops the pending ask, answering it NO with RESTART; PM's claim is released to no work (R121). -/
def restartAsk (g : Ground) (p : Plant) : Plant :=
  match p.ask with
  | none => p
  | some a =>
    let q := send .cc (.chargeNo .restart) { p with ask := none }
    if a.claimed then releaseClaims g [.pm] false q else q

/-! ## Empty dwell -/

/-- The first of entries 4 to 7 of R111 that holds for an oven in EMPTY (R120). -/
def dwellReason (g : Ground) (p : Plant) (n : Nat) : Option ChargeReason :=
  if (p.oven n).phase ≠ .empty then some .notEmpty
  else if !bothPressed g n then some .door
  else if (p.oven n).service = .outOfService then some .outOfService
  else if g.inRange n then some .maintRange
  else none

/-- The empty dwell timer expires: EMPTY_LONG is raised and EMPTY_LONG_SENT set (R120). -/
def dwellReached (g : Ground) (n : Nat) (p : Plant) : Plant :=
  let o := p.oven n
  match o.dwell, o.emptySince with
  | some t, some since =>
    if g.clock < t then p
    else
      raise g
        (.emptyLong n since (g.clock - since) (g.door n .ps).state (g.door n .cs).state o.service (dwellReason g p n))
        (p.modOven n fun o => { o with dwell := none, emptyLongSent := true })
  | _, _ => p

end Sys2Proof.Machine
end

