-- ==== Sys2Proof/Machine/Jobs.lean ====
section
/-! DEFINITION. Door service jobs (5.5): their start, end and abandonment, suspension and resumption. -/

namespace Sys2Proof.Machine

/-- A ticket stands in ISOLATING with its isolated flag set. -/
def isolatedWaiting (p : Plant) : Bool := p.tickets.any fun t => t.state = .isolating && t.isolated

/-- The head entry of a side's list, when an IDLE side may start a job on it (R103). -/
def jobChoice (g : Ground) (side : Side) (p : Plant) : Option ServiceEntry :=
  if (p.side side).job.isNone && (g.mirror (sideMachine side)).online && p.claim (sideMachine side) = .free &&
      g.running && windowOpen g p && !isolatedWaiting p then (p.side side).list.head?
  else none

/-- The command a job on an oven begins with, and the state it is in (R104). -/
def jobStart (g : Ground) (side : Side) (n : Nat) : JobState × Cmd :=
  if g.atSpot (sideMachine side) n then (.pressing, .step .press) else (.moving, .move)

/-- A job's command goes to its machine; a PRESS of the job's own leaves no PRESS of a ticket awaited (R95; log 13). -/
def sendJob (side : Side) (n : Nat) (c : Cmd) (p : Plant) : Plant :=
  match c with
  | .step op => send (sideMachine side) (.step op n) (forgetPresses (sideMachine side) n p)
  | .move => send (sideMachine side) (.move n) p
  | _ => p

/-- A job starts on an oven's door (R104). -/
def startJob (g : Ground) (side : Side) (n : Nat) (p : Plant) : Plant :=
  let (state, command) := jobStart g side n
  let p := takeHead g side
    { oven := n
      state := state
      suspended := false
      command := command
      timer := some (g.clock + (g.params.tService : Int)) } p
  sendJob side n command (setClaim g (sideMachine side) .service p)

/-- A test point of a side's service job (R103). -/
def testJob (g : Ground) (side : Side) (p : Plant) : Plant :=
  match jobChoice g side p with
  | some e => startJob g side e.oven p
  | none => p

/-- The machine of a job is released and the side becomes IDLE; a door that qualifies is placed in the list again
(R105, R106). -/
def closeJob (g : Ground) (side : Side) (n : Nat) (p : Plant) : Plant :=
  let p := releaseClaims g [sideMachine side] true p
  let p := p.modSide side fun d => { d with job := none }
  rejudge g n side p

/-- A job in PRESSING ends at the PRESS DONE of its machine naming its oven; its door has been judged (R105). -/
def endJob (g : Ground) (side : Side) (n : Nat) (p : Plant) : Plant :=
  match (p.side side).job with
  | some j => if j.oven = n && j.state = .pressing then start (.testJob side) (closeJob g side n p) else p
  | none => p

/-- A running job is abandoned (R106). -/
def abandonJob (g : Ground) (side : Side) (reason : WorkFault) (p : Plant) : Plant :=
  match (p.side side).job with
  | some j =>
    start (.testJob side) <| raise g (.doorFault j.oven side (.job j.state reason)) <|
      closeJob g side j.oven (send (sideMachine side) .stop p)
  | none => p

/-- A job in MOVING whose machine stands at the spot sends PRESS (R104). -/
def pressNow (side : Side) (j : Job) (p : Plant) : Plant :=
  sendJob side j.oven (.step .press) <|
    p.modSide side fun d => { d with job := some { j with state := .pressing, command := .step .press } }

/-- A position report of a machine whose claim the side's job holds (R104, R106, R107). -/
def jobReport (g : Ground) (side : Side) (p : Plant) : Plant :=
  match (p.side side).job with
  | none => p
  | some j =>
    match j.state, g.atSpot (sideMachine side) j.oven with
    | .moving, true => if j.suspended then p else pressNow side j p
    | .moving, false => p
    | .pressing, true => p
    | .pressing, false => abandonJob g side .alignment p

/-- The job's timer expires (R106). -/
def jobTimeout (g : Ground) (side : Side) (p : Plant) : Plant :=
  match (p.side side).job with
  | none => p
  | some j =>
    match j.timer with
    | none => p
    | some t => if g.clock < t then p else abandonJob g side .timeout p

/-- The run state has left RUNNING: the side's job is suspended and its timer dropped (R107). -/
def suspendJob (side : Side) (p : Plant) : Plant :=
  p.modSide side fun d => { d with job := d.job.map fun j => { j with suspended := true, timer := none } }

/-- A suspended job at RESUME (R107). -/
def resumeJob (g : Ground) (side : Side) (p : Plant) : Plant :=
  match (p.side side).job with
  | none => p
  | some j =>
    if j.suspended then
      let j : Job := { j with suspended := false, timer := some (g.clock + (g.params.tService : Int)) }
      match j.state, g.atSpot (sideMachine side) j.oven with
      | .moving, true => pressNow side j p
      | _, _ => sendJob side j.oven j.command (p.modSide side fun d => { d with job := some j })
    else p

/-- A warm restart cancels the side's job: its claim is released to no work, and its door placed again if it qualifies
(R110). -/
def restartJob (g : Ground) (side : Side) (p : Plant) : Plant :=
  match (p.side side).job with
  | none => p
  | some j =>
    let p := releaseClaims g [sideMachine side] false p
    rejudge g j.oven side (p.modSide side fun d => { d with job := none })

end Sys2Proof.Machine
end

