-- ==== Sys2Proof/Machine/Doors.lean ====
section
/-! DEFINITION. The door records (chapter 5): changes of a record, extraction, replacement, the judgement of a press, and the
changes the host's requests and parameters make. -/

namespace Sys2Proof.Machine

/-- The blocks' part of an event, on a whole state. -/
def State.work (s : State) (f : Ground → Plant → Plant) : State := { s with plant := f s.ground s.plant }

/-- A notice is raised (R175). -/
def State.raise (s : State) (body : NoticeBody) : State := s.work fun g p => Machine.raise g body p

/-- The ground with one door record replaced. -/
def Ground.setDoor (g : Ground) (n : Nat) (side : Side) (d : Door) : Ground :=
  { g with doors := updateNumbered g.doors n fun r => r.setSide side d }

/-- What follows a change of a door's record: DOOR_STATE at a change of state or leak level, or where a rule asks for one
without a change; the qualification judged again; and the ask of its oven re-checked (R92, R98, R112). -/
def doorChanged (n : Nat) (side : Side) (old : Door) (always : Bool) (g : Ground) (p : Plant) : Plant :=
  let d := g.door n side
  let p := if always || d.state ≠ old.state || d.leak ≠ old.leak then raise g (.doorState n side old.state d) p else p
  let p := rejudge g n side p
  match p.ask with
  | some a => if a.oven = n then recheckAsk g p else p
  | none => p

/-- A door's record is replaced (R92). -/
def State.putDoor (s : State) (n : Nat) (side : Side) (d : Door) (always : Bool := false) : State :=
  { s with ground := s.ground.setDoor n side d }.work (doorChanged n side (s.ground.door n side) always)

/-- EXTRACT DONE may be applied to an oven's doors: it holds a ticket whose extract sent flag is set, or is EMPTY (R94). -/
def mayExtract (p : Plant) (n : Nat) : Bool :=
  (p.tickets.any fun t => t.oven = n && t.extractSent) || (p.oven n).phase = .empty

/-- EXTRACT DONE (R93, R94). For a door in UNKNOWN or REMOVED R93's table is followed, which ignores the DONE, and no
STRAY_EXTRACT is raised (log 38). -/
def State.doorExtracted (s : State) (n : Nat) (side : Side) : State :=
  let d := s.ground.door n side
  match d.state with
  | .unknown | .removed => s
  | _ =>
    if mayExtract s.plant n then s.putDoor n side { d with state := .removed, leak := 0 }
    else s.raise (.doorFault n side .strayExtract)

/-- REPLACE DONE (R93, R94). -/
def State.doorReplaced (s : State) (n : Nat) (side : Side) : State :=
  let d := s.ground.door n side
  match d.state with
  | .removed => s.putDoor n side { d with state := .hung, leak := 0 }
  | _ => s

/-- A PRESS DONE of the side answers a PRESS that a ticket of the oven sent in CLOSING: one is still without an answer (R95;
log 13). -/
def answersClosingPress (p : Plant) (n : Nat) (side : Side) : Bool := p.closingPresses.contains (sideMachine side, n)

/-- The force is within the press band (R95). -/
def inBand (q : Params) (force : Nat) : Bool := q.pressLo ≤ force && force ≤ q.pressHi

/-- The failed press count after a failed press that no CLOSING asked for (R95). -/
def raisedCount (q : Params) (count : Nat) : Nat := min q.repressTries (count + 1)

/-- A failed press (R95). -/
def State.pressFailed (s : State) (n : Nat) (side : Side) (force : Nat) : State :=
  let q := s.ground.params
  let d := s.ground.door n side
  let closing := answersClosingPress s.plant n side
  let s := s.raise (.doorFault n side (.press force q.pressLo q.pressHi))
  let count := if closing then d.count else raisedCount q d.count
  if !closing && count = q.repressTries then
    (s.putDoor n side { state := .defect, leak := 0, force := force, count := count }).raise (.doorDefect n side count)
  else
    s.putDoor n side { state := .pressFault, leak := 0, force := force, count := count } (d.state = .pressFault)

/-- PRESS DONE (R93, R95): a force above 400 is taken as 400. -/
def State.doorPressed (s : State) (n : Nat) (side : Side) (force : Nat) : State :=
  match (s.ground.door n side).state with
  | .unknown | .removed | .defect => s
  | _ =>
    if inBand s.ground.params (min 400 force) then
      s.putDoor n side { state := .pressed, leak := 0, force := min 400 force, count := 0 }
    else s.pressFailed n side (min 400 force)

/-- A restored door record (R16, R110). -/
def restoredDoor : RestoreDoor → Door
  | .pressed leak => { state := .pressed, leak := leak, force := 0, count := 0 }
  | .hung => { state := .hung, leak := 0, force := 0, count := 0 }
  | .defect => { state := .defect, leak := 0, force := 0, count := 0 }

/-- Every oven and side, in ascending oven number, PS before CS for each oven, as R102 gives for LEAK_THRESHOLD; for
REPRESS_TRIES the same order is the model's (log 46). -/
def allDoors (g : Ground) : List (Nat × Side) := (ovenNumbers g.count).flatMap fun n => [(n, .ps), (n, .cs)]

/-- A change of LEAK_THRESHOLD re-judges every PRESSED door (R102). -/
def rejudgePressed (g : Ground) (p : Plant) : Plant :=
  (allDoors g).foldl
    (fun p x => if (g.door x.1 x.2).state = .pressed then rejudge g x.1 x.2 p else p) p

/-- A change of REPRESS_TRIES at one door (R102): a count above the new value comes down to it in every door, one that
becomes DEFECT included, so that it stays in its range (R92; log 45). -/
def State.judgeTries (s : State) (n : Nat) (side : Side) : State :=
  let d := s.ground.door n side
  let tries := s.ground.params.repressTries
  if d.state = .pressFault && tries ≤ d.count then
    (s.putDoor n side { d with state := .defect, count := tries }).raise (.doorDefect n side tries)
  else if tries < d.count then { s with ground := s.ground.setDoor n side { d with count := tries } }
  else s

end Sys2Proof.Machine
end

