-- ==== Sys2Proof/Machine/Tasks.lean ====
section
/-! DEFINITION. Follow-up events (log 3): what each of them does, and how a command's follow-up events are taken, one at a
time and in the order of their ranks, before the command ends. -/

namespace Sys2Proof.Machine

/-- One follow-up event is taken. -/
def runTask (g : Ground) (t : Task) (p : Plant) : Plant :=
  match t with
  | .evaluate => evaluate g p
  | .pacing => pacingReached g p
  | .offerTicket => offerToTickets g p
  | .recheckAsk => recheckAsk g p
  | .testJob side => testJob g side p
  | .recheckTarget c => recheckTarget g c p
  | .carReported c => carReported g c p
  | .carLoaded c => carDone g c .load p
  | .carFaulted c num reason => carFaulted g c num reason p
  | .readiness n => readinessReached g n p
  | .overdue n => overdueReached g n p
  | .dwell n => dwellReached g n p
  | .drain c => drainReached g c p

/-- The follow-up events are taken from the head of the agenda, at most as many as the first argument; those that one of them
starts take their places among the rest. -/
def settle (g : Ground) : Nat → Plant → Plant
  | 0, p => { p with agenda := [] }
  | k + 1, p =>
    match p.agenda with
    | [] => p
    | t :: rest => settle g k (runTask g t { p with agenda := rest })

/-- The number of follow-up events one command may take; a command that starts more loses the rest (log 3). -/
def settleLimit : Nat := 4096

/-- The follow-up events of a command are taken. -/
def State.settled (s : State) : State := s.work fun g p => settle g settleLimit p

/-- A command begins: the list of the records it sends is empty (log 6). -/
def State.opened (s : State) : State := { s with plant := { s.plant with sent := [] } }

/-- A command: its direct effects, then its follow-up events. -/
def State.event (s : State) (f : State → State) : State := (f s.opened).settled

end Sys2Proof.Machine
end

