-- ==== Sys2Proof/Machine/Line.lean ====
section
/-! DEFINITION. The offtake line (7.1, 7.2, 7.4): the poll round, what a poll carries, the reply of each class of node, and a
miss. -/

namespace Sys2Proof.Machine

/-! ## The poll round -/

/-- The nodes of group `k` of a round with `ovens` oven nodes, in order (R123). -/
def groupNodes (ovens k : Nat) : List Nat :=
  [0] ++ (ovenNumbers ovens).filter (fun n => 8 * k - 7 ≤ n && n ≤ 8 * k) ++ [120, 121]

/-- The groups of a round: one for each block of eight ovens, and one without ovens (R123). -/
def groupCount (ovens : Nat) : Nat := max 1 (ceilDiv ovens 8)

/-- A node's line record, by address (R125). -/
def Ground.node (g : Ground) (address : Nat) : NodeLine :=
  if address = 0 then g.mainNode
  else if address = 120 then g.towerNodeA
  else if address = 121 then g.towerNodeB
  else g.ovenNode address

/-- The ground with a node's line record replaced. -/
def Ground.setNode (g : Ground) (address : Nat) (r : NodeLine) : Ground :=
  if address = 0 then { g with mainNode := r }
  else if address = 120 then { g with towerNodeA := r }
  else if address = 121 then { g with towerNodeB := r }
  else { g with ovenNodes := updateNumbered g.ovenNodes address fun _ => r }

/-- The tower car of a tower address (R123). -/
def towerCar (address : Nat) : Car := if address = 120 then .a else .b

/-- What a poll of a node carries now (R124). -/
def carriedNow (p : Plant) (address : Nat) : Carried :=
  if address = 0 then .main p.mainPosition
  else if address = 120 then .tower p.sprayA
  else if address = 121 then .tower p.sprayB
  else .oven (p.oven address).valve.mode (p.oven address).valve.position

/-- A place of the round is polled: a LOST main or tower node only in group 1 (R123). -/
def polledAt (g : Ground) (group address : Nat) : Bool :=
  group = 1 || !isPlantNode address || (g.node address).online

/-- The places of a group, each with its node. -/
def groupPlaces (ovens group : Nat) : List (Nat × Nat × Nat × Nat) :=
  (groupNodes ovens group).zipIdx.map fun x => (ovens, group, x.2, x.1)

/-- The places that follow an exchange: the rest of its group, then the next group, which after the last is group 1 of a
new round with the oven nodes there are now (R123). -/
def placesAfter (g : Ground) (x : Poll) : List (Nat × Nat × Nat × Nat) :=
  (groupPlaces x.ovens x.group).drop (x.place + 1) ++
    if x.group < groupCount x.ovens then groupPlaces x.ovens (x.group + 1) else groupPlaces g.count 1

/-- The exchange at a place begins (R124). -/
def beginPoll (p : Plant) (place : Nat × Nat × Nat × Nat) : Poll where
  address := place.2.2.2
  carried := carriedNow p place.2.2.2
  group := place.2.1
  place := place.2.2.1
  ovens := place.1

/-- The exchange that follows one that has ended (R124). -/
def nextPoll (g : Ground) (p : Plant) (x : Poll) : Option Poll :=
  ((placesAfter g x).find? fun y => polledAt g y.2.1 y.2.2.2).map (beginPoll p)

/-- The round begins at group 1 with the main and tower nodes (R142). -/
def firstPoll (p : Plant) : Poll := beginPoll p (0, 1, 0, 0)

/-- An exchange has ended, and the next begins (log 16). -/
def State.nextExchange (s : State) (x : Poll) : State :=
  { s with ground := { s.ground with poll := nextPoll s.ground s.plant x } }

/-! ## Returns, losses, faults -/

/-- The values of a node's record, as notices carry them. -/
def NodeLine.values (r : NodeLine) : NodeValues where
  pressure := r.pressure
  actual := r.actual
  spray := r.spray

/-- The pending ask is re-checked if it is for the oven (R112). -/
def recheckAskOf (g : Ground) (n : Nat) (p : Plant) : Plant :=
  match p.ask with
  | some a => if a.oven = n then recheckAsk g p else p
  | none => p

/-- A node's return is handed on (R127). -/
def nodeReturned (g : Ground) (address : Nat) (p : Plant) : Plant :=
  if address = 0 then recheckAsk g p
  else if isPlantNode address then lookForGrant g p
  else recheckAskOf g address (start .evaluate p)

/-- A node's command, as NODE_LOST carries it (R126). -/
def nodeCommand (p : Plant) (address : Nat) : NodeCommand :=
  if address = 0 then .main
  else if isPlantNode address then .tower (p.spray (towerCar address))
  else .oven (p.oven address).valve.mode

/-- A ticket of the oven in ISOLATING with its isolated flag clear is aborted (R126, R77). -/
def abortIsolating (g : Ground) (n : Nat) (p : Plant) : Plant :=
  match p.ticketOf? n with
  | none => p
  | some t => if t.state = .isolating && !t.isolated then abortTicket g t.number .nodeLost p else p

/-- A node becomes LOST (R126). -/
def nodeLost (g : Ground) (address : Nat) (p : Plant) : Plant :=
  let oven := !isPlantNode address
  let p := if oven then p.modValve address fun v => { v with confirmed := false } else p
  let p := raise g (.nodeLost address (nodeCommand p address) (g.node address).values) p
  if address = 0 then recheckAsk g p
  else if oven then recheckAskOf g address (abortIsolating g address p)
  else p

/-! ## Replies -/

/-- The reply's kind is that of the node's class, one kind serving the main and the oven nodes (R124; log 47). -/
def replyFits (address : Nat) : NodeReply → Bool
  | .valve .. => address ≠ 120 && address ≠ 121
  | .tower .. => address = 120 || address = 121

/-- A node's record after a valid reply: ONLINE, miss count 0, with the fault flag and the values of the reply (R124, R127,
R128). -/
def replied (r : NodeLine) : NodeReply → NodeLine
  | .valve pressure position fault =>
    { r with
      online := true
      miss := 0
      fault := fault
      pressure := some (clampInt (-2000) 2000 pressure)
      actual := some (min 1000 position) }
  | .tower spray fault => { r with online := true, miss := 0, fault := fault, spray := some spray }

/-- A main node's reply makes a main step, or gives the first commanded position (R138). -/
def mainStep (g : Ground) (pressure : Int) (actual : Nat) (p : Plant) : Plant :=
  match p.mainPosition with
  | none => { p with mainPosition := some actual }
  | some x =>
    let sp := mainSetPointNow g p
    { p with
      mainPosition := some (regulatorStep g.params.deadband g.params.gMain g.params.mVmin sp pressure x)
      mainSetPoint := some sp }

/-- An oven in HOLD without a commanded position takes the actual position (R132). -/
def holdPosition (n actual : Nat) (p : Plant) : Plant :=
  p.modValve n fun v => if v.mode = .hold && v.position.isNone then { v with position := some actual } else v

/-- Isolation is confirmed, or found drifted, while ISOLATE is commanded (R133). -/
def judgeIsolation (g : Ground) (n : Nat) (carried : Carried) (actual : Nat) (p : Plant) : Plant :=
  let v := (p.oven n).valve
  if v.mode ≠ .isolate then p
  else if g.params.isoTol < actual then
    let q := p.modValve n fun v => { v with confirmed := false }
    if v.confirmed then raise g (.valveDrift n actual g.params.isoTol) q else q
  else
    match carried with
    | .oven .isolate _ =>
      if v.confirmed then p else isolationConfirmed n (p.modValve n fun v => { v with confirmed := true })
    | _ => p

/-- A regulator step of an oven, when the poll carried REGULATE and REGULATE is commanded (R136). -/
def ovenStep (g : Ground) (n : Nat) (carried : Carried) (pressure : Int) (p : Plant) : Plant :=
  let o := p.oven n
  match carried, o.valve.mode, o.valve.position with
  | .oven .regulate _, .regulate, some x =>
    let sp := ovenSetPoint g n o.toOvenRecord
    p.modValve n fun v =>
      { v with
        position := some (regulatorStep g.params.deadband g.params.gOven g.params.vMin sp pressure x)
        setPoint := some sp }
  | _, _, _ => p

/-- What the offtake unit does on a valid, unfaulted reply (R132, R133, R136, R138, R140). -/
def actOnReply (g : Ground) (address : Nat) (carried : Carried) (reply : NodeReply) (p : Plant) : Plant :=
  match reply with
  | .tower spray _ => sprayReported g (towerCar address) spray p
  | .valve pressure position _ =>
    let pressure := clampInt (-2000) 2000 pressure
    let actual := min 1000 position
    if address = 0 then mainStep g pressure actual p
    else ovenStep g address carried pressure (judgeIsolation g address carried actual (holdPosition address actual p))

/-- The fault flag of a reply (R124). -/
def replyFaulted : NodeReply → Bool
  | .valve _ _ fault => fault
  | .tower _ fault => fault

/-- What a valid reply starts: the return of a LOST node, its fault flag turning set, and, unfaulted, the unit's action
(R127, R128). -/
def replyTaken (old : NodeLine) (x : Poll) (reply : NodeReply) (g : Ground) (p : Plant) : Plant :=
  let p :=
    if old.online then p
    else
      nodeReturned g x.address <|
        if old.miss = 3 then raise g (.nodeBack x.address (g.node x.address).values) p else p
  let p :=
    if replyFaulted reply && !old.fault then raise g (.nodeFault x.address (g.node x.address).values) p else p
  if replyFaulted reply then p else actOnReply g x.address x.carried reply p

/-- A reply frame with a correct check: a valid reply to the poll in progress ends the exchange; any other is discarded
(R124). -/
def State.otlReplied (s : State) (address : Nat) (reply : NodeReply) : State :=
  let s := s.received .offtake
  match s.ground.poll with
  | none => s
  | some x =>
    if address = x.address && replyFits address reply then
      let old := s.ground.node address
      let s : State := { s with ground := s.ground.setNode address (replied old reply) }
      (s.work (replyTaken old x reply)).nextExchange x
    else s

/-- A node's record after a miss (R126). -/
def missed (r : NodeLine) : NodeLine :=
  if r.online then { r with miss := r.miss + 1, online := r.miss + 1 < 3 } else r

/-- The reply wait expires: the exchange ends as a miss (R124, R126). -/
def State.replyMissed (s : State) : State :=
  match s.ground.poll with
  | none => s
  | some x =>
    let old := s.ground.node x.address
    let s : State := { s with ground := s.ground.setNode x.address (missed old) }
    let s := if old.online && !(missed old).online then s.work fun g p => nodeLost g x.address p else s
    s.nextExchange x

end Sys2Proof.Machine
end

