-- ==== Sys2Proof/Machine/Links.lean ====
section
/-! DEFINITION. The machine links (chapter 9): contact and silence, the hand-over of position reports, faults and completions
to the work they concern, the run state and its lines, and the meanings of the machines' records and of the silence timer. -/

namespace Sys2Proof.Machine

/-- What a command's meaning answers. -/
abbrev Answer := Host.Outcome State Fault Refusal

/-! ## Contact and silence -/

/-- The ground with a machine's mirror changed. -/
def Ground.modMirror (g : Ground) (m : Machine) (f : Mirror → Mirror) : Ground := g.setMirror m (f (g.mirror m))

/-- A machine that has become ONLINE is handed on: to the door unit for its side's job, to the charge unit for PM
(R165; log 17). -/
def machineReturned (m : Machine) (g : Ground) (p : Plant) : Plant :=
  match m with
  | .pm => recheckAsk g (testJob g .ps p)
  | .gc => testJob g .cs p
  | _ => p

/-- A mirror at a valid record (R165). -/
def contacted (g : Ground) (r : Mirror) : Mirror :=
  { r with online := true, heard := true, silence := some (g.clock + (g.params.machineSilence : Int) + 1) }

/-- A valid record is contact with its machine, before the record itself is handled (R163, R165). -/
def State.contact (s : State) (m : Machine) : State :=
  let old := s.ground.mirror m
  let s : State := { s with ground := s.ground.modMirror m (contacted s.ground) }
  if old.online then s
  else (if old.heard then s.raise (.machineOnline m old.position) else s).work (machineReturned m)

/-- A valid record of a machine: contact, then the record; while STARTING it is discarded (R163). -/
def State.record (s : State) (m : Machine) (f : State → State) : State :=
  if s.ground.starting then s.received (.machine m) else f ((s.received (.machine m)).contact m)

/-- The door side a machine serves. -/
def machineSide : Machine → Side
  | .gc => .cs
  | _ => .ps

/-- The car whose controller a machine is. -/
def machineCar : Machine → Option Car
  | .qa => some .a
  | .qb => some .b
  | _ => none

/-- The loss of a machine is handed to the blocks that use it (R165). -/
def machineLost (m : Machine) (g : Ground) (p : Plant) : Plant :=
  match machineCar m with
  | some c => if g.configured then faultCar g c .offline p else p
  | none =>
    match m, p.claim m with
    | .cc, _ => dropAsk g p
    | _, .ticket num => recheckLost m g (ticketMachineLost g num (.offline m) p)
    | _, .service => recheckLost m g (abandonJob g (machineSide m) .offline p)
    | _, .charge => chargePmLost g p
    | _, .free => recheckLost m g p
where
  /-- A pending ask not holding PM is re-checked at PM's loss (R112, R165), one that waits for PM held by a ticket too:
  the re-check is of the ask's own condition, and the ticket's cause reaches the ticket alone (R80; log 52). -/
  recheckLost (m : Machine) (g : Ground) (p : Plant) : Plant := if m = .pm then recheckAsk g p else p

/-- A machine's silence timer expires: it becomes OFFLINE (R165). A timer not set or not yet due does not expire. -/
def State.silenceReached (s : State) (m : Machine) : State :=
  match (s.ground.mirror m).silence with
  | none => s
  | some t =>
    if s.ground.clock < t then s
    else
      let s : State :=
        { s with ground := s.ground.modMirror m fun r => { r with online := false, silence := none } }
      (s.raise (.machineOffline m (s.ground.mirror m).position (s.plant.claim m))).work (machineLost m)

/-- A change of MACHINE_SILENCE resets a running silence timer (R165). -/
def State.resetSilence (old : Nat) (s : State) (m : Machine) : State :=
  { s with
    ground := s.ground.modMirror m fun r =>
      { r with silence := r.silence.map fun t => t - (old : Int) + (s.ground.params.machineSilence : Int) } }.silenceReached m

/-! ## Records -/

/-- A position report of PM, GC or CC goes to the work it concerns (R163). -/
def reportHanded (m : Machine) (changed : Bool) (g : Ground) (p : Plant) : Plant :=
  match m, p.claim m with
  | .cc, _ => if changed || g.cc.moving then dropAsk g p else p
  | _, .ticket num => ticketMachineReport g m num p
  | _, .service => jobReport g (machineSide m) p
  | _, .charge => chargePmReport g p
  | _, .free => p

/-- A POS record (R163). -/
def State.posRecord (s : State) (m : Machine) (position : Nat) (moving loaded : Bool) : State :=
  let old := s.ground.mirror m
  let s : State :=
    { s with ground := s.ground.modMirror m fun r => { r with position := some position, moving := moving } }
  let s :=
    if old.position ≠ some position || old.moving ≠ moving then s.raise (.machinePos m position moving) else s
  match machineCar m with
  | some c => if s.ground.configured then s.work fun g p => carReport g c position moving loaded p else s
  | none => s.work (reportHanded m (old.position ≠ some position))

/-- A FAULT record goes to the holder of PM's or GC's claim, or to the track unit (R164). -/
def faultHanded (m : Machine) (code : Nat) (g : Ground) (p : Plant) : Plant :=
  match machineCar m with
  | some c => if g.configured then faultCar g c (.code code) p else p
  | none =>
    match p.claim m with
    | .ticket num => ticketMachineLost g num (.machineFault m code) p
    | .service => abandonJob g (machineSide m) .machineFault p
    | .charge => chargePmFault g p
    | .free => p

/-- A FAULT record (R164). -/
def State.faultRecord (s : State) (m : Machine) (code : Nat) : State :=
  let s : State :=
    { s with ground := s.ground.modMirror m fun r => { r with lastFault := some (code, s.ground.clock) } }
  (s.raise (.machineFault m code (s.ground.mirror m).position (s.plant.claim m))).work (faultHanded m code)

/-- The operations each machine performs (R164). -/
def performs : Machine → Op → Bool
  | .pm, .extract | .pm, .replace | .pm, .press | .pm, .ramAdvance | .pm, .ramReturn | .pm, .level => true
  | .gc, .extract | .gc, .replace | .gc, .press | .gc, .guideLock | .gc, .guideRelease => true
  | .qa, .receive | .qa, .dump | .qb, .receive | .qb, .dump => true
  | _, _ => false

/-- A DONE of an operation its sender performs; a DONE of another operation is contact and no more (R163, R164;
log 30). -/
def State.doneRecord (s : State) (m : Machine) (op : Op) (f : State → State) : State :=
  s.record m fun s => if performs m op then f s else s

/-- EXTRACT DONE of PM or GC: the door record, then the ticket (R66, R164). -/
def extractEffect (m : Machine) (n : Nat) (s : State) : State :=
  (s.doorExtracted n (machineSide m)).work fun g p => machineDone g m .extract n p

/-- REPLACE DONE of PM or GC (R66, R164). -/
def replaceEffect (m : Machine) (n : Nat) (s : State) : State :=
  (s.doorReplaced n (machineSide m)).work fun g p => machineDone g m .replace n p

/-- PRESS DONE of PM or GC: the judgement of the press, which a ticket's PRESS is answered by, the ticket, and the side's
job (R66, R95, R105, R164). -/
def pressEffect (m : Machine) (n force : Nat) (s : State) : State :=
  (s.doorPressed n (machineSide m) force).work fun g p =>
    endJob g (machineSide m) n (machineDone g m .press n (pressAnswered m n p))

/-- RECEIVE DONE of a car (R154). -/
def receiveEffect (m : Machine) (n : Nat) (s : State) : State :=
  match machineCar m with
  | some c => s.work fun g p => receiveDone g c n p
  | none => s

/-- DUMP DONE of a car (R156). -/
def dumpEffect (m : Machine) (s : State) : State :=
  match machineCar m with
  | some c => s.work fun g p => dumpDone g c p
  | none => s

/-- A POS record arrives. -/
def execMachinePos (m : Machine) (position : Nat) (moving loaded : Bool) (s : State) : Answer :=
  .next (s.event fun s => s.record m fun s => s.posRecord m position moving loaded)

/-- A FAULT record arrives. -/
def execMachineFault (m : Machine) (code : Nat) (s : State) : Answer :=
  .next (s.event fun s => s.record m fun s => s.faultRecord m code)

/-- EXTRACT DONE arrives. -/
def execExtractDone (m : Machine) (n : Nat) (s : State) : Answer :=
  .next (s.event fun s => s.doneRecord m .extract (extractEffect m n))

/-- REPLACE DONE arrives. -/
def execReplaceDone (m : Machine) (n : Nat) (s : State) : Answer :=
  .next (s.event fun s => s.doneRecord m .replace (replaceEffect m n))

/-- PRESS DONE arrives. -/
def execPressDone (m : Machine) (n force : Nat) (s : State) : Answer :=
  .next (s.event fun s => s.doneRecord m .press (pressEffect m n force))

/-- GUIDE LOCK DONE arrives. -/
def execGuideLockDone (m : Machine) (n : Nat) (s : State) : Answer :=
  .next (s.event fun s => s.doneRecord m .guideLock fun s => s.work fun g p => machineDone g m .guideLock n p)

/-- GUIDE RELEASE DONE arrives. -/
def execGuideReleaseDone (m : Machine) (n : Nat) (s : State) : Answer :=
  .next (s.event fun s => s.doneRecord m .guideRelease fun s => s.work fun g p => machineDone g m .guideRelease n p)

/-- RAM ADVANCE DONE arrives. -/
def execRamAdvanceDone (m : Machine) (n load : Nat) (s : State) : Answer :=
  .next (s.event fun s => s.doneRecord m .ramAdvance fun s => s.work fun g p => ramAdvanced g n load p)

/-- RAM RETURN DONE arrives. -/
def execRamReturnDone (m : Machine) (n : Nat) (s : State) : Answer :=
  .next (s.event fun s => s.doneRecord m .ramReturn fun s => s.work fun g p => machineDone g m .ramReturn n p)

/-- LEVEL DONE arrives. -/
def execLevelDone (m : Machine) (n : Nat) (s : State) : Answer :=
  .next (s.event fun s => s.doneRecord m .level fun s => s.work fun g p => levelDone g n p)

/-- RECEIVE DONE arrives. -/
def execReceiveDone (m : Machine) (n : Nat) (s : State) : Answer :=
  .next (s.event fun s => s.doneRecord m .receive (receiveEffect m n))

/-- DUMP DONE arrives. -/
def execDumpDone (m : Machine) (_n : Nat) (s : State) : Answer :=
  .next (s.event fun s => s.doneRecord m .dump (dumpEffect m))

/-- CHARGE ASK arrives from CC. -/
def execChargeAsk (n : Nat) (s : State) : Answer :=
  .next (s.event fun s => s.record .cc fun s => s.work fun g p => chargeAsked g n p)

/-- CHARGE END arrives from CC. -/
def execChargeEnd (n mass : Nat) (s : State) : Answer :=
  .next (s.event fun s => s.record .cc fun s => s.work fun g p => chargeEndReport g n mass p)

/-- A machine's silence timer expires. -/
def execSilenceTimerExpiry (m : Machine) (s : State) : Answer := .next (s.event fun s => s.silenceReached m)

/-! ## The run state and the lines -/

/-- STOP goes to all five machines. -/
def stopAll (p : Plant) : Plant := sendStops allMachines p

/-- The run state is not RUNNING: the blocks suspend their work, and a pending ask is re-checked (R169; log
17). -/
def suspendWork (g : Ground) (p : Plant) : Plant :=
  recheckAsk g (suspendCharge g (suspendJob .cs (suspendJob .ps (suspendTickets p))))

/-- The run state takes a value, with its notices (R168). -/
def State.setRunState (s : State) (new : RunState) (cause : RunCause) : State :=
  let old := s.ground.runState
  let s : State := { s with ground := { s.ground with runState := new } }
  let s := s.raise (.runState old new cause)
  if new = .stopped then s.raise (.estop old) else s

/-- The run state goes to PAUSED or STOPPED (R168, R169). -/
def State.halt (s : State) (new : RunState) (cause : RunCause) : State :=
  (s.setRunState new cause).work fun g p => suspendWork g (stopAll p)

/-- RESUME takes the run state to RUNNING: the blocks go on with their work, and then the pending ask is re-checked, both
sides' jobs tested and an evaluation made, each after the offers of what a ticket or charge has freed (R103, R112, R167, R169;
log 3, 17). -/
def resumeWork (g : Ground) (p : Plant) : Plant :=
  let p := resumeCharge g (resumeTickets g p)
  let p := resumeTrack g (resumeJob g .cs (resumeJob g .ps p))
  startAll [.recheckAsk, .testJob .ps, .testJob .cs, .evaluate] p

/-- RESUME to RUNNING (R168, R169). -/
def State.goOn (s : State) : State := (s.setRunState .running .resume).work resumeWork

/-- The emergency stop line is asserted (R168); while STARTING its level alone is kept (R170). -/
def execEstopAsserted (s : State) : Answer :=
  .next (s.event fun s =>
    let s' : State := { s with ground := { s.ground with estopLine := true } }
    if s.ground.starting || s.ground.estopLine || s.ground.runState = .stopped then s' else s'.halt .stopped .estop)

/-- The emergency stop line is released (R168). -/
def execEstopReleased (s : State) : Answer :=
  .next (s.event fun s =>
    let s' : State := { s with ground := { s.ground with estopLine := false } }
    if s.ground.starting || !s.ground.estopLine then s' else s'.raise .estopReleased)

/-- The engineering key line changes (R184). -/
def execKeyLineChange (asserted : Bool) (s : State) : Answer :=
  .next (s.event fun s => { s with ground := { s.ground with keyLine := asserted } })

end Sys2Proof.Machine
end

