-- ==== Sys2Proof/Machine/Operands.lean ====
section
/-! DEFINITION. The checks of requests (R6, R173): each a condition that refuses, with its code and detail, and the first of
a list that holds. -/

namespace Sys2Proof.Machine

/-- A check: it refuses when its condition holds, with a code and a detail. -/
structure Check where
  fails : Bool
  code : Code
  detail : Detail
  deriving DecidableEq, Repr, Inhabited

/-- The refusal of the first check that fails (R173). -/
def firstRefusal : List Check → Option Reply
  | [] => none
  | c :: rest => if c.fails then some (.refused c.code c.detail) else firstRefusal rest

/-- The 2480 is STARTING (R173, step 2). -/
def whileStarting (s : State) : Check := ⟨s.ground.starting, .starting, .starting⟩

/-- A panel-only request on SUP (R173, step 3). -/
def panelOnly (port : Port) : Check := ⟨port = .sup, .auth, .panelOnly⟩

/-- The 2480 is UNCONFIGURED (R173, step 4). -/
def unlessConfigured (s : State) : Check := ⟨!s.ground.configured, .unconfigured, .unconfigured⟩

/-- The oven number is not 1 to N (R6). -/
def ovenNumber (s : State) (n : Nat) : Check := ⟨!s.ground.isOven n, .range, .number⟩

/-- A field is outside its range (R6). -/
def badField (b : Bool) : Check := ⟨b, .range, .field⟩

/-- A SUP request that changes an oven in the maintenance range (R12). -/
def rangeAuthority (s : State) (port : Port) (n : Nat) : Check :=
  ⟨port = .sup && s.ground.inRange n, .auth, .maintenanceRange⟩

/-- The oven holds a ticket (R7, R9). -/
def ovenTicketed (s : State) (n : Nat) : Check := ⟨(s.plant.oven n).phase.holdsTicket, .state, .ticketHeld⟩

/-- The QUIET conditions: no ticket and no charge record (R180). -/
def isQuiet (p : Plant) : Bool := p.tickets.isEmpty && p.charge.isNone

/-- The battery is not quiet (R180). -/
def unlessQuiet (s : State) : Check := ⟨!isQuiet s.plant, .busy, .quiet⟩

/-- A store operation is in progress (R185 to R187). -/
def storeBusy (s : State) : Check := ⟨s.ground.storeOp.isSome, .busy, .storeBusy⟩

/-- The engineering key line is released (R184, R187). -/
def keyReleased (s : State) : Check := ⟨!s.ground.keyLine, .locked, .keyLine⟩

/-- No ticket has the number (R82, R84). -/
def ticketUnknown (s : State) (num : Nat) : Check := ⟨(s.plant.ticket? num).isNone, .state, .ticketUnknown⟩

/-- The ticket's oven lies in the maintenance range, on SUP (R12). -/
def ticketAuthority (s : State) (port : Port) (num : Nat) : Check :=
  ⟨port = .sup && (s.plant.ticket? num).any fun t => s.ground.inRange t.oven, .auth, .maintenanceRange⟩

/-- The ticket stands in none of some states (R82, R84). -/
def ticketNotIn (s : State) (num : Nat) (ok : TicketState → Bool) : Check :=
  ⟨(s.plant.ticket? num).any fun t => !ok t.state, .state, .ticketState⟩

/-- The checks of R6 that every request naming an oven 1 to N begins with, then those of its fields and its authority. -/
def ovenChecks (s : State) (port : Port) (n : Nat) (field : Bool) : List Check :=
  [whileStarting s, unlessConfigured s, ovenNumber s n, badField field, rangeAuthority s port n]

/-- A restored door outside the states and levels offered (R15). -/
def badRestoreDoor : Option RestoreDoor → Bool
  | none => true
  | some (.pressed leak) => 3 < leak
  | some _ => false

/-- A field of OVEN RESTORE outside its range (R15). -/
def badRestore (f : RestoreFields) : Bool :=
  f.phase.isNone || 604800 < f.age || maxU32 < f.credit || f.trim < 800 || 1250 < f.trim || badRestoreDoor f.psDoor ||
    badRestoreDoor f.csDoor || f.service.isNone

/-- A field of VALVE outside its range (R131). -/
def badValve : Option ValveForm → Bool
  | none => true
  | some (.manual position) => 1000 < position
  | some _ => false

/-- A raised T_MIN that a READY oven, or one that holds a ticket other than a FORCED one, has not reached (R37). -/
def tMinTooHigh (g : Ground) (p : Plant) (v : Int) : Bool :=
  (g.params.tMin : Int) < v &&
    p.ovens.any fun o =>
      (o.phase = .ready || p.tickets.any fun t => t.oven = o.number && t.kind ≠ .forced) && netCoking g o < v

/-- The T_MIN check of PARAM SET (R182, check 5). -/
def tMinRefused (g : Ground) (p : Plant) : ParamId → ParamValue → Bool
  | .tMin, .number v => tMinTooHigh g p v
  | _, _ => false

/-- The checks of PARAM SET for a known identifier and a value of its form (R182, checks 2 to 5). -/
def settingChecks (s : State) (id : ParamId) (v : ParamValue) : List Check :=
  let q := s.ground.params
  [ ⟨protectedAt s.ground.protection (paramGroup id), .locked, .group⟩,
    ⟨paramClass id = .once && s.ground.configured, .state, .accessClass⟩,
    ⟨paramClass id = .quiet && !isQuiet s.plant, .busy, .accessClass⟩,
    ⟨id = .carSplit && !s.ground.configured, .state, .accessClass⟩,
    ⟨!valueInRange q id v, .range, .field⟩,
    ⟨!relationsHold (setParam q id v), .range, .relation⟩,
    ⟨tMinRefused s.ground s.plant id v, .state, .netCoking⟩ ]

end Sys2Proof.Machine
end

