-- ==== Sys2Proof/Machine/Ports.lean ====
section
/-! DEFINITION. The two request ports (10.1, 10.2): the request hold, the taking of a request and its one reply, and the
commands of the ports' own frames. -/

namespace Sys2Proof.Machine

/-- The state with a port changed. -/
def State.modPort (s : State) (port : Port) (f : PortState → PortState) : State :=
  { s with plant := s.plant.modPort port f }

/-- The request leaves its port's hold as it is taken: it is the oldest there, or, with the hold empty, it arrives and is
taken at once. While another request is the oldest it is not taken (R172; log 4). -/
def State.takeRequest (s : State) (port : Port) (tag : Byte) (r : Request) : Option State :=
  match (s.plant.port port).hold with
  | [] => some s
  | (t, q) :: rest =>
    if t = tag ∧ q = r then some (s.modPort port fun x => { x with hold := rest }) else none

/-- A reply becomes ready (R172). -/
def State.answer (s : State) (port : Port) (tag : Byte) (r : Reply) : State :=
  s.modPort port fun x => x.answer tag r

/-- A request is taken as one event (R172): refused by the first check that fails, changing nothing, or carried out whole,
with its reply formed from the direct effects and made ready once every block has taken its part. -/
def State.serve (s : State) (port : Port) (tag : Byte) (r : Request) (checks : State → List Check)
    (act : State → State × OkData) : State :=
  match s.opened.takeRequest port tag r with
  | none => s.opened
  | some s =>
    match firstRefusal (checks s) with
    | some reply => s.answer port tag reply
    | none => (act s).1.settled.answer port tag (.ok (act s).2)

/-- The length of a request fits its kind (R20, R173, step 1): a WALL REPORT carries 1 to 16 readings, as many as it
counts. -/
def lengthFits : Request → Bool
  | .wallReport _ count readings => 1 ≤ count && count ≤ 16 && count = readings.length
  | _ => true

/-- What a frame with a correct check does at its port: a request whose length fits enters the hold, or is answered FULL; any
other frame is answered FORMAT at once (R171, R172). -/
def PortState.arrival (x : PortState) (tag : Byte) (body : FrameBody) : PortState :=
  match body with
  | .request r =>
    if !lengthFits r then x.answerUrgent tag (.refused .format .frame)
    else if x.hold.length < 4 then { x with hold := x.hold ++ [(tag, r)] } else x.answerUrgent tag (.refused .full .holdFull)
  | .notRequest => x.answerUrgent tag (.refused .format .frame)
  | .badLength => x.answerUrgent tag (.refused .format .frame)

/-- A frame with a correct check has arrived on a port: its receiver holds no part of a frame, and the frame is judged
(R171, R172). -/
def State.portFrame (s : State) (port : Port) (tag : Byte) (body : FrameBody) : State :=
  (s.received (.port port)).modPort port fun x => x.arrival tag body

/-- A frame with a correct check arrives on SUP or PNL (R171, R172). -/
def execRequestFrameArrival (port : Port) (tag : Byte) (body : FrameBody) (s : State) : Answer :=
  .next (s.opened.portFrame port tag body)

/-- The frame a port is sending ends, and the next begins (R175). -/
def execPortFrameSent (port : Port) (s : State) : Answer :=
  .next (s.opened.modPort port fun x => { x with sending := none }.pump)

end Sys2Proof.Machine
end

