-- ==== Sys2Proof/Machine/Settings.lean ====
section
/-! DEFINITION. Parameter settings (chapter 11): the creation of the records when the oven count is set, and what each
setting does at the blocks it is handed to. -/

namespace Sys2Proof.Machine

/-! ## Configuration -/

/-- A wall record as it is created (R19). -/
def Wall.created : Wall where
  temp := 0
  report := 0
  valid := false
  expiry := none

/-- The ground with the records that the oven count creates (R183). -/
def Ground.configure (g : Ground) (n split : Nat) : Ground :=
  { g with
    params := { g.params with ovenCount := some n, carSplit := some split }
    order := pushOrder n g.params.plan
    walls := List.replicate (n + 1) Wall.created
    doors := List.replicate n { ps := Door.created, cs := Door.created }
    ovenNodes := List.replicate n NodeLine.created }

/-- The plant with the records that the oven count creates (R183). -/
def Plant.configure (p : Plant) (n : Nat) : Plant :=
  { p with
    ovens := (ovenNumbers n).map Oven.created
    cursor := 0
    catchup := []
    catchLatch := false
    psSide := .idle
    csSide := .idle
    carA := .created
    carB := .created }

/-- The oven count is set, with CAR_SPLIT (R183). -/
def State.configure (s : State) (n split : Nat) : State :=
  { s with ground := s.ground.configure n split, plant := s.plant.configure n }

/-! ## Effects of settings -/

/-- A function of each oven number is applied in ascending order, which no rule fixes (log 46). -/
def eachOven (g : Ground) (f : Nat → Plant → Plant) (p : Plant) : Plant :=
  (ovenNumbers g.count).foldl (fun p n => f n p) p

/-- Every accruing oven accrues, and then its rate, COLD_DATA flag and readiness expiry are recomputed (R37), in
ascending oven number (log 46). -/
def accrueAll (g : Ground) (p : Plant) : Plant := eachOven g (recomputeOven g) (eachOven g (accrue g) p)

/-- A wall's staleness expiry after a change of WALL_STALE (R37, step 3). -/
def restaled (g : Ground) (w : Nat) : Wall :=
  let r := g.wall w
  if !r.valid then r
  else { r with expiry := if wallLive g w then some (r.report + (g.params.wallStale : Int) + 1) else none }

/-- The notices and flags of one wall at a change of WALL_STALE (R37, step 3). Whether a wall was live goes by the clock
(R22), so one whose staleness expiry falls on this second and has not been taken was not (log 55). -/
def staleChanged (old g : Ground) (w : Nat) (p : Plant) : Plant :=
  if wallLive old w && !wallLive g w then raise g (.wallStale w (g.wall w).temp (g.wall w).report) p
  else if !wallLive old w && wallLive g w then
    (p.modOven (w - 1) fun o => { o with cold := false }).modOven w fun o => { o with cold := false }
  else p

/-- The wall numbers 1 to N + 1 (R19); none while UNCONFIGURED. -/
def wallNumbers (g : Ground) : List Nat := if g.configured then ovenNumbers (g.count + 1) else []

/-- A change of WALL_STALE (R37). Walls that lapse together raise WALL_STALE in ascending wall number (log 36). -/
def State.restale (old : Ground) (s : State) : State :=
  let g := s.ground
  let s : State := { s with ground := { g with walls := (wallNumbers g).map (restaled g) } }
  s.work fun g p =>
    eachOven g (recomputeOven g) <|
      (wallNumbers g).foldl (fun p w => staleChanged old g w p) (eachOven g (accrue g) p)

/-- A change of PLAN rebuilds the push order, and the cursor follows its oven (R39). -/
def State.reorder (s : State) : State :=
  if s.ground.configured then
    let order := pushOrder s.ground.count s.ground.params.plan
    { s with
      ground := { s.ground with order := order }
      plant := { s.plant with cursor := movedCursor s.ground.order order s.plant.cursor } }
  else s

/-- A change of PUSH_GAP or ISSUE_LEAD recomputes the next issue time, and may open the service window (R43, R60). -/
def repace (old g : Ground) (p : Plant) : Plant := announceWindow (windowOpen old p) g (setPacing g p)

/-- A change of T_MIN recomputes the readiness expiry of every COKING oven (R37), in ascending oven number (log 46). -/
def retime (g : Ground) (p : Plant) : Plant :=
  eachOven g (fun n p => if (p.oven n).phase = .coking then resetReadiness g n p else p) p

/-- A change of T_MAX resets the overdue timer of every oven that keeps one (R37), in ascending oven number (log 46). -/
def reoverdue (g : Ground) (p : Plant) : Plant :=
  eachOven g (fun n p => if (p.oven n).overdue.isSome then setOverdue g n p else p) p

/-- A change of EMPTY_LIMIT resets the empty dwell timer of every oven that keeps one (R120), in ascending oven number
(log 46). -/
def redwell (g : Ground) (p : Plant) : Plant :=
  eachOven g (fun n p => if (p.oven n).dwell.isSome then setDwell g n p else p) p

/-- What a setting does at the blocks it is handed to, the new value standing in `s` and the ground before it in `old`
(R182; the rules that 11.1 names). Silence timers that a change of MACHINE_SILENCE makes expire together do so in the order of
the machines (R165; log 43). A change of REPRESS_TRIES takes the doors in the order R102 gives for LEAK_THRESHOLD, and one of
CAR_SPLIT car A before car B (R102, R151; log 46). The parameters not named here act when next read. -/
def State.handOn (old : Ground) (id : ParamId) (s : State) : State :=
  match id with
  | .carSplit => s.work fun g p => recheckTarget g .b (recheckTarget g .a p)
  | .plan => s.reorder
  | .pushGap | .issueLead => s.work (repace old)
  | .serviceWindow => s.work fun g p => announceWindow (windowOpen old p) g p
  | .tBase => s.work accrueAll
  | .wallStale => s.restale old
  | .tMin => s.work retime
  | .tMax => s.work reoverdue
  | .vMin => s.work liftVMin
  | .mVmin => s.work liftMVmin
  | .emptyLimit => s.work redwell
  | .repressTries => (allDoors s.ground).foldl (fun s x => s.judgeTries x.1 x.2) s
  | .leakThreshold => s.work rejudgePressed
  | .machineSilence => allMachines.foldl (State.resetSilence old.params.machineSilence) s
  | .supMask => s.modPort .sup fun x => { x with mask := s.ground.params.supMask }
  | .pnlMask => s.modPort .pnl fun x => { x with mask := s.ground.params.pnlMask }
  | .ovenCount | .policy | .skipThreshold | .cBase | .mNom | .mMin | .mMax | .hardLoad | .trimStep | .profile | .pFloor
  | .leakTrim | .gOven | .deadband | .isoTol | .pMain | .aOff | .gMain | .tIso | .tAlign | .tDoor | .tGuide | .tRam
  | .tClose | .tService | .tCharge | .quenchTime | .drainTime | .hotDwell | .pressLo | .pressHi => s

/-- A parameter takes a value, and is handed on (R182). -/
def State.takeParam (s : State) (id : ParamId) (v : ParamValue) : State :=
  { s with ground := { s.ground with params := setParam s.ground.params id v } }.handOn s.ground id

end Sys2Proof.Machine
end

