-- ==== Sys2Proof/Machine/OvenRequests.lean ====
section
/-! DEFINITION. The requests of the oven table (chapter 1), the credit unit (chapter 2), the door unit (chapter 5) and the
offtake unit (chapter 7). -/

namespace Sys2Proof.Machine

/-! ## Queries -/

/-- Where an oven's door stands with its side's service (R92). -/
def doorListing (p : Plant) (n : Nat) (side : Side) : DoorListing :=
  if (p.side side).holds n then .held else if (p.side side).lists n then .listed else .neither

/-- The OVEN QUERY reply of an oven 1 to N (R13, R92, R141). -/
def ovenReply (g : Ground) (p : Plant) (n : Nat) : OvenReply :=
  let o := p.oven n
  { record := o.toOvenRecord
    forecast := forecast g o
    ticket := (p.ticketOf? n).map fun t => t.number
    inRange := g.inRange n
    doors := g.doorPair n
    psListing := doorListing p n .ps
    csListing := doorListing p n .cs
    node := g.ovenNode n
    valve := o.valve }

/-- OVEN QUERY of an oven 1 to N is an accrual event, and answers with the record after it; from N + 1 to 96 the record is
absent (R13, R14). -/
def queryOven (n : Nat) (s : State) : State × OkData :=
  if s.ground.isOven n then
    let s := s.work fun g p => accrualEvent g n p
    (s, .oven (ovenReply s.ground s.plant n))
  else (s, .ovenAbsent)

/-- OVEN QUERY (R13, R14). -/
def execOvenQuery (port : Port) (tag : Byte) (n : Nat) (s : State) : Answer :=
  .next <| s.serve port tag (.ovenQuery n)
    (fun s => [whileStarting s, unlessConfigured s, ⟨n = 0 || 96 < n, .range, .number⟩]) (queryOven n)

/-! ## OVEN RESTORE -/

/-- The record fields of a restore to EMPTY (R16). The hold flag stays as OVEN HOLD left it (R9, R15; log 35). -/
def restoreEmpty (g : Ground) (n : Nat) (f : RestoreFields) (p : Plant) : Plant :=
  let p := changePhase g n .empty .ovenRestore p
  let p := p.modOven n fun o =>
    { o with
      emptySince := some (g.clock - (f.age : Int))
      mass := clampMass g.params f.mass
      trim := f.trim
      service := f.service.getD .inService }
  setDwell g n (commandIsolate n p)

/-- The readiness test at once after a restore to COKING (R16). -/
def testRestored (g : Ground) (n : Nat) (p : Plant) : Plant :=
  if readinessTest g (p.oven n) then recomputeOven g n (becomeReady g n .readinessMet p) else p

/-- The record fields, target, accrual and timers of a restore to COKING (R16, R27). The hold flag stays as OVEN HOLD left it
(R9, R15; log 35). -/
def restoreCoking (g : Ground) (n : Nat) (f : RestoreFields) (p : Plant) : Plant :=
  let p := changePhase g n .coking .ovenRestore p
  let p := p.modOven n fun o =>
    { o with
      chargeEnd := some (g.clock - (f.age : Int))
      credit := f.credit
      trim := f.trim
      service := f.service.getD .inService
      overdueSent := false
      cold := false
      unconfirmed := false
      emptyLongSent := false }
  let p := testRestored g n (beginAccrual g n (setTarget g n f.mass p))
  commandRegulate g n (setOverdue g n p)

/-- An accepted OVEN RESTORE (R16): the record, then the PS door, then the CS door (log 46). -/
def restoreOven (n : Nat) (f : RestoreFields) (s : State) : State × OkData :=
  let toEmpty := f.phase = some .empty
  let s := s.work fun g p => if toEmpty then restoreEmpty g n f p else restoreCoking g n f p
  let s := s.putDoor n .ps (restoredDoor (f.psDoor.getD .hung))
  let s := s.putDoor n .cs (restoredDoor (f.csDoor.getD .hung))
  (s, .restored (s.plant.oven n).mass (if toEmpty then 0 else (s.plant.oven n).target))

/-- OVEN RESTORE (R15, R16). -/
def execOvenRestore (port : Port) (tag : Byte) (n : Nat) (f : RestoreFields) (s : State) : Answer :=
  .next <| s.serve port tag (.ovenRestore n f)
    (fun s => ovenChecks s port n (badRestore f) ++ [⟨(s.plant.oven n).phase ≠ .unknown, .state, .phase⟩])
    (restoreOven n f)

/-! ## Service, hold, range, trim -/

/-- A change of service state is handed on (R7). -/
def serviceChanged (n : Nat) (v : Service) (g : Ground) (p : Plant) : Plant :=
  recheckAskOf g n (if v = .outOfService then removeCatchup n p else p)

/-- An accepted OVEN SERVICE (R7). -/
def setService (n : Nat) (v : Service) (s : State) : State × OkData :=
  if (s.plant.oven n).service = v then (s, .service v)
  else (s.work fun g p => serviceChanged n v g (p.modOven n fun o => { o with service := v }), .service v)

/-- OVEN SERVICE (R7). -/
def execOvenService (port : Port) (tag : Byte) (n : Nat) (v : Option Service) (s : State) : Answer :=
  .next <| s.serve port tag (.ovenService n v)
    (fun s => ovenChecks s port n v.isNone ++ [ovenTicketed s n]) (setService n (v.getD .inService))

/-- OVEN HOLD (R9). -/
def execOvenHold (port : Port) (tag : Byte) (n : Nat) (v : Option Bool) (s : State) : Answer :=
  .next <| s.serve port tag (.ovenHold n v)
    (fun s => ovenChecks s port n v.isNone ++ [ovenTicketed s n])
    (fun s => (s.work fun _ p => p.modOven n fun o => { o with hold := v.getD false }, .plain))

/-- The bounds of a maintenance range are not 1 ≤ lo ≤ hi ≤ N (R10). -/
def badRange (g : Ground) : Option (Nat × Nat) → Bool
  | some (lo, hi) => !(1 ≤ lo && lo ≤ hi && hi ≤ g.count)
  | none => false

/-- The range would contain an oven that holds a ticket (R10). -/
def rangeTicketed (p : Plant) : Option (Nat × Nat) → Bool
  | some (lo, hi) => p.ovens.any fun o => lo ≤ o.number && o.number ≤ hi && o.phase.holdsTicket
  | none => false

/-- Every oven that enters the range leaves the catch-up list, and a pending ask is re-checked (R11; log 31). -/
def rangeChanged (old g : Ground) (p : Plant) : Plant :=
  recheckAsk g (eachOven g (fun n p => if g.inRange n && !old.inRange n then removeCatchup n p else p) p)

/-- An accepted MAINT RANGE (R10, R11). -/
def setRange (range : Option (Nat × Nat)) (s : State) : State × OkData :=
  ({ s with ground := { s.ground with maint := range } }.work (rangeChanged s.ground), .plain)

/-- MAINT RANGE (R10). -/
def execMaintRange (port : Port) (tag : Byte) (range : Option (Nat × Nat)) (s : State) : Answer :=
  .next <| s.serve port tag (.maintRange range)
    (fun s =>
      [whileStarting s, panelOnly port, unlessConfigured s, badField (badRange s.ground range),
        ⟨rangeTicketed s.plant range, .state, .ticketHeld⟩])
    (setRange range)

/-- OVEN TRIM (R36). -/
def execOvenTrim (port : Port) (tag : Byte) (n trim : Nat) (s : State) : Answer :=
  .next <| s.serve port tag (.ovenTrim n trim)
    (fun s => ovenChecks s port n (trim < 800 || 1250 < trim))
    (fun s => (s.work fun _ p => p.modOven n fun o => { o with trim := trim }, .trim trim))

/-! ## WALL REPORT -/

/-- A reading as clamped to 0..1600 (R20). -/
def clampReading (r : Int) : Nat := (clampInt 0 1600 r).toNat

/-- The readings that are clamped (R20). -/
def clampedCount (readings : List Int) : Nat := (readings.filter fun r => r < 0 || 1600 < r).length

/-- A wall as a report leaves it (R21, R22). -/
def reportedWall (g : Ground) (r : Int) : Wall where
  temp := clampReading r
  report := g.clock
  valid := true
  expiry := some (g.clock + (g.params.wallStale : Int) + 1)

/-- The walls from `first` on take their readings (R21, step 2). -/
def Ground.storeWalls (g : Ground) : Nat → List Int → Ground
  | _, [] => g
  | w, r :: rest => { g with walls := updateNumbered g.walls w fun _ => reportedWall g r }.storeWalls (w + 1) rest

/-- The ovens bounded by a named wall (R21). -/
def boundedOvens (g : Ground) (first count : Nat) : List Nat :=
  (ovenNumbers g.count).filter fun n => first ≤ n + 1 && n + 1 ≤ first + count

/-- Steps 3 and 4 of a report for one bounded oven (R21). -/
def reportedOven (g : Ground) (n : Nat) (p : Plant) : Plant :=
  if (p.oven n).accrual.isSome then recomputeOven g n p else p.modOven n fun o => { o with cold := false }

/-- An accepted WALL REPORT (R21). -/
def reportWalls (first : Nat) (readings : List Int) (s : State) : State × OkData :=
  let ovens := boundedOvens s.ground first readings.length
  let s := s.work fun g p => ovens.foldl (fun p n => accrue g n p) p
  let s : State := { s with ground := s.ground.storeWalls first readings }
  (s.work fun g p => ovens.foldl (fun p n => reportedOven g n p) p, .clamped (clampedCount readings))

/-- WALL REPORT (R20, R21). One whose length does not fit never enters the hold: its row is the arrival of its frame, which
is answered FORMAT at once, ahead of every reply not yet begun (R171, R172; log 4). -/
def execWallReport (port : Port) (tag : Byte) (first count : Nat) (readings : List Int) (s : State) : Answer :=
  .next <|
    if lengthFits (.wallReport first count readings) then
      s.serve port tag (.wallReport first count readings)
        (fun s =>
          [ whileStarting s, unlessConfigured s,
            ⟨first = 0 || s.ground.count + 1 < first + count - 1, .range, .number⟩ ])
        (reportWalls first readings)
    else s.opened.portFrame port tag (.request (.wallReport first count readings))

/-! ## Doors -/

/-- LEAK REPORT (R96). -/
def execLeakReport (port : Port) (tag : Byte) (n : Nat) (side : Option Side) (level : Nat) (s : State) : Answer :=
  .next <| s.serve port tag (.leakReport n side level)
    (fun s =>
      ovenChecks s port n (side.isNone || 3 < level) ++
        [⟨(s.ground.door n (side.getD .ps)).state ≠ .pressed, .state, .doorState⟩])
    (fun s =>
      let side := side.getD .ps
      let d := s.ground.door n side
      let s := if d.leak = level then s else s.putDoor n side { d with leak := level }
      (s, .door (s.ground.door n side)))

/-- DOOR RESET (R109). -/
def execDoorReset (port : Port) (tag : Byte) (n : Nat) (side : Option Side) (s : State) : Answer :=
  .next <| s.serve port tag (.doorReset n side)
    (fun s =>
      ovenChecks s port n side.isNone ++
        [⟨(s.ground.door n (side.getD .ps)).state ≠ .defect, .state, .doorState⟩])
    (fun s =>
      let side := side.getD .ps
      let s := s.putDoor n side { s.ground.door n side with state := .hung, leak := 0, count := 0 }
      (s, .door (s.ground.door n side)))

/-! ## VALVE -/

/-- An accepted VALVE (R131). -/
def setValve (g : Ground) (n : Nat) (form : ValveForm) (p : Plant) : Plant :=
  match form with
  | .regulate => commandRegulate g n p
  | .hold => p.modValve n fun v => { v with mode := .hold }
  | .manual x => p.modValve n fun v => { v with mode := .manual, position := some x }

/-- VALVE (R131). -/
def execValve (port : Port) (tag : Byte) (n : Nat) (form : Option ValveForm) (s : State) : Answer :=
  .next <| s.serve port tag (.valve n form)
    (fun s =>
      ovenChecks s port n (badValve form) ++
        [⟨(s.plant.oven n).phase ≠ .coking && (s.plant.oven n).phase ≠ .ready, .state, .phase⟩])
    (fun s =>
      let s := s.work fun g p => setValve g n (form.getD .hold) p
      (s, .valve (s.plant.oven n).valve.mode (s.plant.oven n).valve.position))

end Sys2Proof.Machine
end

