-- ==== Sys2Proof/Machine/PushRequests.lean ====
section
/-! DEFINITION. The requests of the schedule unit (chapter 3), the push sequencer (chapter 4), the track unit (chapter 8) and
the machine link unit (chapter 9). -/

namespace Sys2Proof.Machine

/-! ## The schedule unit -/

/-- SCHED START (R41, R51). -/
def execSchedStart (port : Port) (tag : Byte) (s : State) : Answer :=
  .next <| s.serve port tag .schedStart (fun s => [whileStarting s, unlessConfigured s])
    (fun s => ({ s with ground := { s.ground with schedRunning := true } }.work fun _ p => start .evaluate p, .plain))

/-- The scheduler becomes STOPPED, which may open the service window (R41, R60). -/
def State.stopSchedule (s : State) : State :=
  { s with ground := { s.ground with schedRunning := false } }.work fun g p =>
    announceWindow (windowOpen s.ground p) g p

/-- SCHED STOP (R41). -/
def execSchedStop (port : Port) (tag : Byte) (s : State) : Answer :=
  .next <| s.serve port tag .schedStop (fun s => [whileStarting s, unlessConfigured s])
    (fun s => (s.stopSchedule, .plain))

/-- CURSOR SET (R40). -/
def execCursorSet (port : Port) (tag : Byte) (index : Nat) (s : State) : Answer :=
  .next <| s.serve port tag (.cursorSet index)
    (fun s => [whileStarting s, unlessConfigured s, badField (s.ground.count ≤ index), unlessQuiet s])
    (fun s => ({ s with plant := { s.plant with cursor := index } }, .cursor index s.ground.order[index]?))

/-- An accepted CATCHUP CLEAR (R50). -/
def clearCatchup (p : Plant) : Plant :=
  if p.catchup.isEmpty then p else start .evaluate { p with catchup := [], catchLatch := false }

/-- CATCHUP CLEAR (R50). -/
def execCatchupClear (port : Port) (tag : Byte) (s : State) : Answer :=
  .next <| s.serve port tag .catchupClear (fun s => [whileStarting s, unlessConfigured s])
    (fun s => (s.work fun _ p => clearCatchup p, .cleared s.plant.catchup.length))

/-- The phase a PUSH NOW needs: with the force flag, COKING, unless the oven is READY already (R57, R58). -/
def pushPhase (p : Plant) (n : Nat) (force : Bool) : Phase :=
  if force && (p.oven n).phase ≠ .ready then .coking else .ready

/-- The kind of ticket a PUSH NOW issues (R57, R58). -/
def pushKind (p : Plant) (n : Nat) (force : Bool) : TicketKind :=
  if force && (p.oven n).phase ≠ .ready then .forced else .manual

/-- The car that makes the oven of a PUSH NOW eligible (R57, check 5). -/
def pushCar (g : Ground) (p : Plant) (port : Port) (n : Nat) (force : Bool) : Option Car :=
  eligibleCar g p (pushPhase p n force) (port = .sup) n

/-- The detail of a refusal by check 5 of R57 (log 19). -/
def pushDetail (g : Ground) (p : Plant) (port : Port) (n : Nat) : Detail :=
  match passReason g p (port = .sup) n with
  | some r => .passing r
  | none => .phase

/-- The checks of PUSH NOW (R57). -/
def pushChecks (port : Port) (n : Nat) (force : Bool) (s : State) : List Check :=
  ovenChecks s port n false ++
    [ ⟨port = .sup && force, .auth, .force⟩,
      ⟨s.plant.tickets.any fun t => t.state = .faultHeld, .state, .faultHeld⟩,
      ⟨2 ≤ s.plant.tickets.length, .busy, .listFull⟩,
      ⟨(pushCar s.ground s.plant port n force).isNone, .state, pushDetail s.ground s.plant port n⟩ ]

/-- An accepted PUSH NOW (R57 to R59): a catch-up entry it removes starts an evaluation (R49). -/
def pushNow (port : Port) (n : Nat) (force : Bool) (s : State) : State × OkData :=
  match pushCar s.ground s.plant port n force with
  | none => (s, .plain)
  | some c =>
    let kind := pushKind s.plant n force
    let listed := s.plant.catchup.any fun e => e.oven = n
    (s.work fun g p =>
        let q := issueTicket g kind n c p
        if listed then start .evaluate q else q,
      .issued s.plant.nextTicket kind c)

/-- PUSH NOW (R57). -/
def execPushNow (port : Port) (tag : Byte) (n : Nat) (force : Bool) (s : State) : Answer :=
  .next <| s.serve port tag (.pushNow n force) (pushChecks port n force) (pushNow port n force)

/-! ## The push sequencer -/

/-- The oven of a ticket. -/
def ovenOfTicket (p : Plant) (num : Nat) : Nat := ((p.ticket? num).map fun t => t.oven).getD 0

/-- ISOLATING and ALIGNING, the states a ticket may be cancelled from (R84). -/
def TicketState.early : TicketState → Bool
  | .isolating | .aligning => true
  | _ => false

/-- TICKET CANCEL (R84). -/
def execTicketCancel (port : Port) (tag : Byte) (num : Nat) (s : State) : Answer :=
  .next <| s.serve port tag (.ticketCancel num)
    (fun s =>
      [whileStarting s, unlessConfigured s, ⟨num = 0, .range, .number⟩, ticketUnknown s num,
        ticketAuthority s port num, ticketNotIn s num TicketState.early])
    (fun s =>
      let n := ovenOfTicket s.plant num
      let s := s.work fun g p => retireEarly g num .cancel .cancelRequest p
      (s, .cancelled num (s.plant.oven n).phase))

/-- RELEASE makes a door HUNG unless it is so already (R83). -/
def State.hangDoor (s : State) (n : Nat) (side : Side) : State :=
  let d := s.ground.door n side
  if d.state = .hung then s else s.putDoor n side { d with state := .hung, leak := 0 }

/-- The end of an accepted RELEASE: the offtake mode, the claims, the log and TICKET_END (R83). -/
def releaseEnd (t : Ticket) (full : Bool) (record : LogRecord) (g : Ground) (p : Plant) : Plant :=
  let p := if full then commandRegulate g t.oven p else p
  let p := writeLog record (releaseClaims g [.pm, .gc] true p)
  startAll retirementTasks (raise g (.ticketEnd t.number t.oven record.outcome) p)

/-- An accepted RELEASE (R83): the ticket retires, the oven's phase changes, both doors are HUNG, PS before CS
(log 46), then the rest. -/
def releaseTicket (num : Nat) (outcome : ReleaseOutcome) (s : State) : State × OkData :=
  match s.plant.ticket? num with
  | none => (s, .plain)
  | some t =>
    let full : Bool := outcome = .clearedFull
    let record :=
      logRecordOf s.ground s.plant t (if full then .releasedFull else .releasedEmpty) t.reason
    let s := s.work fun g p =>
      let p := dropTicket num p
      if full then returnOven g t.oven .clearedFull p else changePhase g t.oven .empty .clearedEmpty p
    let s := (s.hangDoor t.oven .ps).hangDoor t.oven .cs
    let s := s.work (releaseEnd t full record)
    (s, .released num outcome (s.plant.oven t.oven).phase)

/-- RELEASE (R82, R83). -/
def execRelease (port : Port) (tag : Byte) (num : Nat) (outcome : Option ReleaseOutcome) (s : State) : Answer :=
  .next <| s.serve port tag (.release num outcome)
    (fun s =>
      [whileStarting s, unlessConfigured s, ⟨num = 0, .range, .number⟩, badField outcome.isNone, ticketUnknown s num,
        ticketAuthority s port num, ticketNotIn s num fun st => st = .faultHeld])
    (releaseTicket num (outcome.getD .clearedEmpty))

/-- LOG READ (R90). -/
def execLogRead (port : Port) (tag : Byte) (index : Nat) (s : State) : Answer :=
  .next <| s.serve port tag (.logRead index) (fun s => [whileStarting s, badField (63 < index)])
    (fun s => (s, .log s.plant.log.length s.plant.log[index]?))

/-! ## The track unit -/

/-- CAR SERVICE OUT (R161). -/
def carOut (c : Car) (p : Plant) : Plant := p.modCar c fun r => { r with inService := false }

/-- CAR SERVICE IN for a car in FAULT: FAULT is cleared with its reason, and the car stands where it is known to stand
(R161). -/
def carRecover (g : Ground) (c : Car) (p : Plant) : Plant :=
  let r := p.car c
  let p := p.modCar c fun r =>
    { r with inService := true, fault := none, span := r.position.map fun x => (x, x) }
  let p :=
    if r.position.isSome && r.loaded then runToTower g c (setHot g c p) else setCarState g c .parked p
  if (p.car c).span ≠ r.span then start (.recheckTarget (otherCar c)) p else p

/-- CAR SERVICE IN (R161): a car made bindable is reported (R148). -/
def carIn (g : Ground) (c : Car) (p : Plant) : Plant :=
  if (p.car c).state = .fault then carRecover g c p
  else
    let q := p.modCar c fun r => { r with inService := true }
    if bindable q c && !bindable p c then start .evaluate q else q

/-- The conditions of CAR SERVICE (R161, check 3). -/
def carServiceChecks (c : Car) (v : Service) (s : State) : List Check :=
  let r := s.plant.car c
  match v with
  | .outOfService => [⟨r.bound.isSome, .state, .bound⟩]
  | .inService =>
    if r.state = .fault then
      [ ⟨!(s.ground.mirror (carMachine c)).online, .state, .link⟩,
        ⟨s.plant.grant = some c, .state, .grant⟩,
        ⟨r.position.any fun x => !ordered s.ground s.plant c x, .state, .order⟩ ]
    else []

/-- CAR SERVICE (R161). -/
def execCarService (port : Port) (tag : Byte) (c : Option Car) (v : Option Service) (s : State) : Answer :=
  .next <| s.serve port tag (.carService c v)
    (fun s =>
      [whileStarting s, unlessConfigured s, badField (c.isNone || v.isNone)] ++
        carServiceChecks (c.getD .a) (v.getD .inService) s)
    (fun s =>
      let c := c.getD .a
      let s := s.work fun g p => if v.getD .inService = .inService then carIn g c p else carOut c p
      (s, .car (s.plant.car c)))

/-! ## The run state -/

/-- PAUSE (R168). -/
def execPause (port : Port) (tag : Byte) (s : State) : Answer :=
  .next <| s.serve port tag .pause (fun s => [whileStarting s])
    (fun s =>
      let s := if s.ground.running then s.halt .paused .pause else s
      (s, .runState s.ground.runState s.ground.estopLine))

/-- RESUME (R168): the panel alone leaves STOPPED, and with the line asserted it resumes nothing. -/
def execResume (port : Port) (tag : Byte) (s : State) : Answer :=
  .next <| s.serve port tag .resume
    (fun s =>
      [ whileStarting s,
        ⟨port = .sup && s.ground.runState = .stopped, .state, .runState⟩,
        ⟨port = .pnl && s.ground.estopLine && !s.ground.running, .state, .line⟩ ])
    (fun s =>
      let s := if s.ground.running then s else s.goOn
      (s, .runState s.ground.runState s.ground.estopLine))

end Sys2Proof.Machine
end

