-- ==== Sys2Proof/Machine/SystemRequests.lean ====
section
/-! DEFINITION. The requests of the message interface (chapter 10) and of the parameter store unit (chapter 11), and the ends
of the store's operations. -/

namespace Sys2Proof.Machine

/-! ## STATUS -/

/-- Section GENERAL (R177). -/
def generalReply (s : State) : GeneralReply where
  clock := s.ground.clock
  ovenCount := s.ground.params.ovenCount
  runState := s.ground.runState
  estopLine := s.ground.estopLine
  keyLine := s.ground.keyLine
  schedRunning := s.ground.schedRunning
  maint := s.ground.maint
  protection := s.ground.protection
  store := s.ground.store
  storeBusy := s.ground.storeOp.isSome
  supMask := s.plant.sup.mask
  pnlMask := s.plant.pnl.mask
  supQueued := s.plant.sup.queue.length
  pnlQueued := s.plant.pnl.queue.length

/-- Section SCHEDULE (R61). -/
def scheduleReply (g : Ground) (p : Plant) : ScheduleReply where
  running := g.schedRunning
  cursor := p.cursor
  cursorOven := cursorOven g p
  lastPushStart := p.lastPushStart
  nextIssue := p.lastPushStart.map fun _ => nextIssue g p
  latch := p.catchLatch
  catchup := p.catchup

/-- One ticket of section TICKETS (R76). -/
def ticketReply (t : Ticket) : TicketReply where
  number := t.number
  oven := t.oven
  kind := t.kind
  state := t.state
  car := t.car
  isolated := t.isolated
  suspended := t.suspended
  outstanding := t.waits.outstanding
  entry := t.entry
  timer := t.timer
  pacingWait := t.pacingWait
  extractSent := t.extractSent

/-- Section OFFTAKE (R141): an oven node LOST with miss count 0 has not been heard since cold start (R125). -/
def offtakeReply (g : Ground) (p : Plant) : OfftakeReply where
  main := g.mainNode
  mainPosition := p.mainPosition
  mainSetPoint := p.mainSetPoint
  setPointNow := mainSetPointNow g p
  towerA := g.towerNodeA
  towerB := g.towerNodeB
  sprayA := p.sprayA
  sprayB := p.sprayB
  ovensOnline := (g.ovenNodes.filter fun r => r.online).length
  ovensLost := (g.ovenNodes.filter fun r => !r.online && r.miss ≠ 0).length
  ovensUnheard := (g.ovenNodes.filter fun r => !r.online && r.miss = 0).length
  lastPolled := g.poll.map fun x => x.address

/-- Section TRACK (R162). -/
def trackReply (p : Plant) : TrackReply where
  carA := p.carA
  carB := p.carB
  grant := p.grant
  waiting := p.waiting
  trackHold := p.trackHold

/-- Section MACHINES (R170). -/
def machinesReply (g : Ground) (p : Plant) : MachinesReply where
  pm := g.pm
  gc := g.gc
  cc := g.cc
  qa := g.qa
  qb := g.qb
  claimPm := p.claimPm
  claimGc := p.claimGc
  runState := g.runState
  estopLine := g.estopLine

/-- The contents of a section; sections of records not yet created are absent (R177). -/
def statusBody (s : State) : StatusSection → StatusBody
  | .general => .general (generalReply s)
  | .schedule => if s.ground.configured then .schedule (scheduleReply s.ground s.plant) else .absent
  | .tickets => .tickets (s.plant.tickets.map ticketReply) s.plant.nextTicket
  | .doors => if s.ground.configured then .doors s.plant.psSide s.plant.csSide else .absent
  | .charge => .charge s.plant.charge s.plant.ask
  | .offtake => .offtake (offtakeReply s.ground s.plant)
  | .track => if s.ground.configured then .track (trackReply s.plant) else .absent
  | .machines => .machines (machinesReply s.ground s.plant)

/-- STATUS (R177): the overrun flag of the port is reported as it stood, and cleared. -/
def execStatus (port : Port) (tag : Byte) (sec : Option StatusSection) (s : State) : Answer :=
  .next <| s.serve port tag (.status sec) (fun s => [whileStarting s, badField sec.isNone])
    (fun s =>
      (s.modPort port fun x => { x with overrun := false },
        .status (statusBody s (sec.getD .general)) (s.plant.port port).overrun))

/-! ## Masks and warm restart -/

/-- MASK SET (R176). -/
def execMaskSet (port : Port) (tag : Byte) (level : Nat) (s : State) : Answer :=
  .next <| s.serve port tag (.maskSet level) (fun s => [whileStarting s, badField (15 < level)])
    (fun s => (s.modPort port fun x => { x with mask := level }, .mask level))

/-- A port at warm restart (R179, step 1). -/
def PortState.restarted (x : PortState) (mask : Nat) : PortState :=
  { x with queue := [], overrun := false, seq := 0, mask := mask }

/-- Warm restart at the ports (R179, step 1). -/
def State.restartPorts (s : State) : State :=
  (s.modPort .sup fun x => x.restarted s.ground.params.supMask).modPort .pnl fun x =>
    x.restarted s.ground.params.pnlMask

/-- Warm restart at the machine link unit: PAUSED, or STOPPED if it was STOPPED, and STOP to all five machines (R170). -/
def State.restartMachines (s : State) : State :=
  (if s.ground.running then s.setRunState .paused .restart else s).work fun _ p => stopAll p

/-- Warm restart cancels every ticket, in issue order (R85). -/
def restartTickets (g : Ground) (p : Plant) : Plant :=
  (p.tickets.map fun t => t.number).foldl (fun p num => retireEarly g num .restart .restart p) p

/-- Warm restart at the push sequencer, the door unit, the charge unit and the track unit, in that order (R179). -/
def restartWork (g : Ground) (p : Plant) : Plant :=
  let p := restartTickets g p
  let p := restartJob g .cs (restartJob g .ps p)
  restartCar .b (restartCar .a (restartAsk g p))

/-- An accepted RESTART (R179). -/
def restart (s : State) : State × OkData :=
  let cancelled := s.plant.tickets.length
  let s := (s.restartPorts.restartMachines.stopSchedule.work restartWork)
  (s.raise (.restarted cancelled s.ground.runState), .restarted cancelled s.ground.runState)

/-- A ticket stands in UNDOORING through CLOSING (R178). -/
def workingPush (p : Plant) : Bool := p.tickets.any fun t => t.state.claims && t.state ≠ .aligning

/-- RESTART (R178, R179). -/
def execRestart (port : Port) (tag : Byte) (s : State) : Answer :=
  .next <| s.serve port tag .restart
    (fun s =>
      [ whileStarting s,
        ⟨workingPush s.plant, .state, .workingPush⟩,
        ⟨s.plant.tickets.any fun t => t.state = .faultHeld, .state, .faultHeld⟩,
        ⟨s.plant.charge.isSome, .state, .chargeRecord⟩ ])
    restart

/-! ## Parameters -/

/-- PARAM GET's reply (R181). -/
def paramReply (q : Params) (id : ParamId) : ParamReply where
  group := paramGroup id
  access := paramClass id
  range := paramRange q id
  default := paramDefault q id
  value := paramValue q id

/-- PARAM GET (R181). -/
def execParamGet (port : Port) (tag : Byte) (id : Option ParamId) (s : State) : Answer :=
  .next <| s.serve port tag (.paramGet id) (fun s => [whileStarting s, badField id.isNone])
    (fun s => (s, .param (paramReply s.ground.params (id.getD .ovenCount))))

/-- An accepted PARAM SET: OVEN_COUNT configures the 2480; any other parameter takes its value and is handed on (R182,
R183). -/
def applySetting (id : ParamId) (v : ParamValue) (s : State) : State × OkData :=
  match id, v with
  | .ovenCount, .number n => (s.configure n.toNat (n.toNat / 2), .configured n.toNat (n.toNat / 2))
  | id, v => (s.takeParam id v, .value (paramValue (setParam s.ground.params id v) id))

/-- PARAM SET (R182). -/
def execParamSet (port : Port) (tag : Byte) (id : Option ParamId) (v : ParamValue) (s : State) : Answer :=
  .next <| s.serve port tag (.paramSet id v)
    (fun s =>
      [whileStarting s, badField (id.isNone || !valueFits (id.getD .ovenCount) v)] ++
        settingChecks s (id.getD .ovenCount) v)
    (applySetting (id.getD .ovenCount) v)

/-- PROTECT SET (R184). -/
def execProtectSet (port : Port) (tag : Byte) (level : Nat) (s : State) : Answer :=
  .next <| s.serve port tag (.protectSet level)
    (fun s =>
      [ whileStarting s, badField (3 < level),
        ⟨level < s.ground.protection && !s.ground.keyLine, .locked, .keyLine⟩ ])
    (fun s => ({ s with ground := { s.ground with protection := level } }, .protection level))

/-! ## The store -/

/-- The image of the working set and the protection level (11.4). -/
def Ground.snapshot (g : Ground) : Image := { params := g.params, level := g.protection }

/-- STORE SAVE (R185). -/
def execStoreSave (port : Port) (tag : Byte) (s : State) : Answer :=
  .next <| s.serve port tag .storeSave
    (fun s => [whileStarting s, storeBusy s, ⟨s.ground.store = .absent, .state, .storeAbsent⟩])
    (fun s => ({ s with ground := { s.ground with storeOp := some (.save s.ground.snapshot) } }, .plain))

/-- The parameters of an image that differ from the working values, in the order of the table (R186). -/
def changedParams (im q : Params) : List ParamId := allParams.filter fun id => paramValue im id ≠ paramValue q id

/-- One parameter takes its value from an image (R186). -/
def State.loadParam (im : Params) (s : State) (id : ParamId) : State :=
  match paramValue im id with
  | some v => s.takeParam id v
  | none => s

/-- An accepted STORE LOAD (R186). -/
def loadStore (s : State) : State × OkData :=
  match s.ground.verified with
  | none => (s, .plain)
  | some im =>
    let ids := changedParams im.params s.ground.params
    (ids.foldl (State.loadParam im.params) s, .loaded ids.length)

/-- STORE LOAD (R186). -/
def execStoreLoad (port : Port) (tag : Byte) (s : State) : Answer :=
  .next <| s.serve port tag .storeLoad
    (fun s =>
      [ whileStarting s, storeBusy s,
        ⟨s.ground.protection ≠ 0 && !s.ground.keyLine, .locked, .keyLine⟩,
        unlessQuiet s,
        ⟨s.ground.store ≠ .verified || s.ground.verified.isNone, .state, .notVerified⟩,
        ⟨s.ground.verified.any fun im => im.params.ovenCount ≠ s.ground.params.ovenCount, .state, .ovenCount⟩,
        ⟨s.ground.verified.any fun im => tMinTooHigh s.ground s.plant im.params.tMin, .state, .netCoking⟩ ])
    loadStore

/-- STORE ERASE (R187). -/
def execStoreErase (port : Port) (tag : Byte) (s : State) : Answer :=
  .next <| s.serve port tag .storeErase
    (fun s =>
      [ whileStarting s, panelOnly port, keyReleased s, storeBusy s, unlessQuiet s,
        ⟨s.ground.store = .absent, .state, .storeAbsent⟩ ])
    (fun s => ({ s with ground := { s.ground with storeOp := some .erase } }, .plain))

/-- A store operation ends with the store in a state and the verified image that goes with it (R185). -/
def State.storeEnds (s : State) (store : StoreState) (im : Option Image) : State :=
  { s with ground := { s.ground with store := store, verified := im, storeOp := none } }

/-- A store operation fails (R185, R187). -/
def State.storeFails (s : State) (failure : StoreFailure) : State :=
  (s.storeEnds .corrupt none).raise (.storeFail failure)

/-- The step of a save that failed, as STORE_FAIL carries it. -/
def stepFailure : StoreStep → StoreFailure
  | .write => .write
  | .compare => .compare

/-- A save ends (R185). -/
def execStoreSaveEnd (failed : Option StoreStep) (s : State) : Answer :=
  .next <| s.event fun s =>
    match s.ground.storeOp, failed with
    | some (.save im), none => (s.storeEnds .verified (some im)).raise .storeSaved
    | some (.save _), some step => s.storeFails (stepFailure step)
    | _, _ => s

/-- 2 s pass from the acceptance of a save (R185; log 11). -/
def execStoreSaveTimeout (s : State) : Answer :=
  .next <| s.event fun s =>
    match s.ground.storeOp with
    | some (.save _) => s.storeFails .bound
    | _ => s

/-- An erase ends (R187). -/
def execStoreEraseEnd (ok : Bool) (s : State) : Answer :=
  .next <| s.event fun s =>
    match s.ground.storeOp with
    | some .erase => if ok then s.storeEnds .blank none else s.storeFails .erase
    | _ => s

/-- 2 s pass from the acceptance of an erase (R187; log 11). -/
def execStoreEraseTimeout (s : State) : Answer :=
  .next <| s.event fun s =>
    match s.ground.storeOp with
    | some .erase => s.storeFails .bound
    | _ => s

end Sys2Proof.Machine
end

