-- ==== Sys2Proof/Machine/StartUp.lean ====
section
/-! DEFINITION. Cold start (11.5) and the battery clock (1.1). -/

namespace Sys2Proof.Machine

/-- A save is in progress (R185). -/
def saving (g : Ground) : Bool :=
  match g.storeOp with
  | some (.save _) => true
  | _ => false

/-- Cold start from a state: every item at its cold-start value, but for the lines' levels, the store's contents, and the
commands that wait (R188; log 8, 12). A reset line that is held when power is applied stays held, and the bytes of a frame in
part are lost on every link (log 44). -/
def State.coldStarted (s : State) (byResetLine : Bool) : State :=
  { State.reset with
    ground :=
      { State.reset.ground with
        estopLine := s.ground.estopLine
        keyLine := s.ground.keyLine
        resetHeld := byResetLine || s.ground.resetHeld
        partWritten := s.ground.partWritten || saving s.ground }
    pending := s.pending }

/-- Power is applied, or the reset line asserted (R188). -/
def execColdStart (byResetLine : Bool) (s : State) : Answer := .next (s.coldStarted byResetLine)

/-- The reset line is released: the sequence runs (R188). -/
def execResetLineRelease (s : State) : Answer :=
  .next { s.opened with ground := { s.ground with resetHeld := false } }

/-- The outcome of the store read: the store state, the image taken, and the failure reported (R188; log 12, 29,
34). -/
def judgeStore (partWritten : Bool) : StoreFound → StoreState × Option Image × Option StoreFailure
  | .noSignature => if partWritten then (.corrupt, none, some .partlyWritten) else (.blank, none, none)
  | .badLength => (.corrupt, none, some .length)
  | .badCheck => (.corrupt, none, some .check)
  | .image im =>
    if partWritten then (.corrupt, none, some .partlyWritten)
    else if paramsOk im.params && im.level ≤ 3 then (.verified, some im, none)
    else (.corrupt, none, some .values)

/-- The working set and the store as the store read leaves them (R188). -/
def Ground.storeRead (g : Ground) (store : StoreState) (im : Option Image) : Ground :=
  { g with
    starting := false
    store := store
    verified := im
    params := (im.map fun x => x.params).getD defaultParams
    protection := (im.map fun x => x.level).getD 0
    partWritten := false }

/-- STARTING is left: the masks are set, the poll round begins, and the emergency stop line is read (R189; log
27). -/
def State.openLinks (s : State) : State :=
  let q := s.ground.params
  let s := (s.modPort .sup fun x => { x with mask := q.supMask }).modPort .pnl fun x => { x with mask := q.pnlMask }
  let s : State := { s with ground := { s.ground with poll := some (firstPoll s.plant) } }
  if s.ground.estopLine then s.halt .stopped .estop else s

/-- The store read has ended: STARTING is left, STORE_FAIL raised for a CORRUPT store, and the records created when the oven
count is set (R189). -/
def State.leaveStarting (s : State) (store : StoreState) (im : Option Image) (failure : Option StoreFailure) : State :=
  let s : State := { s with ground := s.ground.storeRead store im }.openLinks
  let s := match failure with
    | some f => s.raise (.storeFail f)
    | none => s
  match s.ground.params.ovenCount, s.ground.params.carSplit with
  | some n, some split => s.configure n split
  | _, _ => s

/-- The store read is in progress: STARTING, the reset line released (R188). -/
def reading (g : Ground) : Bool := g.starting && !g.resetHeld

/-- The store read completes (R188, R189). -/
def execStoreReadEnd (found : StoreFound) (s : State) : Answer :=
  .next <| s.event fun s =>
    if reading s.ground then
      let r := judgeStore s.ground.partWritten found
      s.leaveStarting r.1 r.2.1 r.2.2
    else s

/-- 500 ms pass without an answer from the memory (R188; log 11). -/
def execStoreReadTimeout (s : State) : Answer :=
  .next <| s.event fun s => if reading s.ground then s.leaveStarting .absent none none else s

/-- The battery clock advances by one second, and holds its largest value (R1); it stays 0 while the reset line is held
(log 10). -/
def execBatteryClockTick (s : State) : Answer :=
  .next <|
    if s.ground.resetHeld then s.opened
    else { s.opened with ground := { s.ground with clock := min maxClock (s.ground.clock + 1) } }

end Sys2Proof.Machine
end

