-- ==== Sys2Proof/Machine/Timers.lean ====
section
/-! DEFINITION. The expiries of timers, and the offtake line's commands: each acts only when its timer is set and due, or its
exchange in progress (log 2). -/

namespace Sys2Proof.Machine

/-- A valid reply, or any other reply frame with a correct check, arrives on the offtake line (R124). -/
def execOtlReply (address : Nat) (reply : NodeReply) (s : State) : Answer :=
  .next (s.event fun s => s.otlReplied address reply)

/-- The reply wait expires (R124, R126; log 11). -/
def execReplyWaitExpiry (s : State) : Answer := .next (s.event State.replyMissed)

/-- The staleness expiry of a wall (R22): the oven on either side accrues, the wall has no expiry any more, WALL_STALE is
raised, and rate, COLD_DATA and readiness expiry are recomputed. -/
def State.wallStaled (s : State) (w : Nat) : State :=
  let old := s.ground.wall w
  match old.expiry with
  | none => s
  | some t =>
    if s.ground.clock < t then s
    else
      let s := s.work fun g p => accrue g w (accrue g (w - 1) p)
      let s : State :=
        { s with ground := { s.ground with walls := updateNumbered s.ground.walls w fun r => { r with expiry := none } } }
      (s.raise (.wallStale w old.temp old.report)).work fun g p => recomputeOven g w (recomputeOven g (w - 1) p)

/-- A wall's staleness expiry. -/
def execWallStalenessExpiry (w : Nat) (s : State) : Answer := .next (s.event fun s => s.wallStaled w)

/-- An oven's readiness expiry (R32). -/
def execReadinessExpiry (n : Nat) (s : State) : Answer :=
  .next (s.event fun s => s.work fun g p => readinessReached g n p)

/-- An oven's overdue timer (R34). -/
def execOverdueTimerExpiry (n : Nat) (s : State) : Answer :=
  .next (s.event fun s => s.work fun g p => overdueReached g n p)

/-- The pacing timer (R42). -/
def execPacingTimerExpiry (s : State) : Answer := .next (s.event fun s => s.work pacingReached)

/-- A ticket's step timer (R67). -/
def execStepTimerExpiry (num : Nat) (s : State) : Answer :=
  .next (s.event fun s => s.work fun g p => stepReached g num p)

/-- A ticket's pacing wait (R72). -/
def execPacingWaitReached (num : Nat) (s : State) : Answer :=
  .next (s.event fun s => s.work fun g p => pacingWaitReached g num p)

/-- A service job's timer (R106). -/
def execServiceTimerExpiry (side : Side) (s : State) : Answer :=
  .next (s.event fun s => s.work fun g p => jobTimeout g side p)

/-- The charge timer (R118). -/
def execChargeTimerExpiry (s : State) : Answer := .next (s.event fun s => s.work chargeTimeout)

/-- An oven's empty dwell timer (R120). -/
def execEmptyDwellExpiry (n : Nat) (s : State) : Answer :=
  .next (s.event fun s => s.work fun g p => dwellReached g n p)

/-- A car's quench timer (R155). -/
def execQuenchTimerExpiry (c : Car) (s : State) : Answer :=
  .next (s.event fun s => s.work fun g p => quenchReached g c p)

/-- A car's drain timer (R155). -/
def execDrainTimerExpiry (c : Car) (s : State) : Answer :=
  .next (s.event fun s => s.work fun g p => drainReached g c p)

/-- A car's hot dwell timer (R159). -/
def execHotDwellExpiry (c : Car) (s : State) : Answer :=
  .next (s.event fun s => s.work fun g p => hotReached g c p)

end Sys2Proof.Machine
end

