-- ==== Sys2Proof/Machine/Frames.lean ====
section
/-! DEFINITION. The receivers (R171): the check, the search for frames in the bytes of a link, and the commands that report
discarded frames. -/

namespace Sys2Proof.Machine

/-- The sync byte A7 hex (10.1). -/
def syncByte : Byte := 0xA7#8

/-- A frame as the receiver takes it. -/
structure Frame where
  kind : Byte
  tag : Byte
  payload : List Byte
  deriving DecidableEq, Repr, Inhabited

/-- One bit into the check register: the generator is x^16 + x^15 + x^2 + 1 (R171). -/
def crcBit (reg : BitVec 16) (bit : Bool) : BitVec 16 :=
  if reg.msb != bit then reg <<< 1 ^^^ 0x8005#16 else reg <<< 1

/-- One byte into the check register, most significant bit first (R171). -/
def crcByte (reg : BitVec 16) (b : Byte) : BitVec 16 :=
  ((List.range 8).map fun i => b.getMsbD i).foldl crcBit reg

/-- The check over bytes: the register is preset to all ones, and the result is not inverted (R171). -/
def crc16 (bytes : List Byte) : BitVec 16 := bytes.foldl crcByte 0xFFFF#16

/-- The bytes from the first sync byte on (R171). -/
def fromSync (bytes : List Byte) : List Byte := bytes.dropWhile (· ≠ syncByte)

/-- What stands after a sync byte: a whole frame with the bytes that follow it, a frame to discard, or a frame not yet
complete (R171). -/
inductive Scanned where
  | frame (f : Frame) (rest : List Byte)
  | discard
  | incomplete
  deriving DecidableEq, Repr, Inhabited

/-- The bytes after a sync byte are judged (R171). -/
def judgeFrame : List Byte → Scanned
  | kind :: tag :: len :: body =>
    if 200 < len.toNat then .discard
    else if body.length < len.toNat + 2 then .incomplete
    else
      let payload := body.take len.toNat
      let rest := body.drop len.toNat
      if crc16 (kind :: tag :: len :: payload) = rest.getD 0 0 ++ rest.getD 1 0 then
        .frame { kind := kind, tag := tag, payload := payload } (rest.drop 2)
      else .discard
  | _ => .incomplete

/-- The whole frames in bytes, in order, and what is left of a frame not yet complete (R171). The first argument bounds the
search; one more than the number of bytes is enough. -/
def scan : Nat → List Byte → List Frame × List Byte
  | 0, bytes => ([], bytes)
  | k + 1, bytes =>
    match fromSync bytes with
    | [] => ([], [])
    | s :: rest =>
      match judgeFrame rest with
      | .incomplete => ([], s :: rest)
      | .discard => scan k rest
      | .frame f after =>
        let r := scan k after
        (f :: r.1, r.2)

/-- The whole frames in bytes that have stopped: a frame not complete is discarded, and the search begins again at the byte
after its sync (R171). -/
def scanStopped : Nat → List Byte → List Frame
  | 0, _ => []
  | k + 1, bytes =>
    let r := scan (bytes.length + 1) bytes
    match r.2 with
    | [] => r.1
    | _ :: rest => r.1 ++ scanStopped k rest

/-- A DONE's effect, by its operation. -/
def doneEffect (m : Machine) (n value : Nat) : Op → State → State
  | .extract => extractEffect m n
  | .replace => replaceEffect m n
  | .press => pressEffect m n value
  | .guideLock => fun s => s.work fun g p => machineDone g m .guideLock n p
  | .guideRelease => fun s => s.work fun g p => machineDone g m .guideRelease n p
  | .receive => receiveEffect m n
  | .ramAdvance => fun s => s.work fun g p => ramAdvanced g n value p
  | .ramReturn => fun s => s.work fun g p => machineDone g m .ramReturn n p
  | .level => fun s => s.work fun g p => levelDone g n p
  | .dump => dumpEffect m

/-- A record of a machine, found in a frame (R163); only CC may send charge records. -/
def State.machineFrame (s : State) (m : Machine) (r : MachineRecord) : State :=
  match r with
  | .pos position moving loaded => s.record m fun s => s.posRecord m position moving loaded
  | .done op n value => s.doneRecord m op (doneEffect m n value op)
  | .fault code => s.record m fun s => s.faultRecord m code
  | .chargeAsk n => if m = .cc then s.record m fun s => s.work fun g p => chargeAsked g n p else s
  | .chargeEnd n mass => if m = .cc then s.record m fun s => s.work fun g p => chargeEndReport g n mass p else s

/-- A frame with a correct check, by its link: as the arrival of what it spells. -/
def State.frameArrived (link : Link) (s : State) (f : Frame) : State :=
  match link with
  | .port port => s.modPort port fun x => x.arrival f.tag (Config.frameBody f.kind f.payload)
  | .machine m =>
    match Config.machineRecord m f.kind f.payload with
    | some r => (s.machineFrame m r).settled
    | none => s
  | .offtake =>
    match Config.nodeReply f.kind f.payload with
    | some r => (s.otlReplied f.tag.toNat r).settled
    | none => s

/-- The bytes a link has received, from the frame not yet complete on. -/
def State.bytesOn (s : State) (link : Link) (bytes : List Byte) : List Byte := s.ground.rxOf link ++ bytes

/-- The receiver judges bytes: whole frames are taken as they are found, and what is left of a frame not yet complete stays
(R171). -/
def State.judgeBytes (s : State) (link : Link) (bytes : List Byte) : State :=
  let all := s.bytesOn link bytes
  let r := scan (all.length + 1) all
  (r.1.foldl (State.frameArrived link) s).setRx link r.2

/-- A frame is discarded (R171, R163, R124): by the receiver, which searches on from the byte after its sync; or, its check
being right, for its content, which changes nothing. -/
def execDiscardedFrame (link : Link) (cause : DiscardCause) (s : State) : Answer :=
  .next <|
    match cause with
    | .receiver bytes => s.opened.judgeBytes link bytes
    | .content => s.opened.received link

/-- The bytes of a frame stop for more than 50 ms (R171): it is discarded, and the search begins again at the byte after its
sync. -/
def execFrameGapTimeout (link : Link) (bytes : List Byte) (s : State) : Answer :=
  .next <|
    let all := s.opened.bytesOn link bytes
    ((scanStopped (all.length + 1) all).foldl (State.frameArrived link) s.opened).received link

end Sys2Proof.Machine
end

