-- ==== Sys2Proof/Machine/Dispatch.lean ====
section
/-! DEFINITION. The meaning of every command, one arm for each. -/

namespace Sys2Proof.Machine

/-- The effect of a command on everything but the queue. -/
def exec (i : Instr) (s : State) : Host.Outcome State Fault Refusal :=
  match i with
  | .coldStart byResetLine => Sys2Proof.Machine.execColdStart byResetLine s
  | .resetLineRelease => Sys2Proof.Machine.execResetLineRelease s
  | .storeReadEnd found => Sys2Proof.Machine.execStoreReadEnd found s
  | .storeReadTimeout => Sys2Proof.Machine.execStoreReadTimeout s
  | .batteryClockTick => Sys2Proof.Machine.execBatteryClockTick s
  | .estopAsserted => Sys2Proof.Machine.execEstopAsserted s
  | .estopReleased => Sys2Proof.Machine.execEstopReleased s
  | .keyLineChange asserted => Sys2Proof.Machine.execKeyLineChange asserted s
  | .requestFrameArrival port tag body => Sys2Proof.Machine.execRequestFrameArrival port tag body s
  | .frameGapTimeout link bytes => Sys2Proof.Machine.execFrameGapTimeout link bytes s
  | .portFrameSent port => Sys2Proof.Machine.execPortFrameSent port s
  | .status port tag sec => Sys2Proof.Machine.execStatus port tag sec s
  | .ovenQuery port tag oven => Sys2Proof.Machine.execOvenQuery port tag oven s
  | .ovenRestore port tag oven fields => Sys2Proof.Machine.execOvenRestore port tag oven fields s
  | .ovenService port tag oven state => Sys2Proof.Machine.execOvenService port tag oven state s
  | .ovenHold port tag oven value => Sys2Proof.Machine.execOvenHold port tag oven value s
  | .maintRange port tag range => Sys2Proof.Machine.execMaintRange port tag range s
  | .ovenTrim port tag oven trim => Sys2Proof.Machine.execOvenTrim port tag oven trim s
  | .wallReport port tag first count readings => Sys2Proof.Machine.execWallReport port tag first count readings s
  | .schedStart port tag => Sys2Proof.Machine.execSchedStart port tag s
  | .schedStop port tag => Sys2Proof.Machine.execSchedStop port tag s
  | .cursorSet port tag index => Sys2Proof.Machine.execCursorSet port tag index s
  | .catchupClear port tag => Sys2Proof.Machine.execCatchupClear port tag s
  | .pushNow port tag oven force => Sys2Proof.Machine.execPushNow port tag oven force s
  | .ticketCancel port tag ticket => Sys2Proof.Machine.execTicketCancel port tag ticket s
  | .release port tag ticket outcome => Sys2Proof.Machine.execRelease port tag ticket outcome s
  | .logRead port tag index => Sys2Proof.Machine.execLogRead port tag index s
  | .leakReport port tag oven side level => Sys2Proof.Machine.execLeakReport port tag oven side level s
  | .doorReset port tag oven side => Sys2Proof.Machine.execDoorReset port tag oven side s
  | .valve port tag oven form => Sys2Proof.Machine.execValve port tag oven form s
  | .carService port tag car state => Sys2Proof.Machine.execCarService port tag car state s
  | .pause port tag => Sys2Proof.Machine.execPause port tag s
  | .resume port tag => Sys2Proof.Machine.execResume port tag s
  | .maskSet port tag level => Sys2Proof.Machine.execMaskSet port tag level s
  | .restart port tag => Sys2Proof.Machine.execRestart port tag s
  | .paramGet port tag id => Sys2Proof.Machine.execParamGet port tag id s
  | .paramSet port tag id value => Sys2Proof.Machine.execParamSet port tag id value s
  | .storeSave port tag => Sys2Proof.Machine.execStoreSave port tag s
  | .storeLoad port tag => Sys2Proof.Machine.execStoreLoad port tag s
  | .storeErase port tag => Sys2Proof.Machine.execStoreErase port tag s
  | .protectSet port tag level => Sys2Proof.Machine.execProtectSet port tag level s
  | .storeSaveEnd failed => Sys2Proof.Machine.execStoreSaveEnd failed s
  | .storeSaveTimeout => Sys2Proof.Machine.execStoreSaveTimeout s
  | .storeEraseEnd ok => Sys2Proof.Machine.execStoreEraseEnd ok s
  | .storeEraseTimeout => Sys2Proof.Machine.execStoreEraseTimeout s
  | .machinePos machine position moving loaded => Sys2Proof.Machine.execMachinePos machine position moving loaded s
  | .machineFault machine code => Sys2Proof.Machine.execMachineFault machine code s
  | .extractDone machine oven => Sys2Proof.Machine.execExtractDone machine oven s
  | .replaceDone machine oven => Sys2Proof.Machine.execReplaceDone machine oven s
  | .pressDone machine oven force => Sys2Proof.Machine.execPressDone machine oven force s
  | .guideLockDone machine oven => Sys2Proof.Machine.execGuideLockDone machine oven s
  | .guideReleaseDone machine oven => Sys2Proof.Machine.execGuideReleaseDone machine oven s
  | .ramAdvanceDone machine oven load => Sys2Proof.Machine.execRamAdvanceDone machine oven load s
  | .ramReturnDone machine oven => Sys2Proof.Machine.execRamReturnDone machine oven s
  | .levelDone machine oven => Sys2Proof.Machine.execLevelDone machine oven s
  | .receiveDone machine oven => Sys2Proof.Machine.execReceiveDone machine oven s
  | .dumpDone machine oven => Sys2Proof.Machine.execDumpDone machine oven s
  | .chargeAsk oven => Sys2Proof.Machine.execChargeAsk oven s
  | .chargeEnd oven mass => Sys2Proof.Machine.execChargeEnd oven mass s
  | .otlReply address reply => Sys2Proof.Machine.execOtlReply address reply s
  | .replyWaitExpiry => Sys2Proof.Machine.execReplyWaitExpiry s
  | .wallStalenessExpiry wall => Sys2Proof.Machine.execWallStalenessExpiry wall s
  | .readinessExpiry oven => Sys2Proof.Machine.execReadinessExpiry oven s
  | .overdueTimerExpiry oven => Sys2Proof.Machine.execOverdueTimerExpiry oven s
  | .pacingTimerExpiry => Sys2Proof.Machine.execPacingTimerExpiry s
  | .stepTimerExpiry ticket => Sys2Proof.Machine.execStepTimerExpiry ticket s
  | .pacingWaitReached ticket => Sys2Proof.Machine.execPacingWaitReached ticket s
  | .serviceTimerExpiry side => Sys2Proof.Machine.execServiceTimerExpiry side s
  | .chargeTimerExpiry => Sys2Proof.Machine.execChargeTimerExpiry s
  | .emptyDwellExpiry oven => Sys2Proof.Machine.execEmptyDwellExpiry oven s
  | .silenceTimerExpiry machine => Sys2Proof.Machine.execSilenceTimerExpiry machine s
  | .quenchTimerExpiry car => Sys2Proof.Machine.execQuenchTimerExpiry car s
  | .drainTimerExpiry car => Sys2Proof.Machine.execDrainTimerExpiry car s
  | .hotDwellExpiry car => Sys2Proof.Machine.execHotDwellExpiry car s
  | .discardedFrame link cause => Sys2Proof.Machine.execDiscardedFrame link cause s

end Sys2Proof.Machine
end

