-- ==== Sys2Proof/Safety.lean ====
section
/-! DEFINITION. What counts as a safe run of the 2480, as conditions that every step keeps, and the conditions on a state that
the statements about its commands are made of. -/

namespace Sys2Proof.Safety

open Sys2Proof.Machine

/-! ## Conditions that every step keeps -/

/-- Every step keeps a condition. -/
def stepKeeps (inv : State → Prop) : Prop := ∀ s t, inv s → step s = .next t → inv t

/-- No follow-up event waits between commands (log 3). -/
def calm (s : State) : Prop := s.plant.agenda = []

/-- A port's hold has 4 places (R172) and its notice queue 32 (R175). -/
def portBounded (x : PortState) : Prop := x.hold.length ≤ 4 ∧ x.queue.length ≤ 32

/-- Both ports are within their bounds. -/
def portsBounded (s : State) : Prop := portBounded s.plant.sup ∧ portBounded s.plant.pnl

/-- At most two tickets (R64), eight catch-up entries (R47), 16 entries of a service list (R99), 64 log records (R89). -/
def listsBounded (s : State) : Prop :=
  s.plant.tickets.length ≤ 2 ∧ s.plant.catchup.length ≤ 8 ∧ s.plant.psSide.list.length ≤ 16 ∧
    s.plant.csSide.list.length ≤ 16 ∧ s.plant.log.length ≤ 64

/-- The verified image is present exactly while the store state is VERIFIED (R185). -/
def imagePresent (s : State) : Prop := s.ground.verified.isSome = decide (s.ground.store = .verified)

/-- Every value of the working set, of the verified image and of a save in progress lies in its range and breaks no relation
of R182, and the protection levels are 0 to 3 (R180, R182, R184, R185). -/
def paramsKept (s : State) : Prop :=
  paramsOk s.ground.params = true ∧ s.ground.protection ≤ 3 ∧
    (∀ im, s.ground.verified = some im → paramsOk im.params = true ∧ im.level ≤ 3) ∧
    ∀ im, s.ground.storeOp = some (.save im) → paramsOk im.params = true ∧ im.level ≤ 3

/-- What a car's record keeps: a span only for a known position, its bounds in order, a granted target within it, the
position within it unless the car is in FAULT, and no target and no drain timer in FAULT (R144, R150 to R152). -/
structure CarSound (r : CarRecord) : Prop where
  unknown : r.position = none → r.span = none
  bounds : ∀ l h, r.span = some (l, h) → l ≤ h
  granted : ∀ x, r.target = some { position := x, granted := true } → ∃ l h, r.span = some (l, h) ∧ l ≤ x ∧ x ≤ h
  within : r.state ≠ .fault → ∀ x l h, r.position = some x → r.span = some (l, h) → l ≤ x ∧ x ≤ h
  faulted : r.state = .fault → r.target = none ∧ r.drain = none

/-- The two cars' spans lie apart, QA's below QB's (R147, R150). -/
def spansApart (s : State) : Prop :=
  CarSound s.plant.carA ∧ CarSound s.plant.carB ∧
    ∀ l h l' h', s.plant.carA.span = some (l, h) → s.plant.carB.span = some (l', h') → h < l'

/-- A QUENCHING car holds the water grant (R157, R158): so at most one car is QUENCHING. -/
def waterHeld (s : State) : Prop := ∀ c, (s.plant.car c).state = .quenching → s.plant.grant = some c

/-- The ticket has its oven's machines, or may have left its doors open: ALIGNING through CLOSING, or FAULT_HELD (R64). -/
def atWork (st : TicketState) : Bool := st.claims || st = .faultHeld

/-- No two tickets have one number or one oven, and at most one is at work in ALIGNING through CLOSING or held in FAULT_HELD
(R64); with what keeps it so: a ticket's number lies below the ticket counter, its oven holds a ticket, EXTRACT has been sent
by tickets at work or held alone, tickets are there only while configured, and STARTING is left unconfigured (R63, R71, R189). -/
structure PushSound (s : State) : Prop where
  numbers : (s.plant.tickets.map fun t => t.number).Nodup
  ovens : (s.plant.tickets.map fun t => t.oven).Nodup
  one : (s.plant.tickets.filter fun t => atWork t.state).length ≤ 1
  counted : ∀ t ∈ s.plant.tickets, t.number < s.plant.nextTicket
  held : ∀ t ∈ s.plant.tickets, (s.plant.oven t.oven).phase.holdsTicket = true
  extracted : ∀ t ∈ s.plant.tickets, t.extractSent = true → atWork t.state = true
  configured : s.plant.tickets ≠ [] → s.ground.configured = true
  starting : s.ground.starting = true → s.ground.configured = false

/-- A safe state. -/
def safe (s : State) : Prop :=
  portsBounded s ∧ listsBounded s ∧ imagePresent s ∧ paramsKept s ∧ spansApart s ∧ waterHeld s ∧ PushSound s

/-! ## Requests -/

/-- The command by which a request is taken at a port under a tag. -/
def requestCommand (port : Port) (tag : Byte) : Request → Instr
  | .status sec => .status port tag sec
  | .ovenQuery n => .ovenQuery port tag n
  | .ovenRestore n f => .ovenRestore port tag n f
  | .ovenService n v => .ovenService port tag n v
  | .ovenHold n v => .ovenHold port tag n v
  | .maintRange range => .maintRange port tag range
  | .ovenTrim n trim => .ovenTrim port tag n trim
  | .wallReport first count readings => .wallReport port tag first count readings
  | .schedStart => .schedStart port tag
  | .schedStop => .schedStop port tag
  | .cursorSet index => .cursorSet port tag index
  | .catchupClear => .catchupClear port tag
  | .pushNow n force => .pushNow port tag n force
  | .ticketCancel num => .ticketCancel port tag num
  | .release num outcome => .release port tag num outcome
  | .logRead index => .logRead port tag index
  | .leakReport n side level => .leakReport port tag n side level
  | .doorReset n side => .doorReset port tag n side
  | .valve n form => .valve port tag n form
  | .carService c v => .carService port tag c v
  | .pause => .pause port tag
  | .resume => .resume port tag
  | .maskSet level => .maskSet port tag level
  | .restart => .restart port tag
  | .paramGet id => .paramGet port tag id
  | .paramSet id v => .paramSet port tag id v
  | .storeSave => .storeSave port tag
  | .storeLoad => .storeLoad port tag
  | .storeErase => .storeErase port tag
  | .protectSet level => .protectSet port tag level

/-- The requests that the catalogue marks as refused while UNCONFIGURED (R173, 10.3). -/
def needsOvens : Request → Bool
  | .ovenQuery .. | .ovenRestore .. | .ovenService .. | .ovenHold .. | .maintRange .. | .ovenTrim .. | .wallReport ..
  | .schedStart | .schedStop | .cursorSet .. | .catchupClear | .pushNow .. | .ticketCancel .. | .release .. | .leakReport ..
  | .doorReset .. | .valve .. | .carService .. => true
  | .status .. | .logRead .. | .pause | .resume | .maskSet .. | .restart | .paramGet .. | .paramSet .. | .storeSave
  | .storeLoad | .storeErase | .protectSet .. => false

/-- The requests taken on the panel alone (R174). -/
def forPanel : Request → Bool
  | .maintRange .. | .storeErase => true
  | _ => false

/-- The request stands to be taken at its port, and `s₀` is the state right after it has left the hold (R172). -/
def takes (s : State) (port : Port) (tag : Byte) (r : Request) (s₀ : State) : Prop :=
  s.opened.takeRequest port tag r = some s₀

/-- Requests are no longer refused with STARTING (R173). -/
def started (s : State) : Prop := s.ground.starting = false

/-- Started and configured. -/
def working (s : State) : Prop := s.ground.starting = false ∧ s.ground.configured = true

/-- The port may change the oven: the number names an oven, and on SUP it lies outside the maintenance range (R6, R12). -/
def mayChange (s : State) (port : Port) (n : Nat) : Prop :=
  s.ground.isOven n = true ∧ ¬(port = .sup ∧ s.ground.inRange n = true)

/-- The ovens' table holds the oven (R17). -/
def holdsOven (s : State) (n : Nat) : Prop := 1 ≤ n ∧ n ≤ s.plant.ovens.length

/-- The doors' table holds the oven's doors (R92). -/
def holdsDoors (s : State) (n : Nat) : Prop := 1 ≤ n ∧ n ≤ s.ground.doors.length

/-! ## Frames

A frame says that a plant `d` is the plant `p` but for the kinds of state named: each of these takes its kind from `d`. -/

/-- The ports, the records sent, the PRESS commands not yet answered and the follow-up events. -/
def withTraffic (d p : Plant) : Plant :=
  { p with sup := d.sup, pnl := d.pnl, sent := d.sent, closingPresses := d.closingPresses, agenda := d.agenda }

/-- The ovens' records. -/
def withOvens (d p : Plant) : Plant := { p with ovens := d.ovens }

/-- The two sides of the door unit. -/
def withSides (d p : Plant) : Plant := { p with psSide := d.psSide, csSide := d.csSide }

/-- The cars, the water arbiter, the spray commands and the track hold. -/
def withTrack (d p : Plant) : Plant :=
  { p with
    carA := d.carA
    carB := d.carB
    grant := d.grant
    waiting := d.waiting
    sprayA := d.sprayA
    sprayB := d.sprayB
    trackHold := d.trackHold }

/-- The claims of PM and GC. -/
def withClaims (d p : Plant) : Plant := { p with claimPm := d.claimPm, claimGc := d.claimGc }

/-- The ticket list, the ticket counter and the push log. -/
def withTickets (d p : Plant) : Plant := { p with tickets := d.tickets, nextTicket := d.nextTicket, log := d.log }

/-- The cursor, the catch-up list and its latch. -/
def withCatchup (d p : Plant) : Plant := { p with cursor := d.cursor, catchup := d.catchup, catchLatch := d.catchLatch }

/-- The last push start and the pacing timer. -/
def withPacing (d p : Plant) : Plant := { p with lastPushStart := d.lastPushStart, pacing := d.pacing }

/-- The charge record and the pending ask. -/
def withCharge (d p : Plant) : Plant := { p with charge := d.charge, ask := d.ask }

/-- The parameters that act when they are next read, and are handed to no block at once (11.1). -/
def readLater : ParamId → Bool
  | .policy | .skipThreshold | .cBase | .mNom | .mMin | .mMax | .hardLoad | .trimStep | .profile | .pFloor | .leakTrim
  | .gOven | .deadband | .isoTol | .pMain | .aOff | .gMain | .tIso | .tAlign | .tDoor | .tGuide | .tRam | .tClose
  | .tService | .tCharge | .quenchTime | .drainTime | .hotDwell | .pressLo | .pressHi => true
  | .ovenCount | .carSplit | .plan | .pushGap | .issueLead | .tBase | .wallStale | .tMin | .tMax | .vMin | .mVmin
  | .emptyLimit | .repressTries | .leakThreshold | .serviceWindow | .machineSilence | .supMask | .pnlMask => false

/-! ## Evaluations -/

/-- The oven is passed over at the cursor without being listed (R45, R54): it is not eligible, nor waited for, and either goes
unlisted or is in the catch-up list already. -/
def passedOver (g : Ground) (p : Plant) (n : Nat) : Prop :=
  eligibleCar g p .ready true n = none ∧
    ∃ r, passReason g p true n = some r ∧ r ≠ .wait ∧ (r = .passOut ∨ ∃ e ∈ p.catchup, e.oven = n)

/-- What the issue of a ticket of a kind for an oven and a car leaves of a plant `p` (R55). -/
def issued (g : Ground) (kind : TicketKind) (n : Nat) (c : Car) (p q : Plant) : Prop :=
  q.tickets = p.tickets ++ [newTicket g p.nextTicket n kind c] ∧ q.nextTicket = ticketAfter p.nextTicket ∧
    q.log = p.log ∧ (q.oven n).phase = .ticketed ∧ (∀ k, k ≠ n → q.oven k = p.oven k) ∧
    (q.car c).bound = some p.nextTicket ∧ q.car (otherCar c) = p.car (otherCar c) ∧
    q.catchup = (p.catchup.filter fun e => e.oven ≠ n) ∧
    ((p.oven n).valve.mode = .regulate → (q.oven n).valve.mode = .isolate ∧ (q.oven n).valve.position = some 0) ∧
    q = withTraffic q (withOvens q (withSides q (withTrack q (withTickets q (withCatchup q p)))))

/-! ## Machines and timers -/

/-- The state in which a valid record of a machine is handled: the last command's records are cleared, the link's receiver is
empty, and contact has been made (R163, R165). -/
def heard (s : State) (m : Machine) : State := (s.opened.received (.machine m)).contact m

/-- What the last completion of GUIDING leaves of a ticket `t` that stood in the plant `p` (R72, R73): with the pacing met the
ticket is in PUSHING, unless it is suspended, when its completions alone are recorded; otherwise it waits for the pacing, its
step timer dropped. -/
def guidingEnded (g : Ground) (t : Ticket) (p q : Plant) : Prop :=
  let ready := p.lastPushStart.map fun w => w + (g.params.pushGap : Int)
  let met : Prop := ∀ w, ready = some w → w ≤ g.clock
  (met → t.suspended = false →
    q.ticket? t.number = some { t with
      state := .pushing
      waits := { Waits.none with pm := .waiting (.step .ramAdvance), car := .waiting .load }
      entry := g.clock
      timer := some (g.clock + (g.params.tRam : Int))
      pushStart := some g.clock
      pacingWait := none } ∧
    q.lastPushStart = some g.clock ∧ (Machine.pm, ToMachine.step .ramAdvance t.oven) ∈ q.sent ∧
    (1 ≤ t.oven → t.oven ≤ p.ovens.length → (p.oven t.oven).phase = .opening → (q.oven t.oven).phase = .pushing)) ∧
  (met → t.suspended = true →
    q.ticket? t.number = some { t with waits := Waits.none } ∧ q.lastPushStart = p.lastPushStart ∧ q.ovens = p.ovens) ∧
  ∀ w, ready = some w → g.clock < w →
    q.ticket? t.number = some { t with waits := Waits.none, timer := none, pacingWait := some w } ∧
    q.lastPushStart = p.lastPushStart ∧ q.ovens = p.ovens

/-- A command that is the expiry of a timer which is not set, or not yet due (log 2). -/
def timerNotDue (s : State) : Instr → Prop
  | .wallStalenessExpiry w => ∀ t, (s.ground.wall w).expiry = some t → s.ground.clock < t
  | .readinessExpiry n => ∀ t, (s.plant.oven n).readiness = some t → s.ground.clock < t
  | .overdueTimerExpiry n => ∀ t, (s.plant.oven n).overdue = some t → s.ground.clock < t
  | .pacingTimerExpiry => ∀ t, s.plant.pacing = some t → s.ground.clock < t
  | .stepTimerExpiry num => ∀ x t, s.plant.ticket? num = some x → x.timer = some t → s.ground.clock < t
  | .pacingWaitReached num => ∀ x t, s.plant.ticket? num = some x → x.pacingWait = some t → s.ground.clock < t
  | .serviceTimerExpiry side => ∀ j t, (s.plant.side side).job = some j → j.timer = some t → s.ground.clock < t
  | .chargeTimerExpiry => ∀ c t, s.plant.charge = some c → c.timer = some t → s.ground.clock < t
  | .emptyDwellExpiry n => ∀ t, (s.plant.oven n).dwell = some t → s.ground.clock < t
  | .silenceTimerExpiry m => ∀ t, (s.ground.mirror m).silence = some t → s.ground.clock < t
  | .quenchTimerExpiry c => ∀ t, (s.plant.car c).quench = some t → s.ground.clock < t
  | .drainTimerExpiry c => ∀ t, (s.plant.car c).drain = some t → s.ground.clock < t
  | .hotDwellExpiry c => ∀ t, (s.plant.car c).hot = some t → s.ground.clock < t
  | _ => False

/-- The ticket is in the list under its number and its oven (R64: no two of either). -/
def isTicket (s : State) (t : Ticket) : Prop :=
  s.plant.ticket? t.number = some t ∧ s.plant.ticketOf? t.oven = some t

end Sys2Proof.Safety
end

