-- ==== Sys2Proof/Certificates/Slice0/Obligations.lean ====
section
/-! DEFINITION. The statements about the 2480 for the provers. In each, `s₀` is the state right after a request has left its
port's hold, and a statement that gives the next state as an equation says of everything it does not name that it is as it
was in `s` (or `s₀`), the list of the records sent apart, which begins empty. The follow-up events of a command are taken at
its end (log 3): where a statement names a state `d`, `d.settled` is `d` with them taken. The details of refusals are the model's
names for the check that failed (log 19). -/

open Sys2Proof Sys2Proof.Machine Sys2Proof.Safety

/-! ## Steps and conditions that every step keeps -/

/-- A step takes the command at the front of the queue and runs it on the state with the rest of the queue. -/
def Obligations.StepRunsTheFrontCommand : Prop :=
  ∀ (c : Instr) (rest : List Instr) (s : State), s.pending = c :: rest → step s = exec c { s with pending := rest }

/-- Every command, in every state, answers a next state, leaves the queue of waiting commands as it was, and, taken while no
follow-up event waits, leaves none waiting (the model's own list, log 3); and so does every step. -/
def Obligations.EveryCommandGoesOn : Prop :=
  (∀ (c : Instr) (s : State), ∃ t, exec c s = .next t ∧ t.pending = s.pending ∧ (calm s → calm t)) ∧ stepKeeps calm

/-- Every step keeps the 4 places of each request hold (R172), the 32 of each notice queue (R175), at most 2 tickets (R64), 8
catch-up entries (R47), 16 entries in each service list (R99) and 64 log records (R89). -/
def Obligations.HoldsAndListsStayWithinBounds : Prop := stepKeeps portsBounded ∧ stepKeeps listsBounded

/-- Every step keeps the verified image present exactly while the store state is VERIFIED (R185), and every parameter of the
working set, of the verified image and of a save in progress within its range and its relations, and the protection levels
within 0 to 3 (R182, R184, R185). -/
def Obligations.StoreAndParametersStaySound : Prop := stepKeeps imagePresent ∧ stepKeeps paramsKept

/-- Every step keeps the two cars' spans apart, with each car where its span says it is unless it is in FAULT: authority over
no stretch of the track is ever held by both cars (R147, R150, R151). -/
def Obligations.SpansStayApart : Prop := stepKeeps spansApart

/-- Every step keeps the water grant with the car in QUENCHING, so that at most one car is QUENCHING (R157, R158). -/
def Obligations.QuenchingCarHoldsTheGrant : Prop := stepKeeps waterHeld

/-- Every command taken while the ticket counter is not near its wrap keeps at most one ticket in ALIGNING through CLOSING or
in FAULT_HELD, no two tickets of one oven and no two of one number (R63, R64). The two commands that hand a link's bytes to the
receiver are left out: a frame found there is taken as its own command is. -/
def Obligations.OnePushAtATime : Prop :=
  ∀ (c : Instr) (s t : State), PushSound s → s.plant.nextTicket + 5000 ≤ maxU32 → (∀ link cause, c ≠ .discardedFrame link cause) →
    (∀ link bytes, c ≠ .frameGapTimeout link bytes) → exec c s = .next t → PushSound t

/-- The state after reset meets the conditions that every step keeps, with no follow-up event waiting; the working set, the
protection level and the store state that it holds until the store read ends are the model's choice (log 9). -/
def Obligations.ResetIsSafe : Prop := safe State.reset ∧ calm State.reset

/-- The run state becomes RUNNING only by RESUME, STOPPED only by the emergency stop line's assertion or at the end of the
store read, which reads the line, and PAUSED only by PAUSE, RESTART or a cold start (R168, R170). -/
def Obligations.RunStateChangesOnlyByItsEvents : Prop :=
  ∀ (c : Instr) (s t : State), exec c s = .next t → t.ground.runState ≠ s.ground.runState →
    match t.ground.runState with
    | .running => ∃ port tag, c = .resume port tag
    | .stopped => c = .estopAsserted ∨ c = .storeReadTimeout ∨ ∃ found, c = .storeReadEnd found
    | .paused => (∃ port tag, c = .pause port tag ∨ c = .restart port tag) ∨ ∃ byLine, c = .coldStart byLine

/-- Once the 2480 is configured, no command but a cold start changes the oven count (R180, R183, R186). -/
def Obligations.OvenCountIsSetOnce : Prop :=
  ∀ (c : Instr) (s t : State) (n : Nat), started s → s.ground.params.ovenCount = some n → exec c s = .next t →
    (∀ byLine, c ≠ .coldStart byLine) → t.ground.params.ovenCount = some n

/-- A tick advances the battery clock by one up to its largest value, and changes nothing else; it stays 0 while the reset
line is held (log 10); no other command but a cold start changes the clock (R1). -/
def Obligations.ClockAdvancesByTicks : Prop :=
  (∀ s : State, s.ground.resetHeld = false →
    exec .batteryClockTick s =
      .next { s.opened with ground := { s.ground with clock := min maxClock (s.ground.clock + 1) } }) ∧
  (∀ s : State, s.ground.resetHeld = true → exec .batteryClockTick s = .next s.opened) ∧
  ∀ (c : Instr) (s t : State), exec c s = .next t → c ≠ .batteryClockTick → (∀ byLine, c ≠ .coldStart byLine) →
    t.ground.clock = s.ground.clock

/-! ## Start-up, lines and run state -/

/-- A cold start leaves the clock at 0, STARTING, nothing held, queued or sent, every table of ovens, walls, doors, nodes,
tickets and lists empty, the cars as created, nothing granted or claimed, and the run state PAUSED (R188). It keeps the level
of the lines and the waiting commands, the reset line held too when power is applied; the receivers are empty (log 44), and the
working set and the masks stand at their defaults until the store read (log 8, 9, 24), and the memory counts as partly written
until then when a save was in progress (R185; log 12). The release of the reset line starts the store read (R188). -/
def Obligations.ColdStartBeginsStarting : Prop :=
  (∀ (s : State) (byLine : Bool), ∃ t, exec (.coldStart byLine) s = .next t ∧ t.pending = s.pending ∧
    t.ground.clock = 0 ∧ t.ground.starting = true ∧ t.ground.resetHeld = (byLine || s.ground.resetHeld) ∧
    t.ground.estopLine = s.ground.estopLine ∧ t.ground.keyLine = s.ground.keyLine ∧
    (t.ground.partWritten = true ↔ s.ground.partWritten = true ∨ ∃ im, s.ground.storeOp = some (.save im)) ∧
    t.ground.params = defaultParams ∧ t.ground.protection = 0 ∧ t.ground.store = .absent ∧ t.ground.storeOp = none ∧
    t.ground.verified = none ∧ t.ground.runState = .paused ∧ t.ground.schedRunning = false ∧ t.ground.maint = none ∧
    t.ground.order = [] ∧ t.ground.walls = [] ∧ t.ground.doors = [] ∧ t.ground.ovenNodes = [] ∧
    t.ground.mainNode = .created ∧ t.ground.towerNodeA = .created ∧ t.ground.towerNodeB = .created ∧
    t.ground.poll = none ∧ (∀ m, t.ground.mirror m = Mirror.cold) ∧ (∀ link, t.ground.rxOf link = []) ∧
    t.plant.sup = .quiet 2 ∧ t.plant.pnl = .quiet 8 ∧ t.plant.ovens = [] ∧ t.plant.cursor = 0 ∧ t.plant.catchup = [] ∧
    t.plant.catchLatch = false ∧ t.plant.lastPushStart = none ∧ t.plant.pacing = none ∧ t.plant.tickets = [] ∧
    t.plant.nextTicket = 1 ∧ t.plant.log = [] ∧ t.plant.psSide = .idle ∧ t.plant.csSide = .idle ∧
    t.plant.charge = none ∧ t.plant.ask = none ∧ t.plant.mainPosition = none ∧ t.plant.mainSetPoint = none ∧
    t.plant.sprayA = false ∧ t.plant.sprayB = false ∧ t.plant.carA = .created ∧ t.plant.carB = .created ∧
    t.plant.grant = none ∧ t.plant.waiting = [] ∧ t.plant.trackHold = false ∧ t.plant.claimPm = .free ∧
    t.plant.claimGc = .free ∧ t.plant.sent = [] ∧ t.plant.closingPresses = [] ∧ calm t) ∧
  ∀ s : State, exec .resetLineRelease s =
    .next { s.opened with ground := { s.ground with resetHeld := false } }

/-- A good image makes the store VERIFIED and is the working set and protection level; the 2480 leaves STARTING, its masks
set from it, the poll round begun, and the emergency stop line read; a set oven count configures it. Without a good image it
leaves STARTING on defaults, unconfigured, at protection level 0: ABSENT when the memory does not answer, BLANK without a
signature, CORRUPT otherwise (R188, R189). That a stored level above 3 makes the store CORRUPT is log 29. A memory left partly
written by a cold start during a save is found CORRUPT whatever the read finds (R185; log 12); one that does not answer is
ABSENT then too. -/
def Obligations.StoreReadSetsTheWorkingSet : Prop :=
  (∀ (s : State) (im : Image), s.ground.starting = true → s.ground.resetHeld = false → s.ground.partWritten = false →
     paramsOk im.params = true → im.level ≤ 3 →
     ∃ t, exec (.storeReadEnd (.image im)) s = .next t ∧ t.ground.starting = false ∧ t.ground.store = .verified ∧
       t.ground.verified = some im ∧ t.ground.params = im.params ∧ t.ground.protection = im.level ∧
       (t.ground.poll.map fun x => x.address) = some 0 ∧
       t.ground.runState = (if s.ground.estopLine then .stopped else s.ground.runState) ∧
       (calm s → (s.ground.estopLine = true → s.plant.ask = none) →
         t.plant.sup.mask = im.params.supMask ∧ t.plant.pnl.mask = im.params.pnlMask ∧
         ∀ n, im.params.ovenCount = some n →
           t.plant.ovens = (ovenNumbers n).map Oven.created ∧ t.ground.order = pushOrder n im.params.plan ∧
           t.ground.walls.length = n + 1 ∧ t.ground.doors.length = n ∧ t.ground.ovenNodes.length = n)) ∧
  (∀ s : State, s.ground.starting = true → s.ground.resetHeld = false →
     (∃ t, exec .storeReadTimeout s = .next t ∧ t.ground.store = .absent ∧ t.ground.starting = false ∧
       t.ground.verified = none ∧ t.ground.params = defaultParams ∧ t.ground.protection = 0) ∧
     (s.ground.partWritten = false →
       ∃ t, exec (.storeReadEnd .noSignature) s = .next t ∧ t.ground.store = .blank ∧ t.ground.starting = false ∧
         t.ground.verified = none ∧ t.ground.params = defaultParams ∧ t.ground.protection = 0) ∧
     (s.ground.partWritten = true → ∀ found,
       ∃ t, exec (.storeReadEnd found) s = .next t ∧ t.ground.store = .corrupt ∧ t.ground.starting = false ∧
         t.ground.verified = none ∧ t.ground.params = defaultParams ∧ t.ground.protection = 0 ∧
         t.ground.partWritten = false) ∧
     ∀ found, found = .badLength ∨ found = .badCheck ∨
         (∃ im, found = .image im ∧ (paramsOk im.params = false ∨ 3 < im.level)) →
       ∃ t, exec (.storeReadEnd found) s = .next t ∧ t.ground.store = .corrupt ∧ t.ground.starting = false ∧
         t.ground.verified = none ∧ t.ground.params = defaultParams ∧ t.ground.protection = 0)

/-- The assertion of the emergency stop line, and an accepted PAUSE, take the run state to STOPPED or PAUSED and send STOP to
all five machines; with no ask pending, tickets from ALIGNING through CLOSING, service jobs and the charge are suspended and
nothing else of the plant but ports and records sent changes (R168, R169, R86, R107, R119). The release of the emergency stop
line is reported and changes nothing else; a change of the engineering key line, and the release or assertion of the stop line
while STARTING, change the line's level alone (R168, R170, R184). -/
def Obligations.EstopAndPauseHaltTheBattery : Prop :=
  let suspended (s : State) : Plant := suspendCharge s.ground (suspendJob .cs (suspendJob .ps (suspendTickets s.plant)))
  (∀ s : State, started s → s.ground.estopLine = false → s.ground.runState ≠ .stopped →
    ∃ t, exec .estopAsserted s = .next t ∧
      t.ground = { s.ground with estopLine := true, runState := .stopped } ∧
      (∀ m, (m, ToMachine.stop) ∈ t.plant.sent) ∧
      (calm s → s.plant.ask = none → ∃ sup pnl, t.plant =
        { suspended s with sup := sup, pnl := pnl, sent := allMachines.map fun m => (m, .stop) })) ∧
  (∀ (s s₀ : State) (port : Port) (tag : Byte), started s → takes s port tag .pause s₀ →
    (s.ground.runState = .running →
      ∃ t, exec (.pause port tag) s = .next t ∧ t.ground = { s.ground with runState := .paused } ∧
        (∀ m, (m, ToMachine.stop) ∈ t.plant.sent) ∧
        (calm s → s.plant.ask = none → ∃ sup pnl, t.plant =
          { suspended s with sup := sup, pnl := pnl, sent := allMachines.map fun m => (m, .stop) })) ∧
    (s.ground.runState ≠ .running → calm s →
      exec (.pause port tag) s =
        .next (s₀.answer port tag (.ok (.runState s.ground.runState s.ground.estopLine))))) ∧
  ∀ s : State, calm s →
    (started s → s.ground.estopLine = true →
      exec .estopReleased s =
        .next (({ s.opened with ground := { s.ground with estopLine := false } } : State).raise .estopReleased)) ∧
    (∀ level, exec (.keyLineChange level) s =
      .next { s.opened with ground := { s.ground with keyLine := level } }) ∧
    (s.ground.starting = true →
      exec .estopAsserted s = .next { s.opened with ground := { s.ground with estopLine := true } } ∧
      exec .estopReleased s = .next { s.opened with ground := { s.ground with estopLine := false } })

/-- RESUME takes PAUSED to RUNNING on either port, and STOPPED to RUNNING on PNL with the line released; it is refused with
STATE on SUP while STOPPED, and on PNL with the line asserted; while RUNNING it changes nothing (R168, R169). As it goes on, the
suspended ticket, when no other is suspended, advances if nothing is outstanding and the pacing of GUIDING is met, and
otherwise is sent its outstanding commands again, a recorded side of CLOSING its next one, under a full step timer (R87). A
suspended job sends its command again, PRESS where its machine has reached the spot (R107); a suspended charge goes on with the
seconds it had left (R119); the track hold clears, and a car on a granted run is sent MOVE, one DUMPING is sent DUMP (R153). -/
def Obligations.ResumeStartsTheBattery : Prop :=
  ∀ (s s₀ : State) (port : Port) (tag : Byte), started s → takes s port tag .resume s₀ →
    (s.ground.runState ≠ .running → ¬(port = .sup ∧ s.ground.runState = .stopped) →
      ¬(port = .pnl ∧ s.ground.estopLine = true) →
      let p := s₀.goOn.plant
      let now := s.ground.clock
      let q := s.ground.params
      exec (.resume port tag) s =
          .next (s₀.goOn.settled.answer port tag (.ok (.runState .running s.ground.estopLine))) ∧
        s₀.goOn.settled.ground = { s.ground with runState := .running } ∧
        (∀ t, isTicket s t → t.suspended = true → (∀ x ∈ s.plant.tickets, x.suspended = true → x = t) →
          (t.state = .undooring ∨ t.state = .guiding ∨ t.state = .pushing ∨ t.state = .closing → t.waits.empty = false →
            (p.ticket? t.number).map (fun x => (x.state, x.suspended, x.timer)) =
                some (t.state, false, some (now + (stepTime q t.state : Int))) ∧
            ∀ m op, m = .pm ∨ m = .gc →
              (t.waits.machine m = .waiting (.step op) → (m, ToMachine.step op t.oven) ∈ p.sent) ∧
              ∀ next, t.waits.machine m = .recorded (.step op) → closingNext op = some next →
                (m, ToMachine.step next t.oven) ∈ p.sent ∧
                (p.ticket? t.number).map (fun x => x.waits.machine m) = some (.waiting (.step next))) ∧
          (t.state = .aligning → ∀ m, m = .pm ∨ m = .gc → s.ground.atSpot m t.oven = false →
            (m, ToMachine.move t.oven) ∈ p.sent ∧
            (p.ticket? t.number).map (fun x => (x.state, x.suspended, x.timer)) =
              some (.aligning, false, some (now + (q.tAlign : Int)))) ∧
          (t.waits.empty = true →
            (t.state = .undooring → (p.ticket? t.number).map (fun x => x.state) = some .guiding) ∧
            (t.state = .guiding → pacingMet s.ground s.plant = true →
              (p.ticket? t.number).map (fun x => x.state) = some .pushing) ∧
            (t.state = .guiding → pacingMet s.ground s.plant = false →
              (p.ticket? t.number).map (fun x => (x.state, x.suspended, x.timer, x.pacingWait)) =
                some (.guiding, false, none, pacingTime s.ground s.plant)) ∧
            (t.state = .pushing → (p.ticket? t.number).map (fun x => x.state) = some .closing) ∧
            (t.state = .closing → p.ticket? t.number = none))) ∧
        (∀ side j, (s.plant.side side).job = some j → j.suspended = true →
          let m := sideMachine side
          let timer := some (now + (q.tService : Int))
          (j.state = .moving → s.ground.atSpot m j.oven = true →
            (p.side side).job =
                some { oven := j.oven, state := .pressing, suspended := false, command := .step .press, timer := timer } ∧
              (m, ToMachine.step .press j.oven) ∈ p.sent) ∧
          (j.state = .moving → s.ground.atSpot m j.oven = false → j.command = .move →
            (p.side side).job = some { j with suspended := false, timer := timer } ∧
              (m, ToMachine.move j.oven) ∈ p.sent) ∧
          (j.state = .pressing → j.command = .step .press →
            (p.side side).job = some { j with suspended := false, timer := timer } ∧
              (m, ToMachine.step .press j.oven) ∈ p.sent)) ∧
        (∀ c left, s.plant.charge = some c → c.suspended = true → c.remaining = some left → 0 < left →
          p.charge = some { c with suspended := false, timer := some (now + left), remaining := none } ∧
            (c.ccEnd = false → (Machine.cc, ToMachine.chargeGo c.oven) ∈ p.sent) ∧
            (c.level = none → (Machine.pm, ToMachine.step .level c.oven) ∈ p.sent)) ∧
        p.trackHold = false ∧
        ∀ c,
          (∀ x, (s.plant.car c).state = .runToOven ∨ (s.plant.car c).state = .runToTower ∨
              (s.plant.car c).state = .runToWharf →
            (s.plant.car c).target = some { position := x, granted := true } →
            (carMachine c, ToMachine.move x) ∈ p.sent) ∧
          ((s.plant.car c).state = .dumping → (s.plant.car c).target = none →
            (carMachine c, ToMachine.dump) ∈ p.sent)) ∧
    (port = .sup → s.ground.runState = .stopped →
      exec (.resume port tag) s = .next (s₀.answer port tag (.refused .state .runState))) ∧
    (port = .pnl → s.ground.estopLine = true → s.ground.runState ≠ .running →
      exec (.resume port tag) s = .next (s₀.answer port tag (.refused .state .line))) ∧
    (s.ground.runState = .running → calm s →
      exec (.resume port tag) s = .next (s₀.answer port tag (.ok (.runState .running s.ground.estopLine))))

/-! ## The ports -/

/-- A request whose length fits its kind joins the tail of its port's hold while there is room among 4, and is answered FULL
otherwise; a frame that is no request, or of a wrong length, a WALL REPORT without 1 to 16 readings among them, is answered
FORMAT at once, hold full or not, whichever row brings it (log 4), so that on a free port with no such reply before it the
reply goes out at once, ahead of every other. A frame sent makes way for the next (R171, R172, R175). -/
def Obligations.FramesEnterAndLeaveThePorts : Prop :=
  (∀ (s : State) (port : Port) (tag : Byte) (r : Request), lengthFits r = true →
    ((s.plant.port port).hold.length < 4 →
      exec (.requestFrameArrival port tag (.request r)) s =
        .next ((s.opened.received (.port port)).modPort port fun x => { x with hold := x.hold ++ [(tag, r)] })) ∧
    (4 ≤ (s.plant.port port).hold.length →
      exec (.requestFrameArrival port tag (.request r)) s =
        .next ((s.opened.received (.port port)).modPort port fun x =>
          x.answerUrgent tag (.refused .full .holdFull)))) ∧
  (∀ (s : State) (port : Port) (tag : Byte) (body : FrameBody),
    body = .notRequest ∨ body = .badLength ∨ (∃ r, body = .request r ∧ lengthFits r = false) →
    exec (.requestFrameArrival port tag body) s =
      .next ((s.opened.received (.port port)).modPort port fun x =>
        x.answerUrgent tag (.refused .format .frame))) ∧
  (∀ (s : State) (port : Port) (tag : Byte) (first count : Nat) (readings : List Int),
    lengthFits (.wallReport first count readings) = false →
    exec (.wallReport port tag first count readings) s =
      .next ((s.opened.received (.port port)).modPort port fun x =>
        x.answerUrgent tag (.refused .format .frame))) ∧
  (∀ (x : PortState) (tag : Byte), x.sending = none → x.urgent = [] →
    x.answerUrgent tag (.refused .format .frame) =
      { x with sending := some (.reply tag (.refused .format .frame)) }) ∧
  (∀ first count readings, lengthFits (.wallReport first count readings) = true ↔
    1 ≤ count ∧ count ≤ 16 ∧ readings.length = count) ∧
  ∀ (s : State) (port : Port), ∃ t, exec (.portFrameSent port) s = .next t ∧ t.ground = s.ground ∧
    t.plant.port port = ({ s.plant.port port with sending := none } : PortState).pump ∧
    (∀ other, other ≠ port → t.plant.port other = s.plant.port other)

/-- A notice is judged for each port apart: below the mask it is not offered; with room among 32 it joins the tail of the
queue, and goes out at once on a free port; with no room it is lost and the overrun flag set. A free port begins a FULL or
FORMAT reply first, then the oldest ready reply, then the notice at the head of its queue, under the port's sequence number,
which then goes on by one, from 255 to 0 (R172, R175). -/
def Obligations.NoticesQueueAndRepliesGoFirst : Prop :=
  (∀ (s : State) (b : NoticeBody) (port : Port),
     let n : Notice := { level := b.level, time := s.ground.clock, body := b }
     let x := s.plant.port port
     let y := (s.raise b).plant.port port
     (b.level < x.mask → y = x) ∧
     (x.mask ≤ b.level → x.queue.length < 32 → y = ({ x with queue := x.queue ++ [n] } : PortState).pump) ∧
     (x.mask ≤ b.level → 32 ≤ x.queue.length → y = { x with overrun := true })) ∧
  (∀ x : PortState, x.sending = none →
     (∀ tag r rest, x.urgent = (tag, r) :: rest →
       x.pump = { x with urgent := rest, sending := some (.reply tag r) }) ∧
     (∀ tag r rest, x.urgent = [] → x.replies = (tag, r) :: rest →
       x.pump = { x with replies := rest, sending := some (.reply tag r) }) ∧
     (∀ n rest, x.urgent = [] → x.replies = [] → x.queue = n :: rest →
       x.pump = { x with queue := rest, sending := some (.notice x.seq n), seq := x.seq + 1 }))

/-- The receiver takes a whole frame whose check is right, whatever bytes follow it, and discards one whose length is above
200 or whose check is wrong (R171). A frame discarded for its content empties its link's receiver and changes nothing else;
bytes in which no whole frame is found leave the part of a frame they end with, or, when they have stopped, nothing (R171; that
these two rows are where bytes enter, and that a whole frame empties its receiver, is log 28). -/
def Obligations.ReceiverTakesAFrameByItsCheck : Prop :=
  (∀ (kind tag len : Byte) (payload rest : List Byte) (hi lo : Byte), payload.length = len.toNat →
    (len.toNat ≤ 200 → hi ++ lo = crc16 (kind :: tag :: len :: payload) →
      judgeFrame (kind :: tag :: len :: (payload ++ hi :: lo :: rest)) =
        .frame { kind := kind, tag := tag, payload := payload } rest) ∧
    (200 < len.toNat ∨ hi ++ lo ≠ crc16 (kind :: tag :: len :: payload) →
      judgeFrame (kind :: tag :: len :: (payload ++ hi :: lo :: rest)) = .discard)) ∧
  ∀ (s : State) (link : Link) (bytes : List Byte),
    let all := s.ground.rxOf link ++ bytes
    exec (.discardedFrame link .content) s = .next (s.opened.received link) ∧
    ((scan (all.length + 1) all).1 = [] →
      exec (.discardedFrame link (.receiver bytes)) s =
        .next (s.opened.setRx link (scan (all.length + 1) all).2)) ∧
    (scanStopped (all.length + 1) all = [] →
      exec (.frameGapTimeout link bytes) s = .next (s.opened.received link))

/-- STATUS answers the section asked for with the overrun flag of its port, clears that flag, and changes nothing else; a
code that names no section is refused with RANGE (R177). -/
def Obligations.StatusClearsTheOverrunFlag : Prop :=
  ∀ (s s₀ : State) (port : Port) (tag : Byte), started s → calm s →
    (∀ sec, takes s port tag (.status (some sec)) s₀ →
      exec (.status port tag (some sec)) s =
        .next ((s₀.modPort port fun x => { x with overrun := false }).answer port tag
          (.ok (.status (statusBody s₀ sec) (s₀.plant.port port).overrun)))) ∧
    (takes s port tag (.status none) s₀ →
      exec (.status port tag none) s = .next (s₀.answer port tag (.refused .range .field)))

/-- MASK SET sets the mask of the port it arrives on and answers it, refusing a level above 15; the parameters and the notices
queued stay. PARAM SET of SUP_MASK or PNL_MASK changes the parameter and that port's mask at once; a warm restart sets each
mask from its parameter again. A notice raised is judged by the mask as it then stands, and one not below it joins the queue
while there is room (R176). -/
def Obligations.MasksAreSet : Prop :=
  (∀ (s s₀ : State) (port : Port) (tag : Byte) (level : Nat), started s → calm s →
    takes s port tag (.maskSet level) s₀ →
    (level ≤ 15 → exec (.maskSet port tag level) s =
      .next ((s₀.modPort port fun x => { x with mask := level }).answer port tag (.ok (.mask level)))) ∧
    (15 < level → exec (.maskSet port tag level) s = .next (s₀.answer port tag (.refused .range .field)))) ∧
  (∀ (s s₀ : State) (port : Port) (tag : Byte) (level : Nat), started s → calm s → level ≤ 15 →
    s.ground.protection < 3 →
    (takes s port tag (.paramSet (some .supMask) (.number level)) s₀ → relationsHold s.ground.params = true →
      exec (.paramSet port tag (some .supMask) (.number level)) s =
        .next ((({ s₀ with ground := { s₀.ground with params := { s₀.ground.params with supMask := level } } }
          : State).modPort .sup fun x => { x with mask := level }).answer port tag
            (.ok (.value (some (.number level)))))) ∧
    (takes s port tag (.paramSet (some .pnlMask) (.number level)) s₀ → relationsHold s.ground.params = true →
      exec (.paramSet port tag (some .pnlMask) (.number level)) s =
        .next ((({ s₀ with ground := { s₀.ground with params := { s₀.ground.params with pnlMask := level } } }
          : State).modPort .pnl fun x => { x with mask := level }).answer port tag
            (.ok (.value (some (.number level))))))) ∧
  (∀ (s s₀ : State) (port : Port) (tag : Byte), started s → takes s port tag .restart s₀ → workingPush s.plant = false →
    (∀ t ∈ s.plant.tickets, t.state ≠ .faultHeld) → s.plant.charge = none →
    ∃ t, exec (.restart port tag) s = .next t ∧ t.plant.sup.mask = s.ground.params.supMask ∧
      t.plant.pnl.mask = s.ground.params.pnlMask) ∧
  ∀ (s : State) (b : NoticeBody) (port : Port),
    (b.level < (s.plant.port port).mask → (s.raise b).plant.port port = s.plant.port port) ∧
    ((s.plant.port port).mask ≤ b.level → (s.plant.port port).queue.length < 32 →
      (s.raise b).plant.port port = ({ s.plant.port port with
        queue := (s.plant.port port).queue ++ [{ level := b.level, time := s.ground.clock, body := b }] } : PortState).pump)

/-- While STARTING every request whose length fits is refused with STARTING. While UNCONFIGURED the requests that the
catalogue marks are refused with UNCONFIGURED, on SUP the panel-only one with AUTH. On SUP the requests that change an oven in
the maintenance range, TICKET CANCEL and RELEASE of a ticket for such an oven among them, are refused with AUTH. Each refusal
changes nothing (R12, R173, R174, R188). -/
def Obligations.RequestsAreRefusedUnchanged : Prop :=
  (∀ (s s₀ : State) (port : Port) (tag : Byte) (r : Request), s.ground.starting = true → lengthFits r = true →
     takes s port tag r s₀ →
     exec (requestCommand port tag r) s = .next (s₀.answer port tag (.refused .starting .starting))) ∧
  (∀ (s s₀ : State) (port : Port) (tag : Byte) (r : Request), started s → s.ground.configured = false →
     needsOvens r = true → lengthFits r = true → takes s port tag r s₀ →
     exec (requestCommand port tag r) s =
       .next (s₀.answer port tag
         (if port = .sup ∧ forPanel r = true then .refused .auth .panelOnly
         else .refused .unconfigured .unconfigured))) ∧
  (∀ (s s₀ : State) (tag : Byte) (n : Nat), working s → s.ground.isOven n = true → s.ground.inRange n = true →
     let refused : Answer := .next (s₀.answer .sup tag (.refused .auth .maintenanceRange))
     (∀ f, badRestore f = false → takes s .sup tag (.ovenRestore n f) s₀ → exec (.ovenRestore .sup tag n f) s = refused) ∧
     (∀ v, takes s .sup tag (.ovenService n (some v)) s₀ → exec (.ovenService .sup tag n (some v)) s = refused) ∧
     (∀ v, takes s .sup tag (.ovenHold n (some v)) s₀ → exec (.ovenHold .sup tag n (some v)) s = refused) ∧
     (∀ trim, 800 ≤ trim → trim ≤ 1250 → takes s .sup tag (.ovenTrim n trim) s₀ →
       exec (.ovenTrim .sup tag n trim) s = refused) ∧
     (∀ force, takes s .sup tag (.pushNow n force) s₀ → exec (.pushNow .sup tag n force) s = refused) ∧
     (∀ side level, level ≤ 3 → takes s .sup tag (.leakReport n (some side) level) s₀ →
       exec (.leakReport .sup tag n (some side) level) s = refused) ∧
     (∀ side, takes s .sup tag (.doorReset n (some side)) s₀ →
       exec (.doorReset .sup tag n (some side)) s = refused) ∧
     (∀ form, badValve (some form) = false → takes s .sup tag (.valve n (some form)) s₀ →
       exec (.valve .sup tag n (some form)) s = refused) ∧
     ∀ num t, num ≠ 0 → s.plant.ticket? num = some t → t.oven = n →
       (takes s .sup tag (.ticketCancel num) s₀ → exec (.ticketCancel .sup tag num) s = refused) ∧
       ∀ outcome, takes s .sup tag (.release num (some outcome)) s₀ →
         exec (.release .sup tag num (some outcome)) s = refused)

/-- An accepted RESTART leaves no ticket, no service job and no pending ask, the scheduler STOPPED, the run state PAUSED
unless it was STOPPED, STOP sent to all five machines, each port's mask at its parameter, and the rest of what only commands
write as it was; it is refused with STATE while a ticket works or is FAULT_HELD or a charge record exists (R178, R179). -/
def Obligations.RestartClearsTheWork : Prop :=
  ∀ (s s₀ : State) (port : Port) (tag : Byte), started s → takes s port tag .restart s₀ →
    (workingPush s.plant = false → (∀ t ∈ s.plant.tickets, t.state ≠ .faultHeld) → s.plant.charge = none →
      ∃ t, exec (.restart port tag) s = .next t ∧ t.plant.tickets = [] ∧ t.plant.psSide.job = none ∧
        t.plant.csSide.job = none ∧ t.plant.ask = none ∧ (∀ m, (m, ToMachine.stop) ∈ t.plant.sent) ∧
        t.plant.sup.mask = s.ground.params.supMask ∧ t.plant.pnl.mask = s.ground.params.pnlMask ∧
        t.ground = { s.ground with
          schedRunning := false
          runState := if s.ground.runState = .running then .paused else s.ground.runState }) ∧
    (workingPush s.plant = true →
      exec (.restart port tag) s = .next (s₀.answer port tag (.refused .state .workingPush))) ∧
    (workingPush s.plant = false → (∃ t ∈ s.plant.tickets, t.state = .faultHeld) →
      exec (.restart port tag) s = .next (s₀.answer port tag (.refused .state .faultHeld))) ∧
    (workingPush s.plant = false → (∀ t ∈ s.plant.tickets, t.state ≠ .faultHeld) → s.plant.charge ≠ none →
      exec (.restart port tag) s = .next (s₀.answer port tag (.refused .state .chargeRecord)))

/-! ## Ovens, walls and doors -/

/-- An accepted OVEN HOLD gives the hold flag the value asked for, and is refused with STATE while the oven holds a ticket;
an accepted OVEN TRIM sets the target trim in any phase and answers it, and a trim outside 800 to 1250 is refused with RANGE;
neither changes anything else (R9, R36). -/
def Obligations.OvenHoldAndTrimAreWritten : Prop :=
  (∀ (s s₀ : State) (port : Port) (tag : Byte) (n : Nat) (v : Bool), working s → calm s → mayChange s port n →
     takes s port tag (.ovenHold n (some v)) s₀ →
     ((s.plant.oven n).phase.holdsTicket = false →
       exec (.ovenHold port tag n (some v)) s =
         .next (({ s₀ with plant := s₀.plant.modOven n fun o => { o with hold := v } } : State).answer port tag
           (.ok .plain))) ∧
     ((s.plant.oven n).phase.holdsTicket = true →
       exec (.ovenHold port tag n (some v)) s = .next (s₀.answer port tag (.refused .state .ticketHeld)))) ∧
  (∀ (s s₀ : State) (port : Port) (tag : Byte) (n trim : Nat), working s → calm s → s.ground.isOven n = true →
     takes s port tag (.ovenTrim n trim) s₀ →
     (800 ≤ trim → trim ≤ 1250 → mayChange s port n →
       exec (.ovenTrim port tag n trim) s =
         .next (({ s₀ with plant := s₀.plant.modOven n fun o => { o with trim := trim } } : State).answer port tag
           (.ok (.trim trim)))) ∧
     (trim < 800 ∨ 1250 < trim →
       exec (.ovenTrim port tag n trim) s = .next (s₀.answer port tag (.refused .range .field))))

/-- OVEN QUERY of an oven 1 to N answers the record after an accrual event, in which the credit rises by rate times the
seconds since the last, saturating; an oven that does not accrue, and an absent one from N + 1 to 96, are not changed; other
numbers are refused with RANGE (R13, R14, R25). -/
def Obligations.OvenQueryAccruesAndAnswers : Prop :=
  ∀ (s s₀ : State) (port : Port) (tag : Byte) (n : Nat), working s → takes s port tag (.ovenQuery n) s₀ →
    (n = 0 ∨ 96 < n → exec (.ovenQuery port tag n) s = .next (s₀.answer port tag (.refused .range .number))) ∧
    (n ≠ 0 → n ≤ 96 → s.ground.isOven n = false → calm s →
      exec (.ovenQuery port tag n) s = .next (s₀.answer port tag (.ok .ovenAbsent))) ∧
    (n ≤ 96 → s.ground.isOven n = true → calm s → (s.plant.oven n).accrual = none →
      exec (.ovenQuery port tag n) s =
        .next (s₀.answer port tag (.ok (.oven (ovenReply s₀.ground s₀.plant n))))) ∧
    (n ≤ 96 → s.ground.isOven n = true → holdsOven s n → ∀ a, (s.plant.oven n).accrual = some a →
      ∃ d : State, exec (.ovenQuery port tag n) s =
          .next (d.settled.answer port tag (.ok (.oven (ovenReply s₀.ground d.plant n)))) ∧
        d.ground = s.ground ∧
        (d.plant.oven n).credit =
          min maxU32 ((s.plant.oven n).credit + a.rate * (s.ground.clock - a.since).toNat) ∧
        (d.plant.oven n).accrual = some { since := s.ground.clock, rate := rateOf s.ground n } ∧
        (d.plant.oven n).phase = (s.plant.oven n).phase ∧ (∀ k, k ≠ n → d.plant.oven k = s.plant.oven k) ∧
        d.plant = withTraffic d.plant (withOvens d.plant s.plant))

/-- An accepted OVEN RESTORE writes both doors as asked and no other door, and, with no ask pending, the fields of the oven's
record that go with the phase asked for: EMPTY with its empty-since time, its dwell timer at that time plus EMPTY_LIMIT, its
credit target as it was and its valve isolated, or COKING with charge end, credit, mass, target and accrual, READY at once when
the readiness test holds; no other oven changes (R16, R27, R30, R120). -/
def Obligations.OvenRestoreWritesTheRecord : Prop :=
  ∀ (s s₀ : State) (port : Port) (tag : Byte) (n : Nat) (f : RestoreFields), working s → mayChange s port n →
    holdsOven s n → holdsDoors s n → badRestore f = false → (s.plant.oven n).phase = .unknown →
    takes s port tag (.ovenRestore n f) s₀ →
    ∃ (d : State) (reply : OkData), exec (.ovenRestore port tag n f) s = .next (d.settled.answer port tag (.ok reply)) ∧
      d.ground.door n .ps = restoredDoor (f.psDoor.getD .hung) ∧
      d.ground.door n .cs = restoredDoor (f.csDoor.getD .hung) ∧
      (∀ k side, k ≠ n → d.ground.door k side = s.ground.door k side) ∧
      (s.plant.ask = none →
        d.plant = withTraffic d.plant (withOvens d.plant (withSides d.plant s.plant)) ∧
        (∀ k, k ≠ n → d.plant.oven k = s.plant.oven k) ∧
        (d.plant.oven n).trim = f.trim ∧ some (d.plant.oven n).service = f.service ∧
        (d.plant.oven n).mass = clampMass s.ground.params f.mass ∧
        (f.phase = some .empty →
          (d.plant.oven n).phase = .empty ∧ (d.plant.oven n).emptySince = some (s.ground.clock - (f.age : Int)) ∧
          (d.plant.oven n).chargeEnd = none ∧ (d.plant.oven n).credit = 0 ∧
          (d.plant.oven n).target = (s.plant.oven n).target ∧
          (d.plant.oven n).dwell = some (s.ground.clock - (f.age : Int) + (s.ground.params.emptyLimit : Int)) ∧
          ((s.plant.oven n).valve.mode = .hold →
            (d.plant.oven n).valve.mode = .isolate ∧ (d.plant.oven n).valve.position = some 0)) ∧
        (f.phase = some .coking →
          (d.plant.oven n).chargeEnd = some (s.ground.clock - (f.age : Int)) ∧
          (d.plant.oven n).credit = f.credit ∧
          (d.plant.oven n).target = creditTarget s.ground.params (clampMass s.ground.params f.mass) f.trim ∧
          (d.plant.oven n).phase =
            (if (d.plant.oven n).target ≤ f.credit ∧ s.ground.params.tMin ≤ f.age then .ready else .coking) ∧
          (d.plant.oven n).accrual = some { since := s.ground.clock, rate := rateOf s.ground n } ∧
          (d.plant.oven n).valve.mode = .regulate))

/-- OVEN SERVICE gives the oven the state asked for; taken out of service it leaves the catch-up list; no other oven and no
other entry changes; while the oven holds a ticket it is refused with STATE. MAINT RANGE on PNL sets or clears the range, each
oven that enters the range leaves the catch-up list, and no oven's record changes; it is refused with AUTH on SUP, with RANGE
for bad bounds, and with STATE for a range that would contain an oven holding a ticket (R7, R10, R11). -/
def Obligations.ServiceAndRangeAreSet : Prop :=
  (∀ (s s₀ : State) (port : Port) (tag : Byte) (n : Nat) (v : Service), working s → mayChange s port n →
    (s.plant.oven n).phase.holdsTicket = false → takes s port tag (.ovenService n (some v)) s₀ →
    ((s.plant.oven n).service = v → calm s →
      exec (.ovenService port tag n (some v)) s = .next (s₀.answer port tag (.ok (.service v)))) ∧
    ((s.plant.oven n).service ≠ v → holdsOven s n → s.plant.ask = none →
      ∃ d : State, exec (.ovenService port tag n (some v)) s =
          .next (d.settled.answer port tag (.ok (.service v))) ∧ d.ground = s.ground ∧
        d.plant.oven n = { s.plant.oven n with service := v } ∧ (∀ k, k ≠ n → d.plant.oven k = s.plant.oven k) ∧
        (d.plant.catchup =
          if v = .outOfService then s.plant.catchup.filter fun e => e.oven ≠ n else s.plant.catchup) ∧
        d.plant = withTraffic d.plant (withOvens d.plant (withCatchup d.plant s.plant)))) ∧
  (∀ (s s₀ : State) (port : Port) (tag : Byte) (n : Nat) (v : Service), working s → mayChange s port n →
    (s.plant.oven n).phase.holdsTicket = true → takes s port tag (.ovenService n (some v)) s₀ →
    exec (.ovenService port tag n (some v)) s = .next (s₀.answer port tag (.refused .state .ticketHeld))) ∧
  ∀ (s s₀ : State) (port : Port) (tag : Byte) (range : Option (Nat × Nat)), started s →
    takes s port tag (.maintRange range) s₀ →
    (port = .sup → exec (.maintRange port tag range) s = .next (s₀.answer port tag (.refused .auth .panelOnly))) ∧
    (port = .pnl → s.ground.configured = true → badRange s.ground range = true →
      exec (.maintRange port tag range) s = .next (s₀.answer port tag (.refused .range .field))) ∧
    (port = .pnl → s.ground.configured = true → badRange s.ground range = false →
      rangeTicketed s.plant range = true →
      exec (.maintRange port tag range) s = .next (s₀.answer port tag (.refused .state .ticketHeld))) ∧
    (port = .pnl → s.ground.configured = true → badRange s.ground range = false →
      rangeTicketed s.plant range = false →
      (∃ t, exec (.maintRange port tag range) s = .next t ∧ t.ground = { s.ground with maint := range }) ∧
      (s.plant.ask = none →
        ∃ d : State, exec (.maintRange port tag range) s = .next (d.settled.answer port tag (.ok .plain)) ∧
          d.ground = { s.ground with maint := range } ∧
          d.plant.catchup =
            (s.plant.catchup.filter fun e => !(d.ground.inRange e.oven && !s.ground.inRange e.oven)) ∧
          d.plant = withTraffic d.plant (withCatchup d.plant s.plant)))

/-- An accepted WALL REPORT stores each reading, clamped to 0 to 1600, at its wall with the time and a new staleness expiry,
changes no other wall and nothing else of what only commands write, and answers how many readings it clamped (R20, R21). A
wall's staleness expiry due drops the expiry, and keeps the wall's reading and every other wall (R22). Either brings each
accruing oven that such a wall bounds up to now at its held rate, once, and then gives it the rate of the walls as they now
stand; another oven of a reported wall has COLD_DATA cleared, and no other oven changes (R21, R22, R25). -/
def Obligations.WallsTakeReadingsAndGoStale : Prop :=
  (∀ (s s₀ : State) (port : Port) (tag : Byte) (first : Nat) (readings : List Int), working s → 1 ≤ first →
     1 ≤ readings.length → readings.length ≤ 16 → first + readings.length ≤ s.ground.count + 2 →
     s.ground.walls.length = s.ground.count + 1 → takes s port tag (.wallReport first readings.length readings) s₀ →
     ∃ d : State, exec (.wallReport port tag first readings.length readings) s =
         .next (d.settled.answer port tag
           (.ok (.clamped (readings.filter fun r => r < 0 || 1600 < r).length))) ∧
       d.ground = { s.ground with walls := d.ground.walls } ∧
       (∀ i r, readings[i]? = some r → d.ground.wall (first + i) =
         { temp := (max 0 (min 1600 r)).toNat
           report := s.ground.clock
           valid := true
           expiry := some (s.ground.clock + (s.ground.params.wallStale : Int) + 1) }) ∧
       (∀ w, w < first ∨ first + readings.length ≤ w → d.ground.wall w = s.ground.wall w) ∧
       (∀ k, holdsOven s k → k ≤ s.ground.count → first ≤ k + 1 → k + 1 ≤ first + readings.length →
         (∀ a, (s.plant.oven k).accrual = some a →
           (d.plant.oven k).credit =
             min maxU32 ((s.plant.oven k).credit + a.rate * (s.ground.clock - a.since).toNat) ∧
           (d.plant.oven k).accrual = some { since := s.ground.clock, rate := rateOf d.ground k }) ∧
         ((s.plant.oven k).accrual = none → d.plant.oven k = { s.plant.oven k with cold := false })) ∧
       (∀ k, k + 1 < first ∨ first + readings.length < k + 1 → d.plant.oven k = s.plant.oven k) ∧
       d.plant = withTraffic d.plant (withOvens d.plant s.plant)) ∧
  (∀ (s : State) (w : Nat) (e : Time), (s.ground.wall w).expiry = some e → e ≤ s.ground.clock → 1 ≤ w →
     w ≤ s.ground.walls.length →
     ∃ d : State, exec (.wallStalenessExpiry w) s = .next d.settled ∧
       d.ground = { s.ground with walls := d.ground.walls } ∧
       d.ground.wall w = { s.ground.wall w with expiry := none } ∧
       (∀ k, k ≠ w → d.ground.wall k = s.ground.wall k) ∧
       (∀ k, k = w ∨ k + 1 = w → holdsOven s k → ∀ a, (s.plant.oven k).accrual = some a →
         (d.plant.oven k).credit =
           min maxU32 ((s.plant.oven k).credit + a.rate * (s.ground.clock - a.since).toNat) ∧
         (d.plant.oven k).accrual = some { since := s.ground.clock, rate := rateOf d.ground k }) ∧
       (∀ k, k ≠ w → k + 1 ≠ w → d.plant.oven k = s.plant.oven k) ∧
       d.plant = withTraffic d.plant (withOvens d.plant s.plant))

/-- LEAK REPORT of a PRESSED door writes its leak level, and DOOR RESET of a DEFECT door makes it HUNG with leak level and
failed press count 0; each answers the door's record, changes no other door and nothing else of what only commands write, and
is refused with STATE for a door in another state (R96, R109). -/
def Obligations.LeakReportAndDoorResetWriteTheDoor : Prop :=
  ∀ (s s₀ : State) (port : Port) (tag : Byte) (n : Nat) (side : Side), working s → mayChange s port n → holdsDoors s n →
    (∀ level, level ≤ 3 → takes s port tag (.leakReport n (some side) level) s₀ →
      ((s.ground.door n side).state = .pressed → (s.ground.door n side).leak = level → calm s →
        exec (.leakReport port tag n (some side) level) s =
          .next (s₀.answer port tag (.ok (.door (s.ground.door n side))))) ∧
      ((s.ground.door n side).state = .pressed → (s.ground.door n side).leak ≠ level →
        ∃ d : State, exec (.leakReport port tag n (some side) level) s =
            .next (d.settled.answer port tag (.ok (.door { s.ground.door n side with leak := level }))) ∧
          d.ground = s.ground.setDoor n side { s.ground.door n side with leak := level } ∧
          ((∀ a, s.plant.ask = some a → a.oven ≠ n) →
            d.plant = withTraffic d.plant (withSides d.plant s.plant))) ∧
      ((s.ground.door n side).state ≠ .pressed →
        exec (.leakReport port tag n (some side) level) s =
          .next (s₀.answer port tag (.refused .state .doorState)))) ∧
    (takes s port tag (.doorReset n (some side)) s₀ →
      ((s.ground.door n side).state = .defect →
        ∃ d : State, exec (.doorReset port tag n (some side)) s =
            .next (d.settled.answer port tag
              (.ok (.door { s.ground.door n side with state := .hung, leak := 0, count := 0 }))) ∧
          d.ground = s.ground.setDoor n side
            { s.ground.door n side with state := .hung, leak := 0, count := 0 } ∧
          ((∀ a, s.plant.ask = some a → a.oven ≠ n) →
            d.plant = withTraffic d.plant (withSides d.plant s.plant))) ∧
      ((s.ground.door n side).state ≠ .defect →
        exec (.doorReset port tag n (some side)) s =
          .next (s₀.answer port tag (.refused .state .doorState))))

/-- The test of a side's service job, when one is taken, starts a job on the head of the side's list if the side is IDLE, its
machine ONLINE and unclaimed, the run state RUNNING, the service window open and no isolated ticket waits, and otherwise
changes nothing (R103). The job takes the machine's claim under T_SERVICE, and begins PRESSING with PRESS where the machine
stands at the spot at rest, or MOVING with MOVE; the entry leaves the list, and the others stay (R104). -/
def Obligations.ServiceJobsStart : Prop :=
  ∀ (g : Ground) (p : Plant) (side : Side),
    let m := sideMachine side
    let q := runTask g (.testJob side) p
    let may : Prop := (p.side side).job = none ∧ (g.mirror m).online = true ∧ p.claim m = .free ∧
      g.runState = .running ∧ windowOpen g p = true ∧ ∀ t ∈ p.tickets, ¬(t.state = .isolating ∧ t.isolated = true)
    (¬may ∨ (p.side side).list = [] → q = p) ∧
    ∀ e rest, may → (p.side side).list = e :: rest →
      let timer := some (g.clock + (g.params.tService : Int))
      (g.atSpot m e.oven = true →
        (q.side side).job =
            some { oven := e.oven, state := .pressing, suspended := false, command := .step .press, timer := timer } ∧
          q.sent = p.sent ++ [(m, ToMachine.step .press e.oven)]) ∧
      (g.atSpot m e.oven = false →
        (q.side side).job =
            some { oven := e.oven, state := .moving, suspended := false, command := .move, timer := timer } ∧
          q.sent = p.sent ++ [(m, ToMachine.move e.oven)]) ∧
      q.claim m = .service ∧ (∀ other, other ≠ m → q.claim other = p.claim other) ∧
      (∀ x ∈ rest, x ∈ (q.side side).list) ∧
      ((∀ x ∈ rest, x.oven ≠ e.oven) → ∀ x ∈ (q.side side).list, x.oven ≠ e.oven) ∧
      (∀ other, other ≠ side → q.side other = p.side other) ∧
      q = withTraffic q (withSides q (withClaims q p))

/-- VALVE of an oven in COKING or READY commands MANUAL at the position given, HOLD at the position it has, or REGULATE at its
position brought into [V_MIN, 1000], and changes nothing else; it is refused with STATE in another phase (R131, R132). -/
def Obligations.ValveCommandsTheMode : Prop :=
  ∀ (s s₀ : State) (port : Port) (tag : Byte) (n : Nat), working s → calm s → mayChange s port n → holdsOven s n →
    ((s.plant.oven n).phase = .coking ∨ (s.plant.oven n).phase = .ready →
      (∀ x, x ≤ 1000 → takes s port tag (.valve n (some (.manual x))) s₀ →
        exec (.valve port tag n (some (.manual x))) s =
          .next (({ s₀ with
              plant := s₀.plant.modValve n fun v => { v with mode := .manual, position := some x } } : State).answer
            port tag (.ok (.valve .manual (some x))))) ∧
      (takes s port tag (.valve n (some .hold)) s₀ →
        exec (.valve port tag n (some .hold)) s =
          .next (({ s₀ with plant := s₀.plant.modValve n fun v => { v with mode := .hold } } : State).answer
            port tag (.ok (.valve .hold (s.plant.oven n).valve.position)))) ∧
      (takes s port tag (.valve n (some .regulate)) s₀ → (s.plant.oven n).valve.mode ≠ .regulate →
        exec (.valve port tag n (some .regulate)) s =
          .next (({ s₀ with
              plant := s₀.plant.modValve n fun v =>
                { v with
                  mode := .regulate
                  position := some (regulatePosition s.ground v.position)
                  confirmed := false } } : State).answer
            port tag (.ok (.valve .regulate
              (some (regulatePosition s.ground (s.plant.oven n).valve.position)))))) ∧
      (takes s port tag (.valve n (some .regulate)) s₀ → (s.plant.oven n).valve.mode = .regulate →
        exec (.valve port tag n (some .regulate)) s =
          .next (s₀.answer port tag (.ok (.valve .regulate (s.plant.oven n).valve.position))))) ∧
    ((s.plant.oven n).phase ≠ .coking → (s.plant.oven n).phase ≠ .ready →
      ∀ form, badValve (some form) = false → takes s port tag (.valve n (some form)) s₀ →
        exec (.valve port tag n (some form)) s = .next (s₀.answer port tag (.refused .state .phase)))

/-! ## The schedule -/

/-- SCHED START sets the scheduler RUNNING and starts an evaluation; SCHED STOP sets it STOPPED, which may open the service
window, and both sides' jobs are then tested, PS before CS as log 46 chooses; CATCHUP CLEAR removes every entry, clears the
latch, answers how many there were, and starts an evaluation if there were any; CURSOR SET moves the cursor to the index
given, answering it with the cursor oven, and is refused with RANGE above N − 1 and with BUSY while a ticket or a charge
record exists. Nothing else changes (R40, R41, R50, R51, R60). The push order of a plan the parameter store accepts holds
each oven number 1 to N once (R39). -/
def Obligations.SchedulerTakesItsRequests : Prop :=
  (∀ (s s₀ : State) (port : Port) (tag : Byte), working s → calm s →
     (takes s port tag .schedStart s₀ →
       exec (.schedStart port tag) s =
         .next ((({ s₀ with
           ground := { s₀.ground with schedRunning := true }
           plant := { s₀.plant with agenda := [.evaluate] } } : State).settled).answer port tag (.ok .plain))) ∧
     (takes s port tag .schedStop s₀ →
       ∃ d : State, exec (.schedStop port tag) s = .next (d.settled.answer port tag (.ok .plain)) ∧
         d.ground = { s.ground with schedRunning := false } ∧
         d.plant = { s₀.plant with
           agenda := if windowOpen s.ground s.plant then [] else [.testJob .ps, .testJob .cs] }) ∧
     (takes s port tag .catchupClear s₀ → s.plant.catchup = [] →
       exec (.catchupClear port tag) s = .next (s₀.answer port tag (.ok (.cleared 0)))) ∧
     (takes s port tag .catchupClear s₀ → s.plant.catchup ≠ [] →
       exec (.catchupClear port tag) s =
         .next ((({ s₀ with plant := { s₀.plant with catchup := [], catchLatch := false, agenda := [.evaluate] } }
           : State).settled).answer port tag (.ok (.cleared s.plant.catchup.length))))) ∧
  (∀ (s s₀ : State) (port : Port) (tag : Byte) (index : Nat), working s → calm s → takes s port tag (.cursorSet index) s₀ →
     (index < s.ground.count → s.plant.tickets = [] → s.plant.charge = none →
       exec (.cursorSet port tag index) s =
         .next (({ s₀ with plant := { s₀.plant with cursor := index } } : State).answer port tag
           (.ok (.cursor index s.ground.order[index]?)))) ∧
     (s.ground.count ≤ index →
       exec (.cursorSet port tag index) s = .next (s₀.answer port tag (.refused .range .field))) ∧
     (index < s.ground.count → s.plant.tickets ≠ [] ∨ s.plant.charge ≠ none →
       exec (.cursorSet port tag index) s = .next (s₀.answer port tag (.refused .busy .quiet)))) ∧
  ∀ (n : Nat) (pl : Plan), planOk pl = true → (pushOrder n pl).Perm (ovenNumbers n)

/-- An evaluation, when one is taken: it does nothing unless all its conditions hold (R51, R52). It then gives a CATCHUP
ticket to the first entry, head to tail, whose oven is eligible, keeping the cursor (R53). With no such entry it goes from
the cursor over ovens passed over without being listed: to an eligible oven, which gets a PLAN ticket, the cursor then
standing after it; to one waited for, where the cursor stays; to one that joins the catch-up list at its tail with SKIP, here
with one waited for next; or, with the list full, to one it cannot join, which holds the cursor, sets the latch and raises
CATCHUP_FULL unless the latch was set. Past all N ovens the cursor is where it was (R45, R47, R54, R55). -/
def Obligations.EvaluationIssuesATicket : Prop :=
  ∀ (g : Ground) (p : Plant),
    let q := runTask g .evaluate p
    (evaluationActs g p = false → q = p) ∧
    (evaluationActs g p = true ↔ g.configured = true ∧ g.schedRunning = true ∧ g.runState = .running ∧
      p.tickets.length < 2 ∧ (∀ t ∈ p.tickets, t.state ≠ .faultHeld) ∧ nextIssue g p ≤ g.clock) ∧
    (evaluationActs g p = true →
      (∀ before e rest c, p.catchup = before ++ e :: rest → (∀ x ∈ before, eligibleCar g p .ready true x.oven = none) →
        eligibleCar g p .ready true e.oven = some c → issued g .catchup e.oven c p q ∧ q.cursor = p.cursor) ∧
      ((∀ x ∈ p.catchup, eligibleCar g p .ready true x.oven = none) → g.order.length = g.count → p.cursor < g.count →
        let index (k : Nat) : Nat := (p.cursor + k) % g.count
        let passes (k : Nat) : Prop := ∀ j, j < k → ∃ n, g.order[index j]? = some n ∧ passedOver g p n
        (passes g.count → q = p) ∧
        ∀ k n, k < g.count → passes k → g.order[index k]? = some n →
          (∀ c, eligibleCar g p .ready true n = some c → issued g .plan n c p q ∧ q.cursor = index (k + 1)) ∧
          (eligibleCar g p .ready true n = none → passReason g p true n = some .wait →
            q = { p with cursor := index k }) ∧
          ∀ r, eligibleCar g p .ready true n = none → passReason g p true n = some r → r ≠ .wait → r ≠ .passOut →
            (∀ e ∈ p.catchup, e.oven ≠ n) →
            (∀ n', p.catchup.length < 8 → k + 1 < g.count → g.order[index (k + 1)]? = some n' →
              eligibleCar g p .ready true n' = none → passReason g p true n' = some .wait →
              q = { raise g (.skip n r .listed (some (index k)))
                  { p with catchup := p.catchup ++ [{ oven := n, reason := r, joined := g.clock }] } with
                cursor := index (k + 1) }) ∧
            (8 ≤ p.catchup.length →
              let full : Plant := { p with cursor := index k, catchLatch := true }
              q = if p.catchLatch then full else raise g (.catchupFull n r) full)))

/-- An accepted PUSH NOW issues a ticket of kind MANUAL, or FORCED for a COKING oven pushed by force from the panel: it joins
the ticket list under the ticket counter, its oven is TICKETED and out of the catch-up list, its car is bound, and it answers
number, kind and car. The force flag on SUP is refused with AUTH; after it a ticket in FAULT_HELD with STATE, a list of two
tickets with BUSY, and an oven that no car makes eligible with STATE, under the details of log 19 (R55, R57, R58, R63). -/
def Obligations.PushNowIssuesATicket : Prop :=
  ∀ (s s₀ : State) (port : Port) (tag : Byte) (n : Nat) (force : Bool), working s → mayChange s port n → holdsOven s n →
    takes s port tag (.pushNow n force) s₀ →
    (∀ c, ¬(port = .sup ∧ force = true) → (∀ t ∈ s.plant.tickets, t.state ≠ .faultHeld) →
      s.plant.tickets.length < 2 → pushCar s.ground s.plant port n force = some c →
      ∃ d : State, exec (.pushNow port tag n force) s =
          .next (d.settled.answer port tag
            (.ok (.issued s.plant.nextTicket (pushKind s.plant n force) c))) ∧
        d.ground = s.ground ∧
        d.plant.tickets =
          s.plant.tickets ++ [newTicket s.ground s.plant.nextTicket n (pushKind s.plant n force) c] ∧
        d.plant.nextTicket = ticketAfter s.plant.nextTicket ∧ (d.plant.oven n).phase = .ticketed ∧
        (d.plant.car c).bound = some s.plant.nextTicket ∧ (∀ e ∈ d.plant.catchup, e.oven ≠ n) ∧
        (∀ k, k ≠ n → d.plant.oven k = s.plant.oven k) ∧ d.plant.log = s.plant.log ∧
        d.plant.car (otherCar c) = s.plant.car (otherCar c) ∧
        d.plant = withTraffic d.plant (withOvens d.plant (withSides d.plant (withTrack d.plant
          (withTickets d.plant (withCatchup d.plant s.plant)))))) ∧
    (port = .sup → force = true →
      exec (.pushNow port tag n force) s = .next (s₀.answer port tag (.refused .auth .force))) ∧
    (¬(port = .sup ∧ force = true) →
      (∀ t ∈ s.plant.tickets, t.state = .faultHeld →
        exec (.pushNow port tag n force) s = .next (s₀.answer port tag (.refused .state .faultHeld))) ∧
      ((∀ t ∈ s.plant.tickets, t.state ≠ .faultHeld) → 2 ≤ s.plant.tickets.length →
        exec (.pushNow port tag n force) s = .next (s₀.answer port tag (.refused .busy .listFull))) ∧
      ((∀ t ∈ s.plant.tickets, t.state ≠ .faultHeld) → s.plant.tickets.length < 2 →
        pushCar s.ground s.plant port n force = none →
        exec (.pushNow port tag n force) s =
          .next (s₀.answer port tag (.refused .state
            (match passReason s.ground s.plant (port = .sup) n with
            | some r => .passing r
            | none => .phase)))))

/-- Isolation of an oven confirmed by its node sets the isolated flag of its ticket in ISOLATING, drops the step timer and
offers the machines to the ticket (R68, R133). The offer, when it is taken, gives the first ticket that may enter ALIGNING
both claims if both are free (R69): it is suspended at once while the run state is not RUNNING; otherwise MOVE is sent to
each machine not at the spot, under T_ALIGN, and with PM, GC and the car all there it goes on to UNDOORING at once: EXTRACT
to both machines, the oven from TICKETED to OPENING, the credit written to the ticket, under T_DOOR (R70, R71). With PM or GC
OFFLINE the ticket is aborted early at once, for PM first (R77, R166; log 37). -/
def Obligations.IsolationLeadsToUndooring : Prop :=
  (∀ (s : State) (t : Ticket) (x : Poll) (then? : Option Nat) (pressure : Int) (position : Nat), isTicket s t → calm s →
    t.state = .isolating → t.isolated = false → s.ground.poll = some x → x.address = t.oven →
    isPlantNode t.oven = false → x.carried = .oven .isolate then? → (s.ground.node t.oven).online = true →
    (s.plant.oven t.oven).valve.mode = .isolate → (s.plant.oven t.oven).valve.confirmed = false →
    min 1000 position ≤ s.ground.params.isoTol →
    ∃ d : State, exec (.otlReply t.oven (.valve pressure position false)) s = .next d.settled ∧
      d.plant.ticket? t.number = some { t with
        isolated := true, timer := none, waits := { t.waits with offtake := .complete } } ∧
      d.plant.agenda = [.offerTicket] ∧ (holdsOven s t.oven → (d.plant.oven t.oven).valve.confirmed = true) ∧
      (∀ k, k ≠ t.oven → d.plant.oven k = s.plant.oven k) ∧ d.plant.log = s.plant.log ∧
      d.plant = withTraffic d.plant (withOvens d.plant (withTickets d.plant s.plant))) ∧
  ∀ (g : Ground) (p : Plant),
    let q := runTask g .offerTicket p
    (¬(p.claimPm = .free ∧ p.claimGc = .free) ∨ (∀ t ∈ p.tickets, mayAlign p t = false) → q = p) ∧
    (∀ t, mayAlign p t = true ↔ t.state = .isolating ∧ t.isolated = true ∧
      ∀ o ∈ p.tickets, o.number ≠ t.number → atWork o.state = false) ∧
    ∀ t, p.claimPm = .free → p.claimGc = .free → p.tickets.find? (mayAlign p) = some t → p.ticket? t.number = some t →
      (g.pm.online = true → g.gc.online = true →
        let w := alignWaits g p t
        q.claimPm = .ticket t.number ∧ q.claimGc = .ticket t.number ∧ q.log = p.log ∧
        (∀ k, k ≠ t.oven → q.oven k = p.oven k) ∧
        q = withTraffic q (withOvens q (withClaims q (withTickets q p))) ∧
        (g.running = false →
          q.ticket? t.number = some { t with
            state := .aligning, waits := w, entry := g.clock, timer := none, suspended := true } ∧
          q.sent = p.sent ∧ q.ovens = p.ovens) ∧
        (g.running = true → w.empty = false →
          q.ticket? t.number = some { t with
            state := .aligning
            waits := w
            entry := g.clock
            timer := some (g.clock + (g.params.tAlign : Int))
            suspended := false } ∧
          q.sent = p.sent ++ (if g.atSpot .pm t.oven then [] else [(Machine.pm, ToMachine.move t.oven)]) ++
            (if g.atSpot .gc t.oven then [] else [(Machine.gc, ToMachine.move t.oven)]) ∧ q.ovens = p.ovens) ∧
        (g.running = true → w.empty = true →
          q.ticket? t.number = some { t with
            state := .undooring
            waits := { Waits.none with pm := .waiting (.step .extract), gc := .waiting (.step .extract) }
            entry := g.clock
            timer := some (g.clock + (g.params.tDoor : Int))
            suspended := false
            extractSent := true
            credit := some (q.oven t.oven).credit } ∧
          q.sent = p.sent ++ [(Machine.pm, ToMachine.step .extract t.oven), (Machine.gc, ToMachine.step .extract t.oven)] ∧
          (1 ≤ t.oven → t.oven ≤ p.ovens.length → (p.oven t.oven).phase = .ticketed →
            (q.oven t.oven).phase = .opening))) ∧
      (∀ m, t.extractSent = false →
        (m = .pm ∧ g.pm.online = false) ∨ (m = .gc ∧ g.pm.online = true ∧ g.gc.online = false) →
        q.tickets = (p.tickets.filter fun x => x.number ≠ t.number) ∧ q.claimPm = .free ∧ q.claimGc = .free ∧
        (∃ r, q.log = (r :: p.log).take 64 ∧ r.ticket = t.number ∧ r.oven = t.oven ∧ r.outcome = .aborted ∧
          r.reason = some (.offline m)) ∧
        (∀ k, k ≠ t.oven → q.oven k = p.oven k) ∧
        q = withTraffic q (withOvens q (withSides q (withTrack q (withClaims q (withTickets q (withCatchup q p)))))))

/-! ## The push sequence -/

/-- An accepted TICKET CANCEL of a ticket in ISOLATING or ALIGNING takes it out of the list, writes it to the log as CANCELLED,
returns its oven from TICKETED to READY or COKING, and frees the claims it held; in another state it is refused with STATE, as
is a number that no ticket has (R84). -/
def Obligations.TicketCancelRetiresTheTicket : Prop :=
  ∀ (s s₀ : State) (port : Port) (tag : Byte) (num : Nat), working s → num ≠ 0 →
    takes s port tag (.ticketCancel num) s₀ →
    (∀ t, s.plant.ticket? num = some t → t.state.early = true → ¬(port = .sup ∧ s.ground.inRange t.oven = true) →
      ∃ (d : State) (reply : OkData), exec (.ticketCancel port tag num) s = .next (d.settled.answer port tag (.ok reply)) ∧
        d.ground = s.ground ∧ d.plant.tickets = (s.plant.tickets.filter fun x => x.number ≠ num) ∧
        (∃ r, d.plant.log = (r :: s.plant.log).take 64 ∧ r.ticket = t.number ∧ r.oven = t.oven ∧
          r.outcome = .cancelled ∧ r.reason = some .cancelRequest ∧ r.retireTime = s.ground.clock) ∧
        (holdsOven s t.oven → (s.plant.oven t.oven).phase = .ticketed →
          (d.plant.oven t.oven).phase = .ready ∨ (d.plant.oven t.oven).phase = .coking) ∧
        (s.plant.claimPm = .ticket num → d.plant.claimPm = .free ∧ d.plant.claimGc = .free) ∧
        (∀ k, k ≠ t.oven → d.plant.oven k = s.plant.oven k) ∧ d.plant.nextTicket = s.plant.nextTicket ∧
        d.plant = withTraffic d.plant (withOvens d.plant (withSides d.plant (withTrack d.plant
          (withClaims d.plant (withTickets d.plant s.plant)))))) ∧
    (s.plant.ticket? num = none →
      exec (.ticketCancel port tag num) s = .next (s₀.answer port tag (.refused .state .ticketUnknown))) ∧
    (∀ t, s.plant.ticket? num = some t → t.state.early = false → ¬(port = .sup ∧ s.ground.inRange t.oven = true) →
      exec (.ticketCancel port tag num) s = .next (s₀.answer port tag (.refused .state .ticketState)))

/-- An accepted RELEASE of a FAULT_HELD ticket takes it out of the list, writes it to the log with the outcome asked for, makes
both its doors HUNG and no other, frees both claims, and, with no ask pending, takes its oven from PUSH_FAULT to EMPTY, or to
READY or COKING (R82, R83). -/
def Obligations.ReleaseRetiresTheHeldTicket : Prop :=
  ∀ (s s₀ : State) (port : Port) (tag : Byte) (num : Nat) (outcome : ReleaseOutcome) (t : Ticket), working s → num ≠ 0 →
    takes s port tag (.release num (some outcome)) s₀ → s.plant.ticket? num = some t →
    ¬(port = .sup ∧ s.ground.inRange t.oven = true) →
    (t.state = .faultHeld → holdsDoors s t.oven →
      ∃ (d : State) (reply : OkData), exec (.release port tag num (some outcome)) s =
          .next (d.settled.answer port tag (.ok reply)) ∧
        d.plant.tickets = (s.plant.tickets.filter fun x => x.number ≠ num) ∧
        (∃ r, d.plant.log = (r :: s.plant.log).take 64 ∧ r.ticket = t.number ∧ r.oven = t.oven ∧
          r.reason = t.reason ∧
          r.outcome = if outcome = .clearedFull then .releasedFull else .releasedEmpty) ∧
        (∀ side, (d.ground.door t.oven side).state = .hung) ∧
        (∀ k side, k ≠ t.oven → d.ground.door k side = s.ground.door k side) ∧
        d.plant.claimPm = .free ∧ d.plant.claimGc = .free ∧
        (s.plant.ask = none →
          d.plant = withTraffic d.plant (withOvens d.plant (withSides d.plant
            (withClaims d.plant (withTickets d.plant s.plant))))) ∧
        (s.plant.ask = none → holdsOven s t.oven → (s.plant.oven t.oven).phase = .pushFault →
          (outcome = .clearedEmpty → (d.plant.oven t.oven).phase = .empty) ∧
          (outcome = .clearedFull →
            (d.plant.oven t.oven).phase = .ready ∨ (d.plant.oven t.oven).phase = .coking))) ∧
    (t.state ≠ .faultHeld →
      exec (.release port tag num (some outcome)) s = .next (s₀.answer port tag (.refused .state .ticketState)))

/-- LOG READ is answered in every state after STARTING with the number of records held and the record at the index, or an
absent one, and changes nothing; an index above 63 is refused with RANGE; a retirement moves every record one index older
(R90). -/
def Obligations.LogReadAnswersTheRing : Prop :=
  (∀ (s s₀ : State) (port : Port) (tag : Byte) (index : Nat), started s → calm s →
    takes s port tag (.logRead index) s₀ →
    (index ≤ 63 → exec (.logRead port tag index) s =
      .next (s₀.answer port tag (.ok (.log s.plant.log.length s.plant.log[index]?)))) ∧
    (63 < index → exec (.logRead port tag index) s = .next (s₀.answer port tag (.refused .range .field)))) ∧
  ∀ (p : Plant) (r : LogRecord), (writeLog r p).log[0]? = some r ∧
    ∀ k, k < 63 → (writeLog r p).log[k + 1]? = p.log[k]?

/-- EXTRACT DONE of PM or GC makes its side's door REMOVED when the oven's ticket has sent EXTRACT or the oven is EMPTY, and is
otherwise a stray that changes no door; REPLACE DONE makes a REMOVED door HUNG; a door in UNKNOWN, or for REPLACE in any other
state, stays as it is. Nothing else of what only commands write changes but by contact with the machine; of the rest, with no
ticket of the oven and no ask for it, traffic and service lists at most (R93, R94). The EXTRACT DONE that is the last completion
of UNDOORING takes the ticket to GUIDING under T_GUIDE: GUIDE LOCK goes to GC, and RECEIVE to the bound car that stands in
AT_OVEN (R71, R72, R154). -/
def Obligations.DoorDonesWriteTheDoor : Prop :=
  ∀ (s : State) (m : Machine) (n : Nat), started s → m = .pm ∨ m = .gc →
    let side := machineSide m
    let d := s.ground.door n side
    let h := (heard s m).plant
    let unticketed (t : State) : Prop :=
      h.ticketOf? n = none → (∀ a, h.ask = some a → a.oven ≠ n) → t.plant = withTraffic t.plant (withSides t.plant h)
    (d.state ≠ .unknown → d.state ≠ .removed → mayExtract (heard s m).plant n = true →
      ∃ t : State, exec (.extractDone m n) s = .next t.settled ∧
        t.ground = (heard s m).ground.setDoor n side { d with state := .removed, leak := 0 } ∧ unticketed t) ∧
    (d.state = .unknown ∨ d.state = .removed ∨ mayExtract (heard s m).plant n = false →
      ∃ t : State, exec (.extractDone m n) s = .next t.settled ∧ t.ground = (heard s m).ground ∧ unticketed t) ∧
    (d.state = .removed →
      ∃ t : State, exec (.replaceDone m n) s = .next t.settled ∧
        t.ground = (heard s m).ground.setDoor n side { d with state := .hung, leak := 0 } ∧ unticketed t) ∧
    (d.state ≠ .removed →
      ∃ t : State, exec (.replaceDone m n) s = .next t.settled ∧ t.ground = (heard s m).ground ∧ unticketed t) ∧
    ∀ t, isTicket s t → t.oven = n → t.state = .undooring → t.suspended = false → (s.ground.mirror m).online = true →
      t.waits.machine m = .waiting (.step .extract) → (t.waits.setMachine m .complete).empty = true →
      (∀ a, s.plant.ask = some a → a.oven ≠ n) →
      ∃ e : State, exec (.extractDone m n) s = .next e.settled ∧
        e.plant.ticket? t.number = some { t with
          state := .guiding
          waits := { Waits.none with gc := .waiting (.step .guideLock), car := .waiting (.step .receive) }
          entry := s.ground.clock
          timer := some (s.ground.clock + (s.ground.params.tGuide : Int)) } ∧
        e.plant.sent = [(Machine.gc, ToMachine.step .guideLock n)] ++
          ((t.car.filter fun c => (s.plant.car c).state = .atOven).map fun c =>
            (carMachine c, ToMachine.step .receive n)).toList ∧
        e.plant = withTraffic e.plant (withSides e.plant (withTickets e.plant s.plant))

/-- PRESS DONE of PM or GC on a door HUNG, PRESSED or PRESS_FAULT: a force, taken as at most 400, within the press band makes
it PRESSED with leak level and count 0; outside the band it becomes PRESS_FAULT with the count as it was when a ticket's
CLOSING asked for the press (as log 13 reads it), and otherwise with the count one higher, or DEFECT when that reaches
REPRESS_TRIES. A door in another state stays as it is. Of the rest, with no ticket of the oven, no ask for it and no job on it,
traffic and service lists change at most (R93, R95). -/
def Obligations.PressDoneJudgesTheDoor : Prop :=
  ∀ (s : State) (m : Machine) (n force : Nat), started s → m = .pm ∨ m = .gc →
    let side := machineSide m
    let d := s.ground.door n side
    let q := s.ground.params
    let h := (heard s m).plant
    let unserved (t : State) : Prop :=
      h.ticketOf? n = none → (∀ a, h.ask = some a → a.oven ≠ n) → (∀ j, (h.side side).job = some j → j.oven ≠ n) →
        t.plant = withTraffic t.plant (withSides t.plant h)
    let closing := answersClosingPress (heard s m).plant n side
    let count := min q.repressTries (d.count + 1)
    (d.state = .hung ∨ d.state = .pressed ∨ d.state = .pressFault →
      ∃ t : State, exec (.pressDone m n force) s = .next t.settled ∧ unserved t ∧
        t.ground = (heard s m).ground.setDoor n side
          (if q.pressLo ≤ min 400 force ∧ min 400 force ≤ q.pressHi then
            { state := .pressed, leak := 0, force := min 400 force, count := 0 }
          else if closing = true then
            { state := .pressFault, leak := 0, force := min 400 force, count := d.count }
          else if count = q.repressTries then
            { state := .defect, leak := 0, force := min 400 force, count := count }
          else { state := .pressFault, leak := 0, force := min 400 force, count := count })) ∧
    (d.state = .unknown ∨ d.state = .removed ∨ d.state = .defect →
      ∃ t : State, exec (.pressDone m n force) s = .next t.settled ∧ t.ground = (heard s m).ground ∧ unserved t)

/-- GUIDE LOCK, GUIDE RELEASE and RAM RETURN DONE, from the machine that performs them and is ONLINE, matching the command a
ticket waits for, while the ticket still waits for another completion: the ticket's wait is recorded, or, in CLOSING, the
side's next command sent, and nothing else changes (R66, R74, R86; log 13). The GUIDE LOCK DONE that is the last completion of
GUIDING begins PUSHING, or the wait for the pacing (R72, R73). A GUIDE LOCK or GUIDE RELEASE DONE from a machine other than GC,
which does not perform the operation, is contact and no more (log 30). -/
def Obligations.DonesAreRecordedByTheTicket : Prop :=
  ∀ (s : State) (t : Ticket), started s → calm s → isTicket s t →
    (∀ m op, t.waits.machine m = .waiting (.step op) → (s.ground.mirror m).online = true →
      (t.waits.setMachine m (waitAfter t op)).empty = false →
      let t' : State := (heard s m).work fun _ p =>
        let p := p.modTicket t.number fun x => { x with waits := x.waits.setMachine m (waitAfter t op) }
        match waitAfter t op with
        | .waiting (.step next) => sendStep m next t.oven p
        | _ => p
      (m = .gc → op = .guideLock → exec (.guideLockDone m t.oven) s = .next t') ∧
      (m = .gc → op = .guideRelease → exec (.guideReleaseDone m t.oven) s = .next t') ∧
      (m = .pm → op = .ramReturn → exec (.ramReturnDone m t.oven) s = .next t')) ∧
    (t.state = .guiding → (s.ground.mirror .gc).online = true → t.waits.gc = .waiting (.step .guideLock) →
      ({ t.waits with gc := .complete } : Waits).empty = true →
      ∃ d : State, exec (.guideLockDone .gc t.oven) s = .next d.settled ∧ d.ground = (heard s .gc).ground ∧
        guidingEnded s.ground t s.plant d.plant ∧ (∀ k, k ≠ t.oven → d.plant.oven k = s.plant.oven k) ∧
        d.plant.log = s.plant.log ∧
        d.plant = withTraffic d.plant (withOvens d.plant (withSides d.plant (withTickets d.plant
          (withPacing d.plant s.plant))))) ∧
    ∀ m, m ≠ .gc → exec (.guideLockDone m t.oven) s = .next (heard s m).settled ∧
      exec (.guideReleaseDone m t.oven) s = .next (heard s m).settled

/-- RAM ADVANCE DONE from PM, ONLINE, for the ticket that waits for it writes the ram peak load to the ticket and judges it: a
load above HARD_LOAD raises the oven's trim by TRIM_STEP up to 1250 and its hard-push run by one up to 255; another sets the
run to 0. As the last completion of PUSHING it takes the ticket to CLOSING: RAM RETURN and GUIDE RELEASE are sent, and the
oven goes from PUSHING to CLOSING (R35, R73, R74). -/
def Obligations.RamAdvanceDoneJudgesTheLoad : Prop :=
  ∀ (s : State) (t : Ticket) (load : Nat), started s → isTicket s t → holdsOven s t.oven → s.ground.pm.online = true →
    t.waits.pm = .waiting (.step .ramAdvance) → t.state = .pushing →
    ∃ d : State, exec (.ramAdvanceDone .pm t.oven load) s = .next d.settled ∧ d.ground = (heard s .pm).ground ∧
      (d.plant.ticket? t.number).map (fun x => x.ram) = some (some load) ∧
      (d.plant.oven t.oven).trim =
        (if s.ground.params.hardLoad < load then min 1250 ((s.plant.oven t.oven).trim + s.ground.params.trimStep)
        else (s.plant.oven t.oven).trim) ∧
      (d.plant.oven t.oven).hardRun =
        (if s.ground.params.hardLoad < load then min 255 ((s.plant.oven t.oven).hardRun + 1) else 0) ∧
      (t.suspended = false → t.waits.offtake = .complete → t.waits.gc = .complete → t.waits.car = .complete →
        (d.plant.ticket? t.number).map (fun x => x.state) = some .closing ∧
        (Machine.pm, ToMachine.step .ramReturn t.oven) ∈ d.plant.sent ∧
        (Machine.gc, ToMachine.step .guideRelease t.oven) ∈ d.plant.sent ∧
        ((s.plant.oven t.oven).phase = .pushing → (d.plant.oven t.oven).phase = .closing)) ∧
      (¬(t.suspended = false ∧ t.waits.offtake = .complete ∧ t.waits.gc = .complete ∧ t.waits.car = .complete) →
        (d.plant.ticket? t.number).map (fun x => x.state) = some .pushing ∧
        (d.plant.oven t.oven).phase = (s.plant.oven t.oven).phase ∧
        d.plant = withTraffic d.plant (withOvens d.plant (withTickets d.plant s.plant))) ∧
      (∀ k, k ≠ t.oven → d.plant.oven k = s.plant.oven k) ∧ d.plant.log = s.plant.log ∧
      d.plant = withTraffic d.plant (withOvens d.plant (withSides d.plant (withTrack d.plant
        (withTickets d.plant s.plant))))

/-- The PRESS DONE that is the last completion of a ticket in CLOSING retires it COMPLETE: it leaves the list, its record is
the newest of the log, its oven goes from CLOSING to EMPTY with credit 0 and its dwell begun, its car is no longer bound, and
PM and GC are free (R74, R75). Among the follow-up events, which stand in the order of their kinds, are the offer to a ticket
that waits, then the re-check of the ask, then the tests of both sides' jobs, and last an evaluation (R51, R69, R103, R167;
log 3). -/
def Obligations.ClosingRetiresTheTicket : Prop :=
  ∀ (s : State) (t : Ticket) (m : Machine) (force : Nat), started s → isTicket s t → t.state = .closing →
    t.suspended = false → m = .pm ∨ m = .gc → (s.ground.mirror m).online = true →
    t.waits.machine m = .waiting (.step .press) → (t.waits.setMachine m .complete).empty = true →
    (∀ a, s.plant.ask = some a → a.oven ≠ t.oven) →
    ∃ d : State, exec (.pressDone m t.oven force) s = .next d.settled ∧
      d.plant.tickets = (s.plant.tickets.filter fun x => x.number ≠ t.number) ∧
      (∃ r, d.plant.log = (r :: s.plant.log).take 64 ∧ r.ticket = t.number ∧ r.oven = t.oven ∧ r.kind = t.kind ∧
        r.outcome = .complete ∧ r.reason = none ∧ r.retireTime = s.ground.clock ∧ r.ram = t.ram ∧ r.credit = t.credit) ∧
      (holdsOven s t.oven → (s.plant.oven t.oven).phase = .closing →
        (d.plant.oven t.oven).phase = .empty ∧ (d.plant.oven t.oven).credit = 0 ∧
        (d.plant.oven t.oven).chargeEnd = none ∧ (d.plant.oven t.oven).emptySince = some s.ground.clock ∧
        (d.plant.oven t.oven).dwell = some (s.ground.clock + (s.ground.params.emptyLimit : Int)) ∧
        (d.plant.oven t.oven).valve = (s.plant.oven t.oven).valve) ∧
      (∀ c, t.car = some c → (d.plant.car c).bound = none ∧
        d.plant.car (otherCar c) = s.plant.car (otherCar c)) ∧
      d.plant.claimPm = .free ∧ d.plant.claimGc = .free ∧
      (∀ k, k ≠ t.oven → d.plant.oven k = s.plant.oven k) ∧
      (∀ task ∈ [Task.offerTicket, .recheckAsk, .testJob .ps, .testJob .cs, .evaluate], task ∈ d.plant.agenda) ∧
      (calm s → d.plant.agenda.Pairwise fun x y => x.rank ≤ y.rank) ∧
      d.plant = withTraffic d.plant (withOvens d.plant (withSides d.plant (withTrack d.plant (withClaims d.plant
        (withTickets d.plant s.plant)))))

/-- A pacing wait reached takes a ticket in GUIDING that is not suspended into PUSHING: its push start and the last push start
are now, its timer is T_RAM from now, RAM ADVANCE goes to PM, and the oven goes from OPENING to PUSHING (R42, R72, R73). -/
def Obligations.PacingWaitBeginsThePush : Prop :=
  ∀ (s : State) (t : Ticket) (w : Time), isTicket s t → holdsOven s t.oven → t.state = .guiding → t.suspended = false →
    t.pacingWait = some w → w ≤ s.ground.clock →
    ∃ d : State, exec (.pacingWaitReached t.number) s = .next d.settled ∧ d.ground = s.ground ∧
      d.plant.ticket? t.number = some { t with
        state := .pushing
        waits := { Waits.none with pm := .waiting (.step .ramAdvance), car := .waiting .load }
        entry := s.ground.clock
        timer := some (s.ground.clock + (s.ground.params.tRam : Int))
        pushStart := some s.ground.clock
        pacingWait := none } ∧
      d.plant.lastPushStart = some s.ground.clock ∧
      (Machine.pm, ToMachine.step .ramAdvance t.oven) ∈ d.plant.sent ∧
      ((s.plant.oven t.oven).phase = .opening → (d.plant.oven t.oven).phase = .pushing) ∧
      (∀ k, k ≠ t.oven → d.plant.oven k = s.plant.oven k) ∧ d.plant.log = s.plant.log ∧
      d.plant = withTraffic d.plant (withOvens d.plant (withSides d.plant (withTickets d.plant
        (withPacing d.plant s.plant))))

/-- A step timer due aborts its ticket: with no EXTRACT sent the ticket leaves the list and is logged ABORTED for TIMEOUT,
its oven returns from TICKETED to READY or COKING by the readiness test, accruing and with REGULATE commanded, its car is
bound no more, its claims are freed and PM and GC sent STOP, and the oven goes to the head of the catch-up list unless it is
in the maintenance range or listed already, a full list losing its tail entry (R27, R30, R48, R78); with EXTRACT sent it is
FAULT_HELD with its timer, waits and car gone, STOP goes to PM and GC, and its oven goes from OPENING, PUSHING or CLOSING to
PUSH_FAULT (R67, R77 to R79). -/
def Obligations.StepTimerAbortsTheTicket : Prop :=
  ∀ (s : State) (t : Ticket) (e : Time), isTicket s t → t.timer = some e → e ≤ s.ground.clock → t.state ≠ .faultHeld →
    ∃ d : State, exec (.stepTimerExpiry t.number) s = .next d.settled ∧ d.ground = s.ground ∧
      (t.extractSent = false →
        d.plant.tickets = (s.plant.tickets.filter fun x => x.number ≠ t.number) ∧
        (∃ r, d.plant.log = (r :: s.plant.log).take 64 ∧ r.ticket = t.number ∧ r.outcome = .aborted ∧
          r.reason = some (.timeout t.state t.waits.outstanding)) ∧
        (holdsOven s t.oven → (s.plant.oven t.oven).phase = .ticketed →
          let o := d.plant.oven t.oven
          o.phase = (if o.target ≤ o.credit ∧
            (s.ground.params.tMin : Int) ≤ s.ground.clock - (s.plant.oven t.oven).chargeEnd.getD 0 then .ready else .coking) ∧
          o.target = (s.plant.oven t.oven).target ∧ o.chargeEnd = (s.plant.oven t.oven).chargeEnd ∧
          (∀ a, (s.plant.oven t.oven).accrual = some a →
            o.credit = min maxU32 ((s.plant.oven t.oven).credit + a.rate * (s.ground.clock - a.since).toNat)) ∧
          o.accrual = some { since := s.ground.clock, rate := rateOf s.ground t.oven } ∧ o.valve.mode = .regulate) ∧
        (∀ c, t.car = some c → (d.plant.car c).bound = none ∧
          d.plant.car (otherCar c) = s.plant.car (otherCar c)) ∧
        (s.plant.claimPm = .ticket t.number →
          d.plant.claimPm = .free ∧ d.plant.claimGc = .free ∧ (Machine.pm, ToMachine.stop) ∈ d.plant.sent ∧
            (Machine.gc, ToMachine.stop) ∈ d.plant.sent) ∧
        (s.plant.claimPm ≠ .ticket t.number →
          d.plant.claimPm = s.plant.claimPm ∧ d.plant.claimGc = s.plant.claimGc) ∧
        d.plant.cursor = s.plant.cursor ∧ d.plant.catchLatch = s.plant.catchLatch ∧
        d.plant.catchup =
          if s.ground.inRange t.oven = true ∨ (∃ e ∈ s.plant.catchup, e.oven = t.oven) then s.plant.catchup
          else { oven := t.oven, reason := .aborted, joined := s.ground.clock } ::
            (if 8 ≤ s.plant.catchup.length then s.plant.catchup.dropLast else s.plant.catchup)) ∧
      (t.extractSent = true →
        (d.plant.ticket? t.number).map (fun x => (x.state, x.timer, x.waits, x.car)) =
          some (.faultHeld, none, Waits.none, none) ∧
        (Machine.pm, ToMachine.stop) ∈ d.plant.sent ∧ (Machine.gc, ToMachine.stop) ∈ d.plant.sent ∧
        (holdsOven s t.oven →
          (s.plant.oven t.oven).phase = .opening ∨ (s.plant.oven t.oven).phase = .pushing ∨
            (s.plant.oven t.oven).phase = .closing →
          (d.plant.oven t.oven).phase = .pushFault) ∧
        d.plant.log = s.plant.log ∧ d.plant.claimPm = s.plant.claimPm ∧ d.plant.claimGc = s.plant.claimGc ∧
        d.plant.catchup = s.plant.catchup) ∧
      (∀ k, k ≠ t.oven → d.plant.oven k = s.plant.oven k) ∧
      d.plant = withTraffic d.plant (withOvens d.plant (withSides d.plant (withTrack d.plant (withClaims d.plant
        (withTickets d.plant (withCatchup d.plant s.plant))))))

/-! ## Timers -/

/-- The overdue, empty dwell and hot dwell timers each raise their notice once and are dropped, the first two setting the flag
that keeps them from being set again; the quench timer turns the spray command of the car's tower off; the pacing timer
starts an evaluation. Nothing else changes (R34, R42, R120, R155, R159). -/
def Obligations.DueTimersReportOnce : Prop :=
  ∀ s : State, calm s →
    (∀ n t, (s.plant.oven n).overdue = some t → t ≤ s.ground.clock →
      exec (.overdueTimerExpiry n) s =
        .next (({ s.opened with
          plant := s.opened.plant.modOven n fun o => { o with overdue := none, overdueSent := true } } : State).raise
            (.overdue n (s.plant.oven n).phase (netCoking s.ground (s.plant.oven n)) (s.plant.oven n).credit))) ∧
    (∀ n t since, (s.plant.oven n).dwell = some t → (s.plant.oven n).emptySince = some since → t ≤ s.ground.clock →
      exec (.emptyDwellExpiry n) s =
        .next (({ s.opened with
          plant := s.opened.plant.modOven n fun o => { o with dwell := none, emptyLongSent := true } } : State).raise
            (.emptyLong n since (s.ground.clock - since) (s.ground.door n .ps).state (s.ground.door n .cs).state
              (s.plant.oven n).service (dwellReason s.ground s.plant n)))) ∧
    (∀ c t, (s.plant.car c).hot = some t → t ≤ s.ground.clock →
      exec (.hotDwellExpiry c) s =
        .next (({ s.opened with plant := s.opened.plant.modCar c fun r => { r with hot := none } } : State).raise
          (.hotDwell c (towerSpot s.ground c) (s.plant.car c).state (s.ground.clock - (s.plant.car c).loading.getD 0)))) ∧
    (∀ c t, (s.plant.car c).quench = some t → t ≤ s.ground.clock →
      exec (.quenchTimerExpiry c) s =
        .next { s.opened with
          plant := (s.opened.plant.modCar c fun r => { r with quench := none }).setSpray c false }) ∧
    ∀ t, s.plant.pacing = some t → t ≤ s.ground.clock →
      exec .pacingTimerExpiry s =
        .next ({ s.opened with plant := { s.opened.plant with pacing := none, agenda := [.evaluate] } } : State).settled

/-- A readiness expiry due brings the oven's credit up to now, and makes it READY when credit and net coking time reach the
target and T_MIN; otherwise it stays in COKING (R30, R32). -/
def Obligations.ReadinessExpiryTestsTheOven : Prop :=
  ∀ (s : State) (n : Nat) (e : Time) (a : Accrual), holdsOven s n → (s.plant.oven n).phase = .coking →
    (s.plant.oven n).readiness = some e → e ≤ s.ground.clock → (s.plant.oven n).accrual = some a →
    let credit := min maxU32 ((s.plant.oven n).credit + a.rate * (s.ground.clock - a.since).toNat)
    ∃ d : State, exec (.readinessExpiry n) s = .next d.settled ∧ d.ground = s.ground ∧
      (d.plant.oven n).credit = credit ∧
      (d.plant.oven n).phase =
        (if (s.plant.oven n).target ≤ credit ∧
            (s.ground.params.tMin : Int) ≤ s.ground.clock - (s.plant.oven n).chargeEnd.getD 0
        then .ready else .coking) ∧
      (∀ k, k ≠ n → d.plant.oven k = s.plant.oven k) ∧
      d.plant = withTraffic d.plant (withOvens d.plant (withSides d.plant s.plant))

/-- A service job's timer due abandons the job: the side is IDLE, STOP goes to its machine, whose claim is free, and no door
changes (R106). The charge timer due ends the charge with M_NOM, unconfirmed: the oven goes from CHARGING to COKING with its
target and charge end, and PM is free (R118). -/
def Obligations.WorkTimersEndTheWork : Prop :=
  (∀ (s : State) (side : Side) (j : Job) (t : Time), (s.plant.side side).job = some j → j.timer = some t →
    t ≤ s.ground.clock →
    ∃ d : State, exec (.serviceTimerExpiry side) s = .next d.settled ∧ d.ground = s.ground ∧
      (d.plant.side side).job = none ∧ (sideMachine side, ToMachine.stop) ∈ d.plant.sent ∧
      d.plant.claim (sideMachine side) = .free ∧
      d.plant = withTraffic d.plant (withSides d.plant (withClaims d.plant s.plant))) ∧
  ∀ (s : State) (c : Charge) (t : Time), s.plant.charge = some c → c.timer = some t → t ≤ s.ground.clock →
    holdsOven s c.oven → (s.plant.oven c.oven).phase = .charging →
    ∃ d : State, exec .chargeTimerExpiry s = .next d.settled ∧ d.ground = s.ground ∧ d.plant.charge = none ∧
      (d.plant.oven c.oven).phase = .coking ∧ (d.plant.oven c.oven).unconfirmed = true ∧
      (d.plant.oven c.oven).mass = clampMass s.ground.params s.ground.params.mNom ∧
      (d.plant.oven c.oven).target =
        creditTarget s.ground.params (clampMass s.ground.params s.ground.params.mNom) (s.plant.oven c.oven).trim ∧
      (d.plant.oven c.oven).chargeEnd = some s.ground.clock ∧ (d.plant.oven c.oven).credit = 0 ∧
      d.plant.claimPm = .free ∧ (∀ k, k ≠ c.oven → d.plant.oven k = s.plant.oven k) ∧ d.plant.ask = s.plant.ask ∧
      d.plant = withTraffic d.plant (withOvens d.plant (withSides d.plant (withClaims d.plant
        (withCharge d.plant s.plant))))

/-! ## Charging -/

/-- A CHARGE ASK with none pending is answered with the first row of R111's table that holds: a NO changes nothing but the
answer; a WAIT makes it the pending ask; with nothing in the way and PM not at the oven's spot at rest, PM is claimed for it and
sent MOVE, and the ask pends PREPARING; with PM there the charge begins: the charge record, the oven CHARGING, its valve
ASPIRATE fully open from ISOLATE, PM's claim CHARGE, GO to CC and LEVEL to PM (R111, R113, R115). -/
def Obligations.ChargeAskIsAnswered : Prop :=
  ∀ (s : State) (n : Nat), started s → s.plant.ask = none →
    let h := heard s .cc
    (∀ r, askAnswer h.ground h.plant n = .no r → calm s →
      exec (.chargeAsk n) s = .next { h with plant := send .cc (.chargeNo r) h.plant }) ∧
    (∀ r, askAnswer h.ground h.plant n = .wait r → calm s →
      exec (.chargeAsk n) s =
        .next { h with
          plant := send .cc (.chargeWait r)
            { h.plant with ask := some { oven := n, since := s.ground.clock, reason := r, claimed := false } } }) ∧
    askAnswer h.ground h.plant n =
      (if s.ground.params.ovenCount = none then .no .unconfigured
      else if n = 0 ∨ s.ground.count < n then .no .range
      else if s.plant.charge ≠ none then .no .chargeActive
      else if (s.plant.oven n).phase ≠ .empty then .no .notEmpty
      else if (s.ground.door n .ps).state ≠ .pressed ∨ (s.ground.door n .cs).state ≠ .pressed then .no .door
      else if (s.plant.oven n).service = .outOfService then .no .outOfService
      else if s.ground.inRange n = true then .no .maintRange
      else if s.ground.cc.position ≠ some n ∨ s.ground.cc.moving = true then .no .position
      else if s.ground.runState ≠ .running then .wait .runState
      else if s.ground.mainNode.online = false then .wait .mainNode
      else if (s.ground.ovenNode n).online = false then .wait .ovenNode
      else if s.ground.pm.online = false then .wait .pmOffline
      else if s.plant.claimPm ≠ .free ∧ s.plant.claimPm ≠ .charge then .wait .pmBusy
      else .clear) ∧
    (askAnswer h.ground h.plant n = .clear → h.ground.atSpot .pm n = false →
      ∃ d : State, exec (.chargeAsk n) s = .next d.settled ∧ d.ground = h.ground ∧ d.plant.claimPm = .charge ∧
        d.plant.ask = some { oven := n, since := s.ground.clock, reason := .preparing, claimed := true } ∧
        d.plant.charge = s.plant.charge ∧ (Machine.pm, ToMachine.move n) ∈ d.plant.sent ∧
        (Machine.cc, ToMachine.chargeWait .preparing) ∈ d.plant.sent ∧ d.plant.claimGc = s.plant.claimGc ∧
        d.plant = withTraffic d.plant (withClaims d.plant (withCharge d.plant s.plant))) ∧
    (askAnswer h.ground h.plant n = .clear → h.ground.atSpot .pm n = true → holdsOven s n →
      ∃ d : State, exec (.chargeAsk n) s = .next d.settled ∧ d.ground = h.ground ∧
        d.plant.charge = some
          { oven := n
            start := s.ground.clock
            ccEnd := false
            mass := none
            level := none
            timer := some (s.ground.clock + (s.ground.params.tCharge : Int))
            remaining := none
            suspended := false } ∧
        d.plant.ask = none ∧ (d.plant.oven n).phase = .charging ∧ d.plant.claimPm = .charge ∧
        ((s.plant.oven n).valve.mode = .isolate →
          (d.plant.oven n).valve.mode = .aspirate ∧ (d.plant.oven n).valve.position = some 1000) ∧
        (Machine.cc, ToMachine.chargeGo n) ∈ d.plant.sent ∧ (Machine.pm, ToMachine.step .level n) ∈ d.plant.sent ∧
        (∀ k, k ≠ n → d.plant.oven k = s.plant.oven k) ∧ d.plant.claimGc = s.plant.claimGc ∧
        d.plant = withTraffic d.plant (withOvens d.plant (withSides d.plant (withClaims d.plant
          (withCharge d.plant s.plant)))))

/-- CHARGE END for no charge, or another oven's, is answered NO with STALE and changes nothing; the first of CHARGE END and
LEVEL DONE is recorded and changes nothing else; the second completes the charge: the record is gone, the oven goes from
CHARGING to COKING with the clamped mass, its target, its charge end and credit 0, and PM is free; a CHARGE END or a LEVEL
DONE of the oven whose flag is set already changes nothing (R116, R117). -/
def Obligations.ChargeEndsWithBothFlags : Prop :=
  ∀ (s : State) (n mass : Nat), started s →
    ((∀ c, s.plant.charge = some c → c.oven ≠ n) → calm s →
      exec (.chargeEnd n mass) s =
        .next { heard s .cc with plant := send .cc (.chargeNo .stale) (heard s .cc).plant }) ∧
    (∀ c, s.plant.charge = some c → c.oven = n → c.ccEnd = false → c.level = none → calm s →
      exec (.chargeEnd n mass) s =
        .next { heard s .cc with
          plant := { (heard s .cc).plant with charge := some { c with ccEnd := true, mass := some mass } } }) ∧
    (∀ c, s.plant.charge = some c → c.oven = n → c.level = none → c.ccEnd = false → calm s →
      s.ground.pm.online = true →
      exec (.levelDone .pm n) s =
        .next { heard s .pm with
          plant := { (heard s .pm).plant with charge := some { c with level := some .done } } }) ∧
    (∀ c, s.plant.charge = some c → c.oven = n → calm s →
      (c.ccEnd = true → exec (.chargeEnd n mass) s = .next (heard s .cc)) ∧
      (c.level ≠ none → s.ground.pm.online = true → exec (.levelDone .pm n) s = .next (heard s .pm))) ∧
    ∀ c, s.plant.charge = some c → c.oven = n → holdsOven s n → (s.plant.oven n).phase = .charging →
      (c.ccEnd = false → c.level ≠ none →
        ∃ d : State, exec (.chargeEnd n mass) s = .next d.settled ∧ d.plant.charge = none ∧
          (d.plant.oven n).phase = .coking ∧ (d.plant.oven n).mass = clampMass s.ground.params mass ∧
          (d.plant.oven n).target =
            creditTarget s.ground.params (clampMass s.ground.params mass) (s.plant.oven n).trim ∧
          (d.plant.oven n).chargeEnd = some s.ground.clock ∧ (d.plant.oven n).credit = 0 ∧
          d.plant.claimPm = .free ∧ d.ground = (heard s .cc).ground ∧
          (∀ k, k ≠ n → d.plant.oven k = s.plant.oven k) ∧
          d.plant = withTraffic d.plant (withOvens d.plant (withSides d.plant (withClaims d.plant
            (withCharge d.plant s.plant))))) ∧
      (c.ccEnd = true → c.level = none → s.ground.pm.online = true →
        ∃ d : State, exec (.levelDone .pm n) s = .next d.settled ∧ d.plant.charge = none ∧
          (d.plant.oven n).phase = .coking ∧
          (d.plant.oven n).mass = clampMass s.ground.params (c.mass.getD 0) ∧
          (d.plant.oven n).target =
            creditTarget s.ground.params (clampMass s.ground.params (c.mass.getD 0)) (s.plant.oven n).trim ∧
          (d.plant.oven n).chargeEnd = some s.ground.clock ∧ (d.plant.oven n).credit = 0 ∧
          d.plant.claimPm = .free ∧ d.ground = (heard s .pm).ground ∧
          (∀ k, k ≠ n → d.plant.oven k = s.plant.oven k) ∧
          d.plant = withTraffic d.plant (withOvens d.plant (withSides d.plant (withClaims d.plant
            (withCharge d.plant s.plant)))))

/-- The mass of a charge is clamped to [M_MIN, M_MAX] and stored, and the credit target is floor(floor(C_BASE × M / M_NOM) ×
trim / 1000) clamped to 1 .. 4,294,967,295; with the ranges, the relation and the defaults of the parameters it is reckoned
from, with which the upper clamp can apply and the lower one is never reached (R28). -/
def Obligations.CreditTargetIsReckonedFromTheMass : Prop :=
  (∀ (g : Ground) (n mass : Nat) (p : Plant), 1 ≤ n → n ≤ p.ovens.length →
    let m := max g.params.mMin (min g.params.mMax mass)
    ((setTarget g n mass p).oven n).mass = m ∧
    ((setTarget g n mass p).oven n).target =
      max 1 (min 4294967295 (g.params.cBase * m / g.params.mNom * (p.oven n).trim / 1000))) ∧
  (∀ q, numberRange q .cBase = (1000000, 400000000) ∧ numberRange q .mNom = (100, 600) ∧
    numberRange q .mMin = (50, 1000) ∧ numberRange q .mMax = (50, 1000)) ∧
  (∀ q, paramsOk q = true → q.mMin ≤ q.mNom ∧ q.mNom ≤ q.mMax) ∧
  creditTarget { defaultParams with cBase := 400000000, mNom := 100 } 1000 1250 = 4294967295 ∧
  (∀ (q : Params) (m trim : Nat), paramsOk q = true → q.mMin ≤ m → 800 ≤ trim →
    1 ≤ q.cBase * m / q.mNom * trim / 1000) ∧
  defaultParams.cBase = 36000000 ∧ defaultParams.mNom = 320 ∧ defaultParams.mMin = 200 ∧ defaultParams.mMax = 450

/-! ## The track and the machines -/

/-- CAR SERVICE OUT takes a car that is not bound out of service, and IN brings one not in FAULT back, changing nothing else of
it or of the other car; OUT of a bound car is refused with STATE. IN of a car in FAULT is refused with STATE while its link is
OFFLINE, it holds the water grant, or it does not stand in order with the other; otherwise it clears FAULT, and the car is
PARKED, or, loaded at a known position, runs to its tower under its hot dwell timer: granted with MOVE, at its tower already and
waiting for the water, or with its target pending (R150, R159, R161). -/
def Obligations.CarServiceTakesCarsOutAndIn : Prop :=
  ∀ (s s₀ : State) (port : Port) (tag : Byte) (c : Car), working s →
    (takes s port tag (.carService (some c) (some .outOfService)) s₀ →
      ((s.plant.car c).bound = none → calm s →
        exec (.carService port tag (some c) (some .outOfService)) s =
          .next (({ s₀ with plant := s₀.plant.modCar c fun r => { r with inService := false } } : State).answer port tag
            (.ok (.car { s.plant.car c with inService := false })))) ∧
      ((s.plant.car c).bound ≠ none →
        exec (.carService port tag (some c) (some .outOfService)) s =
          .next (s₀.answer port tag (.refused .state .bound)))) ∧
    (takes s port tag (.carService (some c) (some .inService)) s₀ →
      ((s.plant.car c).state ≠ .fault →
        ∃ d : State, exec (.carService port tag (some c) (some .inService)) s =
            .next (d.settled.answer port tag (.ok (.car { s.plant.car c with inService := true }))) ∧
          d.ground = s.ground ∧ d.plant.car c = { s.plant.car c with inService := true } ∧
          d.plant.car (otherCar c) = s.plant.car (otherCar c) ∧
          d.plant = withTraffic d.plant (withTrack d.plant s.plant)) ∧
      ((s.plant.car c).state = .fault →
        ((s.ground.mirror (carMachine c)).online = false →
          exec (.carService port tag (some c) (some .inService)) s =
            .next (s₀.answer port tag (.refused .state .link))) ∧
        ((s.ground.mirror (carMachine c)).online = true → s.plant.grant = some c →
          exec (.carService port tag (some c) (some .inService)) s =
            .next (s₀.answer port tag (.refused .state .grant))) ∧
        ∀ x, (s.ground.mirror (carMachine c)).online = true → s.plant.grant ≠ some c →
          (s.plant.car c).position = some x → ordered s.ground s.plant c x = false →
          exec (.carService port tag (some c) (some .inService)) s =
            .next (s₀.answer port tag (.refused .state .order))) ∧
      ((s.plant.car c).state = .fault → (s.ground.mirror (carMachine c)).online = true → s.plant.grant ≠ some c →
        (∀ x, (s.plant.car c).position = some x → ordered s.ground s.plant c x = true) →
        ∃ (d : State) (r : CarRecord), exec (.carService port tag (some c) (some .inService)) s =
            .next (d.settled.answer port tag (.ok (.car r))) ∧ d.ground = s.ground ∧ d.plant.car c = r ∧
          r.fault = none ∧ r.inService = true ∧ r.position = (s.plant.car c).position ∧
          (((s.plant.car c).position = none ∨ (s.plant.car c).loaded = false) →
            r.state = .parked ∧ r.span = (s.plant.car c).position.map fun x => (x, x)) ∧
          (∀ x, (s.plant.car c).position = some x → (s.plant.car c).loaded = true →
            let tower := towerSpot s.ground c
            let mayRun := s.ground.running && !s.plant.trackHold &&
              clearStretch s.ground s.plant c (min x tower) (max x tower)
            r.loading = some s.ground.clock ∧
            r.hot = some (s.ground.clock + (s.ground.params.hotDwell : Int) + 1) ∧
            (mayRun = true → x = tower → (s.plant.car c).moving = false →
              r.state = .waterWait ∧ r.target = none ∧ r.span = some (x, x)) ∧
            (mayRun = true → ¬(x = tower ∧ (s.plant.car c).moving = false) →
              r.state = .runToTower ∧ r.target = some { position := tower, granted := true } ∧
              r.span = some (min x tower, max x tower) ∧ (carMachine c, ToMachine.move tower) ∈ d.plant.sent) ∧
            (mayRun = false →
              r.state = .runToTower ∧ r.target = some { position := tower, granted := false } ∧
              r.span = some (x, x))) ∧
          d.plant.car (otherCar c) = s.plant.car (otherCar c) ∧
          d.plant = withTraffic d.plant (withTrack d.plant s.plant)))

/-- RECEIVE DONE from a bound car at its ticket's oven makes it RECEIVING, and as the last completion of GUIDING it begins
PUSHING, or the wait for the pacing (R72, R73); DUMP DONE from a car DUMPING, whatever oven it names (log 23), makes it not
loaded, and PARKED if it is not bound; a drain timer due starts the car's run to its wharf (R154 to R156). -/
def Obligations.CarsGoThroughTheirCycle : Prop :=
  ∀ (s : State) (c : Car),
    (∀ n num t, started s → (s.plant.car c).state = .atOven → (s.plant.car c).bound = some num →
      s.plant.ticket? num = some t → t.oven = n → t.state = .guiding →
      ∃ d : State, exec (.receiveDone (carMachine c) n) s = .next d.settled ∧
        d.ground = (heard s (carMachine c)).ground ∧ (d.plant.car c).state = .receiving ∧
        (t.waits.car = .waiting (.step .receive) → ({ t.waits with car := .complete } : Waits).empty = true →
          guidingEnded s.ground t s.plant d.plant) ∧
        (∀ k, k ≠ t.oven → d.plant.oven k = s.plant.oven k) ∧ d.plant.log = s.plant.log ∧
        d.plant.car (otherCar c) = s.plant.car (otherCar c) ∧
        d.plant = withTraffic d.plant (withOvens d.plant (withSides d.plant (withTrack d.plant (withTickets d.plant
          (withPacing d.plant s.plant)))))) ∧
    (∀ n, started s → (s.plant.car c).state = .dumping →
      ∃ d : State, exec (.dumpDone (carMachine c) n) s = .next d.settled ∧
        d.ground = (heard s (carMachine c)).ground ∧ (d.plant.car c).loaded = false ∧
        ((s.plant.car c).bound = none → (d.plant.car c).state = .parked) ∧
        d.plant.car (otherCar c) = s.plant.car (otherCar c) ∧
        d.plant = withTraffic d.plant (withTrack d.plant s.plant)) ∧
    ∀ t, (s.plant.car c).drain = some t → t ≤ s.ground.clock →
      ∃ d : State, exec (.drainTimerExpiry c) s = .next d.settled ∧ d.ground = s.ground ∧
        (d.plant.car c).drain = none ∧
        ((d.plant.car c).state = .runToWharf ∨ (d.plant.car c).state = .dumping) ∧
        d.plant.car (otherCar c) = s.plant.car (otherCar c) ∧
        d.plant = withTraffic d.plant (withTrack d.plant s.plant)

/-- A car that arrives at its tower waits for the water and asks for it: with the grant free, no car before it and its tower
ONLINE and unfaulted it has the grant, and the tower's spray is commanded ON (R155, R157). A tower's report of the spray state
commanded confirms it for the holder of the grant: ON begins the quench of a car in WATER_WAIT under its quench timer, OFF
releases the grant, to the first waiting car whose tower is fit, and a car in QUENCHING begins to drain. Other reports leave the
holder as it is; with the grant free, every report lets the arbiter look (R158). The spray command that stands at the report
confirms it, whatever its poll carried (log 49). -/
def Obligations.WaterArbiterGrantsOneCar : Prop :=
  let fit (g : Ground) (c : Car) : Bool := (g.towerNode c).online && !(g.towerNode c).fault
  let address : Car → Nat := fun c => match c with
    | .a => 120
    | .b => 121
  (∀ (s : State) (c : Car) (loaded : Bool) (l h : Nat), started s → s.ground.configured = true →
    let tower := towerSpot s.ground c
    (s.plant.car c).state = .runToTower → (s.plant.car c).position ≠ none → (s.plant.car c).span = some (l, h) →
    l ≤ tower → tower ≤ h → (s.plant.car c).target = some { position := tower, granted := true } →
    ∃ d : State, exec (.machinePos (carMachine c) tower false loaded) s = .next d.settled ∧
      (d.plant.car c).state = .waterWait ∧ (d.plant.car c).target = none ∧ (d.plant.car c).span = some (tower, tower) ∧
      (s.plant.grant = none → s.plant.waiting = [] → fit s.ground c = true →
        d.plant.grant = some c ∧ d.plant.spray c = true ∧ d.plant.waiting = []) ∧
      (s.plant.grant ≠ none → c ∉ s.plant.waiting →
        d.plant.grant = s.plant.grant ∧ d.plant.waiting = s.plant.waiting ++ [c]) ∧
      d.plant.car (otherCar c) = s.plant.car (otherCar c) ∧
      d.plant = withTraffic d.plant (withTrack d.plant s.plant)) ∧
  ∀ (s : State) (c : Car) (x : Poll) (on : Bool), s.ground.poll = some x → x.address = address c →
    (s.ground.towerNode c).online = true →
    ∃ d : State, exec (.otlReply (address c) (.tower on false)) s = .next d.settled ∧
      (s.plant.grant = some c → on = true → s.plant.spray c = true → (s.plant.car c).state = .waterWait →
        d.plant.car c = { s.plant.car c with
          state := .quenching
          hot := none
          quench := some (s.ground.clock + (s.ground.params.quenchTime : Int)) } ∧
        d.plant.grant = some c ∧ d.plant.waiting = s.plant.waiting) ∧
      (s.plant.grant = some c → on = false → s.plant.spray c = false →
        d.plant.grant = (s.plant.waiting.find? fun k => fit d.ground k) ∧
        (∀ k, d.plant.grant = some k → d.plant.spray k = true ∧ k ∉ d.plant.waiting) ∧
        ((s.plant.car c).state = .quenching →
          d.plant.car c = { s.plant.car c with
            state := .draining
            drain := some (s.ground.clock + (s.ground.params.drainTime : Int)) }) ∧
        ((s.plant.car c).state ≠ .quenching → d.plant.car c = s.plant.car c)) ∧
      (s.plant.grant = some c → on ≠ s.plant.spray c →
        d.plant = { s.opened.plant with sup := d.plant.sup, pnl := d.plant.pnl }) ∧
      (s.plant.grant = none →
        d.plant.grant = (s.plant.waiting.find? fun k => fit d.ground k) ∧ d.plant.car c = s.plant.car c) ∧
      d.plant.car (otherCar c) = s.plant.car (otherCar c) ∧
      d.plant = withTraffic d.plant (withTrack d.plant s.plant)

/-- A POS record writes position and movement to its machine's mirror, which is ONLINE with a new silence timer; from PM or
GC with no claim, or CC with no ask, it is a notice at most otherwise; from a car it writes the car's record, and one outside
the span of a car that is not in FAULT is an overrun: FAULT, the track hold, and STOP to both cars (R145, R152, R163, R165).
One that shows the car of a ticket in UNDOORING through PUSHING moving within its span is judged before all else that it
starts, but for the completion that the first loaded report brings, and that judgement holds the ticket in FAULT_HELD for the
car's alignment (R73, R77, R79), unless the completion was the last of PUSHING and has taken it to CLOSING, where the car's
movements do not abort it (R74, R145; log 51). -/
def Obligations.PositionReportsReachMirrorsAndCars : Prop :=
  ∀ (s : State) (m : Machine) (x : Nat) (moving loaded : Bool), started s →
    (∃ t, exec (.machinePos m x moving loaded) s = .next t ∧
      t.ground = (heard s m).ground.setMirror m
        { (heard s m).ground.mirror m with position := some x, moving := moving } ∧
      t.ground.mirror m = { s.ground.mirror m with
        online := true
        heard := true
        position := some x
        moving := moving
        silence := some (s.ground.clock + (s.ground.params.machineSilence : Int) + 1) }) ∧
    (calm s → (s.ground.mirror m).online = true →
      ((m = .pm ∨ m = .gc) ∧ s.plant.claim m = .free) ∨ (m = .cc ∧ s.plant.ask = none) →
      ∃ t, exec (.machinePos m x moving loaded) s = .next t ∧
        ((s.ground.mirror m).position = some x → (s.ground.mirror m).moving = moving → t.plant = s.opened.plant) ∧
        ((s.ground.mirror m).position ≠ some x ∨ (s.ground.mirror m).moving ≠ moving →
          t.plant = Machine.raise s.ground (.machinePos m x moving) s.opened.plant)) ∧
    ∀ c, machineCar m = some c → s.ground.configured = true →
      ∃ d : State, exec (.machinePos m x moving loaded) s = .next d.settled ∧
        (d.plant.car c).position = some x ∧ (d.plant.car c).moving = moving ∧ (d.plant.car c).loaded = loaded ∧
        d.plant.car (otherCar c) = s.plant.car (otherCar c) ∧
        d.plant = withTraffic d.plant (withTrack d.plant s.plant) ∧
        ((s.plant.car c).position ≠ none → (s.plant.car c).state ≠ .fault → inSpan x (s.plant.car c).span = false →
          (d.plant.car c).state = .fault ∧ (d.plant.car c).fault = some .overrun ∧ d.plant.trackHold = true ∧
          (Machine.qa, ToMachine.stop) ∈ d.plant.sent ∧ (Machine.qb, ToMachine.stop) ∈ d.plant.sent) ∧
        ∀ t, calm s → isTicket s t → (s.plant.car c).bound = some t.number → t.extractSent = true →
          t.state = .undooring ∨ t.state = .guiding ∨ t.state = .pushing → moving = true →
          (s.plant.car c).position ≠ none → (s.plant.car c).state ≠ .fault → inSpan x (s.plant.car c).span = true →
          let first := firstLoaded { s.plant.car c with loaded := loaded }
          let completed := if first then runTask d.ground (.carLoaded c) d.plant else d.plant
          (if first then [Task.carLoaded c, .carReported c] else [Task.carReported c]) <+: d.plant.agenda ∧
          ((runTask d.ground (.carReported c) completed).ticket? t.number).map (fun y => (y.state, y.reason)) =
            if first = true ∧ t.state = .pushing ∧ t.suspended = false ∧
                t.waits = { Waits.none with car := .waiting .load } then
              some (.closing, t.reason)
            else some (.faultHeld, some (.alignmentCar c))

/-- A FAULT record of any machine writes its last fault, raises MACHINE_FAULT with the claim it stands under, and is then handed
to the work it concerns; from PM or GC with no claim, or CC, it is no more than that; from a configured car not in FAULT it puts
the car in FAULT with its code. A silence timer due makes the machine OFFLINE, changes no other mirror, raises MACHINE_OFFLINE,
and the loss is then handed on: a configured car not in FAULT enters it, CC's pending ask is dropped, the service job or the
ticket at work that has claimed PM or GC is abandoned or, past EXTRACT, held (R77, R79, R106, R114, R160, R164, R165; that the
notice comes before what the blocks raise is log 48, and that PM's loss under a ticket re-checks a pending ask is log 52). -/
def Obligations.FaultsAndSilenceAreRecorded : Prop :=
  ∀ (s : State) (m : Machine),
    (∀ code, started s →
      (∃ t, exec (.machineFault m code) s = .next t ∧
        t.ground = (heard s m).ground.setMirror m
          { (heard s m).ground.mirror m with lastFault := some (code, s.ground.clock) }) ∧
      exec (.machineFault m code) s =
        .next ((({ heard s m with
          ground := (heard s m).ground.setMirror m
            { (heard s m).ground.mirror m with lastFault := some (code, s.ground.clock) } } : State).raise
              (.machineFault m code (s.ground.mirror m).position ((heard s m).plant.claim m))).work
                (faultHanded m code)).settled ∧
      (calm s → (s.ground.mirror m).online = true → machineCar m = none → s.plant.claim m = .free →
        ∃ t, exec (.machineFault m code) s = .next t ∧
          t.plant = Machine.raise s.ground (.machineFault m code (s.ground.mirror m).position .free) s.opened.plant) ∧
      ∀ c, machineCar m = some c → s.ground.configured = true → (s.plant.car c).state ≠ .fault →
        ∃ d : State, exec (.machineFault m code) s = .next d.settled ∧ (d.plant.car c).state = .fault ∧
          (d.plant.car c).fault = some (.code code) ∧
          (carMachine c, ToMachine.stop) ∈ d.plant.sent ∧ d.plant.car (otherCar c) = s.plant.car (otherCar c) ∧
          d.plant = withTraffic d.plant (withTrack d.plant s.plant)) ∧
    ∀ t, (s.ground.mirror m).silence = some t → t ≤ s.ground.clock →
      (∃ t', exec (.silenceTimerExpiry m) s = .next t' ∧
        t'.ground = s.ground.setMirror m { s.ground.mirror m with online := false, silence := none }) ∧
      ∃ d : State, exec (.silenceTimerExpiry m) s = .next d.settled ∧
        d = (({ s.opened with
          ground := s.ground.setMirror m { s.ground.mirror m with online := false, silence := none } } : State).raise
            (.machineOffline m (s.ground.mirror m).position (s.plant.claim m))).work (machineLost m) ∧
        (∀ c, machineCar m = some c → s.ground.configured = true → (s.plant.car c).state ≠ .fault →
          (d.plant.car c).state = .fault ∧ (d.plant.car c).fault = some .offline ∧
            d.plant.car (otherCar c) = s.plant.car (otherCar c)) ∧
        (m = .cc → d.plant.ask = none) ∧
        (m = .pm ∨ m = .gc →
          (s.plant.claim m = .service → ∀ j, (s.plant.side (machineSide m)).job = some j →
            (d.plant.side (machineSide m)).job = none ∧ d.plant.claim m = .free ∧ (m, ToMachine.stop) ∈ d.plant.sent) ∧
          ∀ x, isTicket s x → s.plant.claim m = .ticket x.number → x.state.claims = true →
            (x.extractSent = true → (d.plant.ticket? x.number).map (fun y => (y.state, y.reason)) =
              some (.faultHeld, some (.offline m))) ∧
            (x.extractSent = false → d.plant.ticket? x.number = none))

/-! ## The offtake line -/

/-- A reply that does not answer the poll in progress, or of another class than its node, the main and the ovens being of one
reply kind (log 47), is discarded; a valid one writes its node's record, ONLINE, miss count 0, with its fault flag and its
values clamped, and no other, and the next poll of the round begins, as chosen before the follow-up events (log 16). An
unfaulted reply to a poll that carried REGULATE, of an oven ONLINE and commanded to REGULATE, makes one regulator step; one
of the main, ONLINE, gives its first commanded position or makes a main step; neither changes anything else of the plant, and
a faulted reply makes no step. A step leaves a position within the deadband as it is, and otherwise moves it by the error
times the gain over 64, truncated toward zero, within the bounds. A reply wait that expires is a miss: a LOST node stays as
it is, an ONLINE one counts it and is LOST at the third in a row (R124, R126, R127, R128, R136, R138). -/
def Obligations.OfftakeExchangesEnd : Prop :=
  (∀ (s : State) (address : Nat) (reply : NodeReply),
     (calm s → (∀ x, s.ground.poll = some x → ¬(address = x.address ∧ replyFits address reply = true)) →
       exec (.otlReply address reply) s = .next (s.opened.received .offtake)) ∧
     ∀ x, s.ground.poll = some x → x.address = address → replyFits address reply = true →
       (∃ d : State, exec (.otlReply address reply) s = .next d.settled ∧
         let g := (s.received .offtake).ground.setNode address (replied (s.ground.node address) reply)
         d.ground = { g with poll := nextPoll g d.plant x } ∧
         (isPlantNode address = true ∨ (1 ≤ address ∧ address ≤ s.ground.ovenNodes.length) →
           (d.ground.node address).online = true ∧ (d.ground.node address).miss = 0 ∧
           (∀ pressure position fault, reply = .valve pressure position fault →
             (d.ground.node address).fault = fault ∧
             (d.ground.node address).pressure = some (max (-2000) (min 2000 pressure)) ∧
             (d.ground.node address).actual = some (min 1000 position)) ∧
           ∀ spray fault, reply = .tower spray fault →
             (d.ground.node address).fault = fault ∧ (d.ground.node address).spray = some spray) ∧
         ∀ other, other ≠ address → d.ground.node other = s.ground.node other) ∧
       ∀ pressure position fault, reply = .valve pressure position fault → (s.ground.node address).online = true → calm s →
         (∀ posNow modeThen, fault = false → isPlantNode address = false → holdsOven s address →
           x.carried = .oven .regulate modeThen → (s.plant.oven address).valve.mode = .regulate →
           (s.plant.oven address).valve.position = some posNow →
           ∃ t, exec (.otlReply address reply) s = .next t ∧
             t.plant = s.opened.plant.modValve address fun v =>
               let sp := ovenSetPoint s.ground address (s.plant.oven address).toOvenRecord
               { v with
                 position := some (regulatorStep s.ground.params.deadband s.ground.params.gOven s.ground.params.vMin sp
                   (clampInt (-2000) 2000 pressure) posNow)
                 setPoint := some sp }) ∧
         (address = 0 → fault = false →
           ∃ t, exec (.otlReply address reply) s = .next t ∧
             (s.plant.mainPosition = none →
               t.plant = { s.opened.plant with mainPosition := some (min 1000 position) }) ∧
             ∀ posNow, s.plant.mainPosition = some posNow →
               let q := s.ground.params
               let sp := if s.plant.charge = none then q.pMain else q.pMain - (q.aOff : Int)
               t.plant = { s.opened.plant with
                 mainPosition :=
                   some (regulatorStep q.deadband q.gMain q.mVmin sp (clampInt (-2000) 2000 pressure) posNow)
                 mainSetPoint := some sp }) ∧
         (fault = true →
           ∃ t, exec (.otlReply address reply) s = .next t ∧
             t.plant = { s.opened.plant with sup := t.plant.sup, pnl := t.plant.pnl })) ∧
  (∀ (deadband gain lo : Nat) (sp measured : Int) (position : Nat),
     ((measured - sp).natAbs ≤ deadband → regulatorStep deadband gain lo sp measured position = position) ∧
     (deadband < (measured - sp).natAbs → lo ≤ 1000 →
       lo ≤ regulatorStep deadband gain lo sp measured position ∧
       regulatorStep deadband gain lo sp measured position ≤ 1000 ∧
       ((lo : Int) ≤ position + ((measured - sp) * gain).tdiv 64 →
         position + ((measured - sp) * gain).tdiv 64 ≤ 1000 →
         (regulatorStep deadband gain lo sp measured position : Int) =
           position + ((measured - sp) * gain).tdiv 64))) ∧
  (∀ s : State,
     (s.ground.poll = none → calm s → exec .replyWaitExpiry s = .next s.opened) ∧
     ∀ x, s.ground.poll = some x →
       ∃ d : State, exec .replyWaitExpiry s = .next d.settled ∧
         let g := s.ground.setNode x.address (missed (s.ground.node x.address))
         d.ground = { g with poll := nextPoll g d.plant x } ∧
         ((s.ground.node x.address).online = false → missed (s.ground.node x.address) = s.ground.node x.address) ∧
         ((s.ground.node x.address).online = true →
           (missed (s.ground.node x.address)).miss = (s.ground.node x.address).miss + 1 ∧
           (missed (s.ground.node x.address)).online = decide ((s.ground.node x.address).miss + 1 < 3)))

/-! ## Parameters and the store -/

/-- PARAM GET answers a parameter's group, class, range, default and value and changes nothing. PARAM SET is refused by the
first check that fails, changing nothing, with RANGE for a value whose form or length is not the parameter's (R182; the form is
log 18, the length of a PLAN log 58); accepted, it replaces the one working value, which reads back while no other parameter changes, and answers it, or, for
OVEN_COUNT, configures the 2480: N ovens, doors and nodes, N + 1 walls, CAR_SPLIT N / 2 and the push order (R181 to R183). -/
def Obligations.ParametersAreReadAndSet : Prop :=
  (∀ (q : Params) (id : ParamId) (v : ParamValue), valueFits id v = true → valueInRange q id v = true →
    paramValue (setParam q id v) id = some v ∧
      ∀ other, other ≠ id → paramValue (setParam q id v) other = paramValue q other) ∧
  ∀ (s s₀ : State) (port : Port) (tag : Byte) (id : ParamId), started s →
    (takes s port tag (.paramGet (some id)) s₀ → calm s →
      exec (.paramGet port tag (some id)) s =
        .next (s₀.answer port tag (.ok (.param (paramReply s.ground.params id))))) ∧
    ∀ v, takes s port tag (.paramSet (some id) v) s₀ →
      (valueFits id v = false →
        exec (.paramSet port tag (some id) v) s = .next (s₀.answer port tag (.refused .range .field))) ∧
      (valueFits id v = true → ∀ reply, firstRefusal (settingChecks s id v) = some reply →
        exec (.paramSet port tag (some id) v) s = .next (s₀.answer port tag reply)) ∧
      (valueFits id v = true → firstRefusal (settingChecks s id v) = none → id ≠ .ovenCount →
        ∃ d : State, exec (.paramSet port tag (some id) v) s =
            .next (d.settled.answer port tag (.ok (.value (some v)))) ∧
          d.ground.params = setParam s.ground.params id v) ∧
      (valueFits id v = true → firstRefusal (settingChecks s id v) = none → readLater id = true → calm s →
        exec (.paramSet port tag (some id) v) s =
          .next (({ s₀ with ground := { s₀.ground with params := setParam s.ground.params id v } } : State).answer port
            tag (.ok (.value (some v))))) ∧
      ∀ n : Nat, id = .ovenCount → v = .number n → calm s → firstRefusal (settingChecks s id v) = none →
        let t := s₀.configure n (n / 2)
        exec (.paramSet port tag (some id) v) s = .next (t.answer port tag (.ok (.configured n (n / 2)))) ∧
          t.ground.params = { s.ground.params with ovenCount := some n, carSplit := some (n / 2) } ∧
          t.plant.ovens.length = n ∧ t.ground.doors.length = n ∧ t.ground.ovenNodes.length = n ∧
          t.ground.walls.length = n + 1 ∧ t.ground.order = pushOrder n s.ground.params.plan ∧
          (∀ k, 1 ≤ k → k ≤ n → t.plant.oven k = Oven.created k ∧ t.ground.ovenNode k = .created ∧
            ∀ side, t.ground.door k side = .created)

/-- The protection level protects no group at 0, G at 1, G, P and C at 2, and all six at 3. PROTECT SET gives the level asked
for, a lower one only while the key line is asserted, LOCKED otherwise, RANGE above 3, and changes nothing else; MASK SET is
not refused by it, warm restart keeps it, the store read sets it, and STATUS GENERAL carries it and the key line (R184). -/
def Obligations.ProtectionLevelIsKept : Prop :=
  (∀ gr : ParamGroup, protectedAt 0 gr = false ∧ (protectedAt 1 gr = true ↔ gr = .g) ∧
    (protectedAt 2 gr = true ↔ gr = .g ∨ gr = .p ∨ gr = .c) ∧ protectedAt 3 gr = true) ∧
  (∀ (s s₀ : State) (port : Port) (tag : Byte) (level : Nat), started s → calm s →
    takes s port tag (.protectSet level) s₀ →
    (level ≤ 3 → s.ground.protection ≤ level ∨ s.ground.keyLine = true →
      exec (.protectSet port tag level) s =
        .next (({ s₀ with ground := { s₀.ground with protection := level } } : State).answer port tag
          (.ok (.protection level)))) ∧
    (level < s.ground.protection → level ≤ 3 → s.ground.keyLine = false →
      exec (.protectSet port tag level) s = .next (s₀.answer port tag (.refused .locked .keyLine))) ∧
    (3 < level → exec (.protectSet port tag level) s = .next (s₀.answer port tag (.refused .range .field)))) ∧
  (∀ (s s₀ : State) (port : Port) (tag : Byte) (id : ParamId) (v : ParamValue), started s → valueFits id v = true →
    takes s port tag (.paramSet (some id) v) s₀ → protectedAt s.ground.protection (paramGroup id) = true →
    exec (.paramSet port tag (some id) v) s = .next (s₀.answer port tag (.refused .locked .group))) ∧
  (∀ (s s₀ : State) (port : Port) (tag : Byte) (level : Nat), started s → level ≤ 15 →
    takes s port tag (.maskSet level) s₀ →
    ∃ d : State, exec (.maskSet port tag level) s = .next (d.answer port tag (.ok (.mask level)))) ∧
  (∀ s : State, (restart s).1.ground.protection = s.ground.protection ∧
    (generalReply s).protection = s.ground.protection ∧ (generalReply s).keyLine = s.ground.keyLine) ∧
  ∀ (g : Ground) (store : StoreState) (im : Option Image),
    (g.storeRead store im).protection = match im with | some x => x.level | none => 0

/-- STORE SAVE takes a snapshot of the working set and level and sets the busy flag; STORE ERASE on PNL with the key line
asserted and the battery quiet sets it for an erase; they are refused with BUSY, STATE, AUTH or LOCKED as the rules give. A save
that compares makes the store VERIFIED with its snapshot and raises STORE_SAVED; an erase that succeeds makes it BLANK; a
failure, or the 2 s bound, makes it CORRUPT without an image and raises STORE_FAIL; each clears the busy flag. Nothing else
changes (R185, R187; what STORE_FAIL carries is log 34). -/
def Obligations.StoreOperationsBeginAndEnd : Prop :=
  (∀ (s s₀ : State) (port : Port) (tag : Byte), started s → calm s →
     (takes s port tag .storeSave s₀ →
       (s.ground.storeOp = none → s.ground.store ≠ .absent →
         exec (.storeSave port tag) s =
           .next (({ s₀ with ground := { s₀.ground with
             storeOp := some (.save { params := s.ground.params, level := s.ground.protection }) } } : State).answer port tag
               (.ok .plain))) ∧
       (s.ground.storeOp ≠ none →
         exec (.storeSave port tag) s = .next (s₀.answer port tag (.refused .busy .storeBusy))) ∧
       (s.ground.storeOp = none → s.ground.store = .absent →
         exec (.storeSave port tag) s = .next (s₀.answer port tag (.refused .state .storeAbsent)))) ∧
     (takes s port tag .storeErase s₀ →
       (port = .sup → exec (.storeErase port tag) s = .next (s₀.answer port tag (.refused .auth .panelOnly))) ∧
       (port = .pnl → s.ground.keyLine = false →
         exec (.storeErase port tag) s = .next (s₀.answer port tag (.refused .locked .keyLine))) ∧
       (port = .pnl → s.ground.keyLine = true → s.ground.storeOp ≠ none →
         exec (.storeErase port tag) s = .next (s₀.answer port tag (.refused .busy .storeBusy))) ∧
       (port = .pnl → s.ground.keyLine = true → s.ground.storeOp = none → s.plant.tickets ≠ [] ∨ s.plant.charge ≠ none →
         exec (.storeErase port tag) s = .next (s₀.answer port tag (.refused .busy .quiet))) ∧
       (port = .pnl → s.ground.keyLine = true → s.ground.storeOp = none → s.plant.tickets = [] →
         s.plant.charge = none → s.ground.store = .absent →
         exec (.storeErase port tag) s = .next (s₀.answer port tag (.refused .state .storeAbsent))) ∧
       (port = .pnl → s.ground.keyLine = true → s.ground.storeOp = none → s.plant.tickets = [] →
         s.plant.charge = none → s.ground.store ≠ .absent →
         exec (.storeErase port tag) s =
           .next (({ s₀ with ground := { s₀.ground with storeOp := some .erase } } : State).answer port tag
             (.ok .plain))))) ∧
  (∀ s : State, calm s →
     let ended (store : StoreState) (im : Option Image) : State :=
       { s.opened with ground := { s.ground with store := store, verified := im, storeOp := none } }
     (∀ im, s.ground.storeOp = some (.save im) →
       exec (.storeSaveEnd none) s = .next ((ended .verified (some im)).raise .storeSaved) ∧
       exec (.storeSaveEnd (some .write)) s = .next ((ended .corrupt none).raise (.storeFail .write)) ∧
       exec (.storeSaveEnd (some .compare)) s = .next ((ended .corrupt none).raise (.storeFail .compare)) ∧
       exec .storeSaveTimeout s = .next ((ended .corrupt none).raise (.storeFail .bound)) ∧
       (∀ ok, exec (.storeEraseEnd ok) s = .next s.opened) ∧ exec .storeEraseTimeout s = .next s.opened) ∧
     (s.ground.storeOp = some .erase →
       exec (.storeEraseEnd true) s = .next (ended .blank none) ∧
       exec (.storeEraseEnd false) s = .next ((ended .corrupt none).raise (.storeFail .erase)) ∧
       exec .storeEraseTimeout s = .next ((ended .corrupt none).raise (.storeFail .bound)) ∧
       (∀ step, exec (.storeSaveEnd step) s = .next s.opened) ∧ exec .storeSaveTimeout s = .next s.opened))

/-- An accepted STORE LOAD gives every parameter that the verified image holds a value for that value, keeps the protection
level, the store and the image, and answers how many values differed; it is refused with BUSY while the store is busy, and
with STATE while there is no verified image (R186). -/
def Obligations.StoreLoadTakesTheImage : Prop :=
  ∀ (s s₀ : State) (port : Port) (tag : Byte), started s → takes s port tag .storeLoad s₀ →
    (∀ im, s.ground.storeOp = none → s.ground.protection = 0 ∨ s.ground.keyLine = true → s.plant.tickets = [] →
      s.plant.charge = none → s.ground.store = .verified → s.ground.verified = some im →
      paramsOk im.params = true → im.params.ovenCount = s.ground.params.ovenCount →
      tMinTooHigh s.ground s.plant im.params.tMin = false →
      ∃ d : State, exec (.storeLoad port tag) s =
          .next (d.settled.answer port tag (.ok (.loaded (changedParams im.params s.ground.params).length))) ∧
        (∀ id v, paramValue im.params id = some v → paramValue d.ground.params id = some v) ∧
        d.ground.protection = s.ground.protection ∧ d.ground.store = .verified ∧ d.ground.verified = some im) ∧
    (s.ground.storeOp ≠ none →
      exec (.storeLoad port tag) s = .next (s₀.answer port tag (.refused .busy .storeBusy))) ∧
    (s.ground.storeOp = none → s.ground.protection = 0 ∨ s.ground.keyLine = true → s.plant.tickets = [] →
      s.plant.charge = none → s.ground.store ≠ .verified →
      exec (.storeLoad port tag) s = .next (s₀.answer port tag (.refused .state .notVerified)))
end

