-- ==== Sys2Proof/Laws/State.lean ====
section
/-! SUPPORT. One lemma for each field that an update of a state leaves alone, and for the fields it writes, so that no proof
unfolds the update of a record. Generated from the fields of `Plant` and `Ground`. -/

namespace Sys2Proof.Machine

/-! ## Whole states -/

@[simp] theorem State.work_ground (s : State) (f : Ground → Plant → Plant) : (s.work f).ground = s.ground := rfl
@[simp] theorem State.work_plant (s : State) (f : Ground → Plant → Plant) : (s.work f).plant = f s.ground s.plant := rfl
@[simp] theorem State.work_pending (s : State) (f : Ground → Plant → Plant) : (s.work f).pending = s.pending := rfl
@[simp] theorem State.raise_ground (s : State) (b : NoticeBody) : (s.raise b).ground = s.ground := rfl
@[simp] theorem State.raise_plant (s : State) (b : NoticeBody) :
    (s.raise b).plant = Machine.raise s.ground b s.plant := rfl
@[simp] theorem State.raise_pending (s : State) (b : NoticeBody) : (s.raise b).pending = s.pending := rfl
@[simp] theorem State.opened_ground (s : State) : s.opened.ground = s.ground := rfl
@[simp] theorem State.opened_plant (s : State) : s.opened.plant = { s.plant with sent := [] } := rfl
@[simp] theorem State.opened_pending (s : State) : s.opened.pending = s.pending := rfl
@[simp] theorem State.settled_ground (s : State) : s.settled.ground = s.ground := rfl
@[simp] theorem State.settled_pending (s : State) : s.settled.pending = s.pending := rfl
@[simp] theorem State.modPort_ground (s : State) (port : Port) (f : PortState → PortState) :
    (s.modPort port f).ground = s.ground := rfl
@[simp] theorem State.modPort_plant (s : State) (port : Port) (f : PortState → PortState) :
    (s.modPort port f).plant = s.plant.modPort port f := rfl
@[simp] theorem State.modPort_pending (s : State) (port : Port) (f : PortState → PortState) :
    (s.modPort port f).pending = s.pending := rfl
@[simp] theorem State.answer_ground (s : State) (port : Port) (tag : Byte) (r : Reply) :
    (s.answer port tag r).ground = s.ground := rfl
@[simp] theorem State.answer_pending (s : State) (port : Port) (tag : Byte) (r : Reply) :
    (s.answer port tag r).pending = s.pending := rfl
@[simp] theorem State.setRx_plant (s : State) (link : Link) (bytes : List Byte) : (s.setRx link bytes).plant = s.plant := rfl
@[simp] theorem State.setRx_pending (s : State) (link : Link) (bytes : List Byte) :
    (s.setRx link bytes).pending = s.pending := rfl
@[simp] theorem State.received_plant (s : State) (link : Link) : (s.received link).plant = s.plant := rfl
@[simp] theorem State.received_pending (s : State) (link : Link) : (s.received link).pending = s.pending := rfl
@[simp] theorem State.nextExchange_plant (s : State) (x : Poll) : (s.nextExchange x).plant = s.plant := rfl
@[simp] theorem State.nextExchange_pending (s : State) (x : Poll) : (s.nextExchange x).pending = s.pending := rfl

/-! ## raise -/

@[simp] theorem raise_ovens (g : Ground) (b : NoticeBody) (p : Plant) : (raise g b p).ovens = p.ovens := rfl
@[simp] theorem raise_cursor (g : Ground) (b : NoticeBody) (p : Plant) : (raise g b p).cursor = p.cursor := rfl
@[simp] theorem raise_catchup (g : Ground) (b : NoticeBody) (p : Plant) : (raise g b p).catchup = p.catchup := rfl
@[simp] theorem raise_catchLatch (g : Ground) (b : NoticeBody) (p : Plant) :
    (raise g b p).catchLatch = p.catchLatch := rfl
@[simp] theorem raise_lastPushStart (g : Ground) (b : NoticeBody) (p : Plant) :
    (raise g b p).lastPushStart = p.lastPushStart := rfl
@[simp] theorem raise_pacing (g : Ground) (b : NoticeBody) (p : Plant) : (raise g b p).pacing = p.pacing := rfl
@[simp] theorem raise_tickets (g : Ground) (b : NoticeBody) (p : Plant) : (raise g b p).tickets = p.tickets := rfl
@[simp] theorem raise_nextTicket (g : Ground) (b : NoticeBody) (p : Plant) :
    (raise g b p).nextTicket = p.nextTicket := rfl
@[simp] theorem raise_log (g : Ground) (b : NoticeBody) (p : Plant) : (raise g b p).log = p.log := rfl
@[simp] theorem raise_psSide (g : Ground) (b : NoticeBody) (p : Plant) : (raise g b p).psSide = p.psSide := rfl
@[simp] theorem raise_csSide (g : Ground) (b : NoticeBody) (p : Plant) : (raise g b p).csSide = p.csSide := rfl
@[simp] theorem raise_charge (g : Ground) (b : NoticeBody) (p : Plant) : (raise g b p).charge = p.charge := rfl
@[simp] theorem raise_ask (g : Ground) (b : NoticeBody) (p : Plant) : (raise g b p).ask = p.ask := rfl
@[simp] theorem raise_mainPosition (g : Ground) (b : NoticeBody) (p : Plant) :
    (raise g b p).mainPosition = p.mainPosition := rfl
@[simp] theorem raise_mainSetPoint (g : Ground) (b : NoticeBody) (p : Plant) :
    (raise g b p).mainSetPoint = p.mainSetPoint := rfl
@[simp] theorem raise_sprayA (g : Ground) (b : NoticeBody) (p : Plant) : (raise g b p).sprayA = p.sprayA := rfl
@[simp] theorem raise_sprayB (g : Ground) (b : NoticeBody) (p : Plant) : (raise g b p).sprayB = p.sprayB := rfl
@[simp] theorem raise_carA (g : Ground) (b : NoticeBody) (p : Plant) : (raise g b p).carA = p.carA := rfl
@[simp] theorem raise_carB (g : Ground) (b : NoticeBody) (p : Plant) : (raise g b p).carB = p.carB := rfl
@[simp] theorem raise_grant (g : Ground) (b : NoticeBody) (p : Plant) : (raise g b p).grant = p.grant := rfl
@[simp] theorem raise_waiting (g : Ground) (b : NoticeBody) (p : Plant) : (raise g b p).waiting = p.waiting := rfl
@[simp] theorem raise_trackHold (g : Ground) (b : NoticeBody) (p : Plant) :
    (raise g b p).trackHold = p.trackHold := rfl
@[simp] theorem raise_claimPm (g : Ground) (b : NoticeBody) (p : Plant) : (raise g b p).claimPm = p.claimPm := rfl
@[simp] theorem raise_claimGc (g : Ground) (b : NoticeBody) (p : Plant) : (raise g b p).claimGc = p.claimGc := rfl
@[simp] theorem raise_sent (g : Ground) (b : NoticeBody) (p : Plant) : (raise g b p).sent = p.sent := rfl
@[simp] theorem raise_closingPresses (g : Ground) (b : NoticeBody) (p : Plant) :
    (raise g b p).closingPresses = p.closingPresses := rfl
@[simp] theorem raise_agenda (g : Ground) (b : NoticeBody) (p : Plant) : (raise g b p).agenda = p.agenda := rfl
@[simp] theorem raise_sup (g : Ground) (b : NoticeBody) (p : Plant) :
    (raise g b p).sup = p.sup.offer { level := b.level, time := g.clock, body := b } := rfl
@[simp] theorem raise_pnl (g : Ground) (b : NoticeBody) (p : Plant) :
    (raise g b p).pnl = p.pnl.offer { level := b.level, time := g.clock, body := b } := rfl

/-! ## send -/

@[simp] theorem send_sup (m : Machine) (r : ToMachine) (p : Plant) : (send m r p).sup = p.sup := rfl
@[simp] theorem send_pnl (m : Machine) (r : ToMachine) (p : Plant) : (send m r p).pnl = p.pnl := rfl
@[simp] theorem send_ovens (m : Machine) (r : ToMachine) (p : Plant) : (send m r p).ovens = p.ovens := rfl
@[simp] theorem send_cursor (m : Machine) (r : ToMachine) (p : Plant) : (send m r p).cursor = p.cursor := rfl
@[simp] theorem send_catchup (m : Machine) (r : ToMachine) (p : Plant) : (send m r p).catchup = p.catchup := rfl
@[simp] theorem send_catchLatch (m : Machine) (r : ToMachine) (p : Plant) :
    (send m r p).catchLatch = p.catchLatch := rfl
@[simp] theorem send_lastPushStart (m : Machine) (r : ToMachine) (p : Plant) :
    (send m r p).lastPushStart = p.lastPushStart := rfl
@[simp] theorem send_pacing (m : Machine) (r : ToMachine) (p : Plant) : (send m r p).pacing = p.pacing := rfl
@[simp] theorem send_tickets (m : Machine) (r : ToMachine) (p : Plant) : (send m r p).tickets = p.tickets := rfl
@[simp] theorem send_nextTicket (m : Machine) (r : ToMachine) (p : Plant) :
    (send m r p).nextTicket = p.nextTicket := rfl
@[simp] theorem send_log (m : Machine) (r : ToMachine) (p : Plant) : (send m r p).log = p.log := rfl
@[simp] theorem send_psSide (m : Machine) (r : ToMachine) (p : Plant) : (send m r p).psSide = p.psSide := rfl
@[simp] theorem send_csSide (m : Machine) (r : ToMachine) (p : Plant) : (send m r p).csSide = p.csSide := rfl
@[simp] theorem send_charge (m : Machine) (r : ToMachine) (p : Plant) : (send m r p).charge = p.charge := rfl
@[simp] theorem send_ask (m : Machine) (r : ToMachine) (p : Plant) : (send m r p).ask = p.ask := rfl
@[simp] theorem send_mainPosition (m : Machine) (r : ToMachine) (p : Plant) :
    (send m r p).mainPosition = p.mainPosition := rfl
@[simp] theorem send_mainSetPoint (m : Machine) (r : ToMachine) (p : Plant) :
    (send m r p).mainSetPoint = p.mainSetPoint := rfl
@[simp] theorem send_sprayA (m : Machine) (r : ToMachine) (p : Plant) : (send m r p).sprayA = p.sprayA := rfl
@[simp] theorem send_sprayB (m : Machine) (r : ToMachine) (p : Plant) : (send m r p).sprayB = p.sprayB := rfl
@[simp] theorem send_carA (m : Machine) (r : ToMachine) (p : Plant) : (send m r p).carA = p.carA := rfl
@[simp] theorem send_carB (m : Machine) (r : ToMachine) (p : Plant) : (send m r p).carB = p.carB := rfl
@[simp] theorem send_grant (m : Machine) (r : ToMachine) (p : Plant) : (send m r p).grant = p.grant := rfl
@[simp] theorem send_waiting (m : Machine) (r : ToMachine) (p : Plant) : (send m r p).waiting = p.waiting := rfl
@[simp] theorem send_trackHold (m : Machine) (r : ToMachine) (p : Plant) :
    (send m r p).trackHold = p.trackHold := rfl
@[simp] theorem send_claimPm (m : Machine) (r : ToMachine) (p : Plant) : (send m r p).claimPm = p.claimPm := rfl
@[simp] theorem send_claimGc (m : Machine) (r : ToMachine) (p : Plant) : (send m r p).claimGc = p.claimGc := rfl
@[simp] theorem send_closingPresses (m : Machine) (r : ToMachine) (p : Plant) :
    (send m r p).closingPresses = p.closingPresses := rfl
@[simp] theorem send_agenda (m : Machine) (r : ToMachine) (p : Plant) : (send m r p).agenda = p.agenda := rfl
@[simp] theorem send_sent (m : Machine) (r : ToMachine) (p : Plant) : (send m r p).sent = p.sent ++ [(m, r)] := rfl

/-! ## sendStep -/

@[simp] theorem sendStep_sup (m : Machine) (op : Op) (n : Nat) (p : Plant) : (sendStep m op n p).sup = p.sup := by
  unfold sendStep; dsimp only; split <;> rfl
@[simp] theorem sendStep_pnl (m : Machine) (op : Op) (n : Nat) (p : Plant) : (sendStep m op n p).pnl = p.pnl := by
  unfold sendStep; dsimp only; split <;> rfl
@[simp] theorem sendStep_ovens (m : Machine) (op : Op) (n : Nat) (p : Plant) :
    (sendStep m op n p).ovens = p.ovens := by
  unfold sendStep; dsimp only; split <;> rfl
@[simp] theorem sendStep_cursor (m : Machine) (op : Op) (n : Nat) (p : Plant) :
    (sendStep m op n p).cursor = p.cursor := by
  unfold sendStep; dsimp only; split <;> rfl
@[simp] theorem sendStep_catchup (m : Machine) (op : Op) (n : Nat) (p : Plant) :
    (sendStep m op n p).catchup = p.catchup := by
  unfold sendStep; dsimp only; split <;> rfl
@[simp] theorem sendStep_catchLatch (m : Machine) (op : Op) (n : Nat) (p : Plant) :
    (sendStep m op n p).catchLatch = p.catchLatch := by
  unfold sendStep; dsimp only; split <;> rfl
@[simp] theorem sendStep_lastPushStart (m : Machine) (op : Op) (n : Nat) (p : Plant) :
    (sendStep m op n p).lastPushStart = p.lastPushStart := by
  unfold sendStep; dsimp only; split <;> rfl
@[simp] theorem sendStep_pacing (m : Machine) (op : Op) (n : Nat) (p : Plant) :
    (sendStep m op n p).pacing = p.pacing := by
  unfold sendStep; dsimp only; split <;> rfl
@[simp] theorem sendStep_tickets (m : Machine) (op : Op) (n : Nat) (p : Plant) :
    (sendStep m op n p).tickets = p.tickets := by
  unfold sendStep; dsimp only; split <;> rfl
@[simp] theorem sendStep_nextTicket (m : Machine) (op : Op) (n : Nat) (p : Plant) :
    (sendStep m op n p).nextTicket = p.nextTicket := by
  unfold sendStep; dsimp only; split <;> rfl
@[simp] theorem sendStep_log (m : Machine) (op : Op) (n : Nat) (p : Plant) : (sendStep m op n p).log = p.log := by
  unfold sendStep; dsimp only; split <;> rfl
@[simp] theorem sendStep_psSide (m : Machine) (op : Op) (n : Nat) (p : Plant) :
    (sendStep m op n p).psSide = p.psSide := by
  unfold sendStep; dsimp only; split <;> rfl
@[simp] theorem sendStep_csSide (m : Machine) (op : Op) (n : Nat) (p : Plant) :
    (sendStep m op n p).csSide = p.csSide := by
  unfold sendStep; dsimp only; split <;> rfl
@[simp] theorem sendStep_charge (m : Machine) (op : Op) (n : Nat) (p : Plant) :
    (sendStep m op n p).charge = p.charge := by
  unfold sendStep; dsimp only; split <;> rfl
@[simp] theorem sendStep_ask (m : Machine) (op : Op) (n : Nat) (p : Plant) : (sendStep m op n p).ask = p.ask := by
  unfold sendStep; dsimp only; split <;> rfl
@[simp] theorem sendStep_mainPosition (m : Machine) (op : Op) (n : Nat) (p : Plant) :
    (sendStep m op n p).mainPosition = p.mainPosition := by
  unfold sendStep; dsimp only; split <;> rfl
@[simp] theorem sendStep_mainSetPoint (m : Machine) (op : Op) (n : Nat) (p : Plant) :
    (sendStep m op n p).mainSetPoint = p.mainSetPoint := by
  unfold sendStep; dsimp only; split <;> rfl
@[simp] theorem sendStep_sprayA (m : Machine) (op : Op) (n : Nat) (p : Plant) :
    (sendStep m op n p).sprayA = p.sprayA := by
  unfold sendStep; dsimp only; split <;> rfl
@[simp] theorem sendStep_sprayB (m : Machine) (op : Op) (n : Nat) (p : Plant) :
    (sendStep m op n p).sprayB = p.sprayB := by
  unfold sendStep; dsimp only; split <;> rfl
@[simp] theorem sendStep_carA (m : Machine) (op : Op) (n : Nat) (p : Plant) :
    (sendStep m op n p).carA = p.carA := by
  unfold sendStep; dsimp only; split <;> rfl
@[simp] theorem sendStep_carB (m : Machine) (op : Op) (n : Nat) (p : Plant) :
    (sendStep m op n p).carB = p.carB := by
  unfold sendStep; dsimp only; split <;> rfl
@[simp] theorem sendStep_grant (m : Machine) (op : Op) (n : Nat) (p : Plant) :
    (sendStep m op n p).grant = p.grant := by
  unfold sendStep; dsimp only; split <;> rfl
@[simp] theorem sendStep_waiting (m : Machine) (op : Op) (n : Nat) (p : Plant) :
    (sendStep m op n p).waiting = p.waiting := by
  unfold sendStep; dsimp only; split <;> rfl
@[simp] theorem sendStep_trackHold (m : Machine) (op : Op) (n : Nat) (p : Plant) :
    (sendStep m op n p).trackHold = p.trackHold := by
  unfold sendStep; dsimp only; split <;> rfl
@[simp] theorem sendStep_claimPm (m : Machine) (op : Op) (n : Nat) (p : Plant) :
    (sendStep m op n p).claimPm = p.claimPm := by
  unfold sendStep; dsimp only; split <;> rfl
@[simp] theorem sendStep_claimGc (m : Machine) (op : Op) (n : Nat) (p : Plant) :
    (sendStep m op n p).claimGc = p.claimGc := by
  unfold sendStep; dsimp only; split <;> rfl
@[simp] theorem sendStep_agenda (m : Machine) (op : Op) (n : Nat) (p : Plant) :
    (sendStep m op n p).agenda = p.agenda := by
  unfold sendStep; dsimp only; split <;> rfl
@[simp] theorem sendStep_sent (m : Machine) (op : Op) (n : Nat) (p : Plant) :
    (sendStep m op n p).sent = p.sent ++ [(m, .step op n)] := by
  unfold sendStep; dsimp only; split <;> rfl
@[simp] theorem sendStep_closingPresses (m : Machine) (op : Op) (n : Nat) (p : Plant) :
    (sendStep m op n p).closingPresses = if op = .press then p.closingPresses ++ [(m, n)] else p.closingPresses := by
  unfold sendStep; dsimp only; split <;> rfl

/-! ## pressAnswered -/

@[simp] theorem pressAnswered_sup (m : Machine) (n : Nat) (p : Plant) : (pressAnswered m n p).sup = p.sup := rfl
@[simp] theorem pressAnswered_pnl (m : Machine) (n : Nat) (p : Plant) : (pressAnswered m n p).pnl = p.pnl := rfl
@[simp] theorem pressAnswered_ovens (m : Machine) (n : Nat) (p : Plant) :
    (pressAnswered m n p).ovens = p.ovens := rfl
@[simp] theorem pressAnswered_cursor (m : Machine) (n : Nat) (p : Plant) :
    (pressAnswered m n p).cursor = p.cursor := rfl
@[simp] theorem pressAnswered_catchup (m : Machine) (n : Nat) (p : Plant) :
    (pressAnswered m n p).catchup = p.catchup := rfl
@[simp] theorem pressAnswered_catchLatch (m : Machine) (n : Nat) (p : Plant) :
    (pressAnswered m n p).catchLatch = p.catchLatch := rfl
@[simp] theorem pressAnswered_lastPushStart (m : Machine) (n : Nat) (p : Plant) :
    (pressAnswered m n p).lastPushStart = p.lastPushStart := rfl
@[simp] theorem pressAnswered_pacing (m : Machine) (n : Nat) (p : Plant) :
    (pressAnswered m n p).pacing = p.pacing := rfl
@[simp] theorem pressAnswered_tickets (m : Machine) (n : Nat) (p : Plant) :
    (pressAnswered m n p).tickets = p.tickets := rfl
@[simp] theorem pressAnswered_nextTicket (m : Machine) (n : Nat) (p : Plant) :
    (pressAnswered m n p).nextTicket = p.nextTicket := rfl
@[simp] theorem pressAnswered_log (m : Machine) (n : Nat) (p : Plant) : (pressAnswered m n p).log = p.log := rfl
@[simp] theorem pressAnswered_psSide (m : Machine) (n : Nat) (p : Plant) :
    (pressAnswered m n p).psSide = p.psSide := rfl
@[simp] theorem pressAnswered_csSide (m : Machine) (n : Nat) (p : Plant) :
    (pressAnswered m n p).csSide = p.csSide := rfl
@[simp] theorem pressAnswered_charge (m : Machine) (n : Nat) (p : Plant) :
    (pressAnswered m n p).charge = p.charge := rfl
@[simp] theorem pressAnswered_ask (m : Machine) (n : Nat) (p : Plant) : (pressAnswered m n p).ask = p.ask := rfl
@[simp] theorem pressAnswered_mainPosition (m : Machine) (n : Nat) (p : Plant) :
    (pressAnswered m n p).mainPosition = p.mainPosition := rfl
@[simp] theorem pressAnswered_mainSetPoint (m : Machine) (n : Nat) (p : Plant) :
    (pressAnswered m n p).mainSetPoint = p.mainSetPoint := rfl
@[simp] theorem pressAnswered_sprayA (m : Machine) (n : Nat) (p : Plant) :
    (pressAnswered m n p).sprayA = p.sprayA := rfl
@[simp] theorem pressAnswered_sprayB (m : Machine) (n : Nat) (p : Plant) :
    (pressAnswered m n p).sprayB = p.sprayB := rfl
@[simp] theorem pressAnswered_carA (m : Machine) (n : Nat) (p : Plant) : (pressAnswered m n p).carA = p.carA := rfl
@[simp] theorem pressAnswered_carB (m : Machine) (n : Nat) (p : Plant) : (pressAnswered m n p).carB = p.carB := rfl
@[simp] theorem pressAnswered_grant (m : Machine) (n : Nat) (p : Plant) :
    (pressAnswered m n p).grant = p.grant := rfl
@[simp] theorem pressAnswered_waiting (m : Machine) (n : Nat) (p : Plant) :
    (pressAnswered m n p).waiting = p.waiting := rfl
@[simp] theorem pressAnswered_trackHold (m : Machine) (n : Nat) (p : Plant) :
    (pressAnswered m n p).trackHold = p.trackHold := rfl
@[simp] theorem pressAnswered_claimPm (m : Machine) (n : Nat) (p : Plant) :
    (pressAnswered m n p).claimPm = p.claimPm := rfl
@[simp] theorem pressAnswered_claimGc (m : Machine) (n : Nat) (p : Plant) :
    (pressAnswered m n p).claimGc = p.claimGc := rfl
@[simp] theorem pressAnswered_sent (m : Machine) (n : Nat) (p : Plant) : (pressAnswered m n p).sent = p.sent := rfl
@[simp] theorem pressAnswered_agenda (m : Machine) (n : Nat) (p : Plant) :
    (pressAnswered m n p).agenda = p.agenda := rfl
@[simp] theorem pressAnswered_closingPresses (m : Machine) (n : Nat) (p : Plant) :
    (pressAnswered m n p).closingPresses = p.closingPresses.erase (m, n) := rfl

/-! ## forgetPresses -/

@[simp] theorem forgetPresses_sup (m : Machine) (n : Nat) (p : Plant) : (forgetPresses m n p).sup = p.sup := rfl
@[simp] theorem forgetPresses_pnl (m : Machine) (n : Nat) (p : Plant) : (forgetPresses m n p).pnl = p.pnl := rfl
@[simp] theorem forgetPresses_ovens (m : Machine) (n : Nat) (p : Plant) :
    (forgetPresses m n p).ovens = p.ovens := rfl
@[simp] theorem forgetPresses_cursor (m : Machine) (n : Nat) (p : Plant) :
    (forgetPresses m n p).cursor = p.cursor := rfl
@[simp] theorem forgetPresses_catchup (m : Machine) (n : Nat) (p : Plant) :
    (forgetPresses m n p).catchup = p.catchup := rfl
@[simp] theorem forgetPresses_catchLatch (m : Machine) (n : Nat) (p : Plant) :
    (forgetPresses m n p).catchLatch = p.catchLatch := rfl
@[simp] theorem forgetPresses_lastPushStart (m : Machine) (n : Nat) (p : Plant) :
    (forgetPresses m n p).lastPushStart = p.lastPushStart := rfl
@[simp] theorem forgetPresses_pacing (m : Machine) (n : Nat) (p : Plant) :
    (forgetPresses m n p).pacing = p.pacing := rfl
@[simp] theorem forgetPresses_tickets (m : Machine) (n : Nat) (p : Plant) :
    (forgetPresses m n p).tickets = p.tickets := rfl
@[simp] theorem forgetPresses_nextTicket (m : Machine) (n : Nat) (p : Plant) :
    (forgetPresses m n p).nextTicket = p.nextTicket := rfl
@[simp] theorem forgetPresses_log (m : Machine) (n : Nat) (p : Plant) : (forgetPresses m n p).log = p.log := rfl
@[simp] theorem forgetPresses_psSide (m : Machine) (n : Nat) (p : Plant) :
    (forgetPresses m n p).psSide = p.psSide := rfl
@[simp] theorem forgetPresses_csSide (m : Machine) (n : Nat) (p : Plant) :
    (forgetPresses m n p).csSide = p.csSide := rfl
@[simp] theorem forgetPresses_charge (m : Machine) (n : Nat) (p : Plant) :
    (forgetPresses m n p).charge = p.charge := rfl
@[simp] theorem forgetPresses_ask (m : Machine) (n : Nat) (p : Plant) : (forgetPresses m n p).ask = p.ask := rfl
@[simp] theorem forgetPresses_mainPosition (m : Machine) (n : Nat) (p : Plant) :
    (forgetPresses m n p).mainPosition = p.mainPosition := rfl
@[simp] theorem forgetPresses_mainSetPoint (m : Machine) (n : Nat) (p : Plant) :
    (forgetPresses m n p).mainSetPoint = p.mainSetPoint := rfl
@[simp] theorem forgetPresses_sprayA (m : Machine) (n : Nat) (p : Plant) :
    (forgetPresses m n p).sprayA = p.sprayA := rfl
@[simp] theorem forgetPresses_sprayB (m : Machine) (n : Nat) (p : Plant) :
    (forgetPresses m n p).sprayB = p.sprayB := rfl
@[simp] theorem forgetPresses_carA (m : Machine) (n : Nat) (p : Plant) : (forgetPresses m n p).carA = p.carA := rfl
@[simp] theorem forgetPresses_carB (m : Machine) (n : Nat) (p : Plant) : (forgetPresses m n p).carB = p.carB := rfl
@[simp] theorem forgetPresses_grant (m : Machine) (n : Nat) (p : Plant) :
    (forgetPresses m n p).grant = p.grant := rfl
@[simp] theorem forgetPresses_waiting (m : Machine) (n : Nat) (p : Plant) :
    (forgetPresses m n p).waiting = p.waiting := rfl
@[simp] theorem forgetPresses_trackHold (m : Machine) (n : Nat) (p : Plant) :
    (forgetPresses m n p).trackHold = p.trackHold := rfl
@[simp] theorem forgetPresses_claimPm (m : Machine) (n : Nat) (p : Plant) :
    (forgetPresses m n p).claimPm = p.claimPm := rfl
@[simp] theorem forgetPresses_claimGc (m : Machine) (n : Nat) (p : Plant) :
    (forgetPresses m n p).claimGc = p.claimGc := rfl
@[simp] theorem forgetPresses_sent (m : Machine) (n : Nat) (p : Plant) : (forgetPresses m n p).sent = p.sent := rfl
@[simp] theorem forgetPresses_agenda (m : Machine) (n : Nat) (p : Plant) :
    (forgetPresses m n p).agenda = p.agenda := rfl
@[simp] theorem forgetPresses_closingPresses (m : Machine) (n : Nat) (p : Plant) :
    (forgetPresses m n p).closingPresses = p.closingPresses.filter (· ≠ (m, n)) := rfl

/-! ## start -/

@[simp] theorem start_sup (t : Task) (p : Plant) : (start t p).sup = p.sup := rfl
@[simp] theorem start_pnl (t : Task) (p : Plant) : (start t p).pnl = p.pnl := rfl
@[simp] theorem start_ovens (t : Task) (p : Plant) : (start t p).ovens = p.ovens := rfl
@[simp] theorem start_cursor (t : Task) (p : Plant) : (start t p).cursor = p.cursor := rfl
@[simp] theorem start_catchup (t : Task) (p : Plant) : (start t p).catchup = p.catchup := rfl
@[simp] theorem start_catchLatch (t : Task) (p : Plant) : (start t p).catchLatch = p.catchLatch := rfl
@[simp] theorem start_lastPushStart (t : Task) (p : Plant) : (start t p).lastPushStart = p.lastPushStart := rfl
@[simp] theorem start_pacing (t : Task) (p : Plant) : (start t p).pacing = p.pacing := rfl
@[simp] theorem start_tickets (t : Task) (p : Plant) : (start t p).tickets = p.tickets := rfl
@[simp] theorem start_nextTicket (t : Task) (p : Plant) : (start t p).nextTicket = p.nextTicket := rfl
@[simp] theorem start_log (t : Task) (p : Plant) : (start t p).log = p.log := rfl
@[simp] theorem start_psSide (t : Task) (p : Plant) : (start t p).psSide = p.psSide := rfl
@[simp] theorem start_csSide (t : Task) (p : Plant) : (start t p).csSide = p.csSide := rfl
@[simp] theorem start_charge (t : Task) (p : Plant) : (start t p).charge = p.charge := rfl
@[simp] theorem start_ask (t : Task) (p : Plant) : (start t p).ask = p.ask := rfl
@[simp] theorem start_mainPosition (t : Task) (p : Plant) : (start t p).mainPosition = p.mainPosition := rfl
@[simp] theorem start_mainSetPoint (t : Task) (p : Plant) : (start t p).mainSetPoint = p.mainSetPoint := rfl
@[simp] theorem start_sprayA (t : Task) (p : Plant) : (start t p).sprayA = p.sprayA := rfl
@[simp] theorem start_sprayB (t : Task) (p : Plant) : (start t p).sprayB = p.sprayB := rfl
@[simp] theorem start_carA (t : Task) (p : Plant) : (start t p).carA = p.carA := rfl
@[simp] theorem start_carB (t : Task) (p : Plant) : (start t p).carB = p.carB := rfl
@[simp] theorem start_grant (t : Task) (p : Plant) : (start t p).grant = p.grant := rfl
@[simp] theorem start_waiting (t : Task) (p : Plant) : (start t p).waiting = p.waiting := rfl
@[simp] theorem start_trackHold (t : Task) (p : Plant) : (start t p).trackHold = p.trackHold := rfl
@[simp] theorem start_claimPm (t : Task) (p : Plant) : (start t p).claimPm = p.claimPm := rfl
@[simp] theorem start_claimGc (t : Task) (p : Plant) : (start t p).claimGc = p.claimGc := rfl
@[simp] theorem start_sent (t : Task) (p : Plant) : (start t p).sent = p.sent := rfl
@[simp] theorem start_closingPresses (t : Task) (p : Plant) : (start t p).closingPresses = p.closingPresses := rfl
@[simp] theorem start_agenda (t : Task) (p : Plant) : (start t p).agenda = insertTask t p.agenda := rfl

/-! ## startAll -/

@[simp] theorem startAll_sup (ts : List Task) (p : Plant) : (startAll ts p).sup = p.sup := rfl
@[simp] theorem startAll_pnl (ts : List Task) (p : Plant) : (startAll ts p).pnl = p.pnl := rfl
@[simp] theorem startAll_ovens (ts : List Task) (p : Plant) : (startAll ts p).ovens = p.ovens := rfl
@[simp] theorem startAll_cursor (ts : List Task) (p : Plant) : (startAll ts p).cursor = p.cursor := rfl
@[simp] theorem startAll_catchup (ts : List Task) (p : Plant) : (startAll ts p).catchup = p.catchup := rfl
@[simp] theorem startAll_catchLatch (ts : List Task) (p : Plant) : (startAll ts p).catchLatch = p.catchLatch := rfl
@[simp] theorem startAll_lastPushStart (ts : List Task) (p : Plant) :
    (startAll ts p).lastPushStart = p.lastPushStart := rfl
@[simp] theorem startAll_pacing (ts : List Task) (p : Plant) : (startAll ts p).pacing = p.pacing := rfl
@[simp] theorem startAll_tickets (ts : List Task) (p : Plant) : (startAll ts p).tickets = p.tickets := rfl
@[simp] theorem startAll_nextTicket (ts : List Task) (p : Plant) : (startAll ts p).nextTicket = p.nextTicket := rfl
@[simp] theorem startAll_log (ts : List Task) (p : Plant) : (startAll ts p).log = p.log := rfl
@[simp] theorem startAll_psSide (ts : List Task) (p : Plant) : (startAll ts p).psSide = p.psSide := rfl
@[simp] theorem startAll_csSide (ts : List Task) (p : Plant) : (startAll ts p).csSide = p.csSide := rfl
@[simp] theorem startAll_charge (ts : List Task) (p : Plant) : (startAll ts p).charge = p.charge := rfl
@[simp] theorem startAll_ask (ts : List Task) (p : Plant) : (startAll ts p).ask = p.ask := rfl
@[simp] theorem startAll_mainPosition (ts : List Task) (p : Plant) :
    (startAll ts p).mainPosition = p.mainPosition := rfl
@[simp] theorem startAll_mainSetPoint (ts : List Task) (p : Plant) :
    (startAll ts p).mainSetPoint = p.mainSetPoint := rfl
@[simp] theorem startAll_sprayA (ts : List Task) (p : Plant) : (startAll ts p).sprayA = p.sprayA := rfl
@[simp] theorem startAll_sprayB (ts : List Task) (p : Plant) : (startAll ts p).sprayB = p.sprayB := rfl
@[simp] theorem startAll_carA (ts : List Task) (p : Plant) : (startAll ts p).carA = p.carA := rfl
@[simp] theorem startAll_carB (ts : List Task) (p : Plant) : (startAll ts p).carB = p.carB := rfl
@[simp] theorem startAll_grant (ts : List Task) (p : Plant) : (startAll ts p).grant = p.grant := rfl
@[simp] theorem startAll_waiting (ts : List Task) (p : Plant) : (startAll ts p).waiting = p.waiting := rfl
@[simp] theorem startAll_trackHold (ts : List Task) (p : Plant) : (startAll ts p).trackHold = p.trackHold := rfl
@[simp] theorem startAll_claimPm (ts : List Task) (p : Plant) : (startAll ts p).claimPm = p.claimPm := rfl
@[simp] theorem startAll_claimGc (ts : List Task) (p : Plant) : (startAll ts p).claimGc = p.claimGc := rfl
@[simp] theorem startAll_sent (ts : List Task) (p : Plant) : (startAll ts p).sent = p.sent := rfl
@[simp] theorem startAll_closingPresses (ts : List Task) (p : Plant) :
    (startAll ts p).closingPresses = p.closingPresses := rfl
@[simp] theorem startAll_agenda (ts : List Task) (p : Plant) :
    (startAll ts p).agenda = ts.foldl (fun agenda t => insertTask t agenda) p.agenda := rfl

/-! ## modOven -/

@[simp] theorem Plant.modOven_sup (p : Plant) (n : Nat) (f : Oven → Oven) : (p.modOven n f).sup = p.sup := rfl
@[simp] theorem Plant.modOven_pnl (p : Plant) (n : Nat) (f : Oven → Oven) : (p.modOven n f).pnl = p.pnl := rfl
@[simp] theorem Plant.modOven_cursor (p : Plant) (n : Nat) (f : Oven → Oven) :
    (p.modOven n f).cursor = p.cursor := rfl
@[simp] theorem Plant.modOven_catchup (p : Plant) (n : Nat) (f : Oven → Oven) :
    (p.modOven n f).catchup = p.catchup := rfl
@[simp] theorem Plant.modOven_catchLatch (p : Plant) (n : Nat) (f : Oven → Oven) :
    (p.modOven n f).catchLatch = p.catchLatch := rfl
@[simp] theorem Plant.modOven_lastPushStart (p : Plant) (n : Nat) (f : Oven → Oven) :
    (p.modOven n f).lastPushStart = p.lastPushStart := rfl
@[simp] theorem Plant.modOven_pacing (p : Plant) (n : Nat) (f : Oven → Oven) :
    (p.modOven n f).pacing = p.pacing := rfl
@[simp] theorem Plant.modOven_tickets (p : Plant) (n : Nat) (f : Oven → Oven) :
    (p.modOven n f).tickets = p.tickets := rfl
@[simp] theorem Plant.modOven_nextTicket (p : Plant) (n : Nat) (f : Oven → Oven) :
    (p.modOven n f).nextTicket = p.nextTicket := rfl
@[simp] theorem Plant.modOven_log (p : Plant) (n : Nat) (f : Oven → Oven) : (p.modOven n f).log = p.log := rfl
@[simp] theorem Plant.modOven_psSide (p : Plant) (n : Nat) (f : Oven → Oven) :
    (p.modOven n f).psSide = p.psSide := rfl
@[simp] theorem Plant.modOven_csSide (p : Plant) (n : Nat) (f : Oven → Oven) :
    (p.modOven n f).csSide = p.csSide := rfl
@[simp] theorem Plant.modOven_charge (p : Plant) (n : Nat) (f : Oven → Oven) :
    (p.modOven n f).charge = p.charge := rfl
@[simp] theorem Plant.modOven_ask (p : Plant) (n : Nat) (f : Oven → Oven) : (p.modOven n f).ask = p.ask := rfl
@[simp] theorem Plant.modOven_mainPosition (p : Plant) (n : Nat) (f : Oven → Oven) :
    (p.modOven n f).mainPosition = p.mainPosition := rfl
@[simp] theorem Plant.modOven_mainSetPoint (p : Plant) (n : Nat) (f : Oven → Oven) :
    (p.modOven n f).mainSetPoint = p.mainSetPoint := rfl
@[simp] theorem Plant.modOven_sprayA (p : Plant) (n : Nat) (f : Oven → Oven) :
    (p.modOven n f).sprayA = p.sprayA := rfl
@[simp] theorem Plant.modOven_sprayB (p : Plant) (n : Nat) (f : Oven → Oven) :
    (p.modOven n f).sprayB = p.sprayB := rfl
@[simp] theorem Plant.modOven_carA (p : Plant) (n : Nat) (f : Oven → Oven) : (p.modOven n f).carA = p.carA := rfl
@[simp] theorem Plant.modOven_carB (p : Plant) (n : Nat) (f : Oven → Oven) : (p.modOven n f).carB = p.carB := rfl
@[simp] theorem Plant.modOven_grant (p : Plant) (n : Nat) (f : Oven → Oven) : (p.modOven n f).grant = p.grant := rfl
@[simp] theorem Plant.modOven_waiting (p : Plant) (n : Nat) (f : Oven → Oven) :
    (p.modOven n f).waiting = p.waiting := rfl
@[simp] theorem Plant.modOven_trackHold (p : Plant) (n : Nat) (f : Oven → Oven) :
    (p.modOven n f).trackHold = p.trackHold := rfl
@[simp] theorem Plant.modOven_claimPm (p : Plant) (n : Nat) (f : Oven → Oven) :
    (p.modOven n f).claimPm = p.claimPm := rfl
@[simp] theorem Plant.modOven_claimGc (p : Plant) (n : Nat) (f : Oven → Oven) :
    (p.modOven n f).claimGc = p.claimGc := rfl
@[simp] theorem Plant.modOven_sent (p : Plant) (n : Nat) (f : Oven → Oven) : (p.modOven n f).sent = p.sent := rfl
@[simp] theorem Plant.modOven_closingPresses (p : Plant) (n : Nat) (f : Oven → Oven) :
    (p.modOven n f).closingPresses = p.closingPresses := rfl
@[simp] theorem Plant.modOven_agenda (p : Plant) (n : Nat) (f : Oven → Oven) :
    (p.modOven n f).agenda = p.agenda := rfl
@[simp] theorem Plant.modOven_ovens (p : Plant) (n : Nat) (f : Oven → Oven) :
    (p.modOven n f).ovens = updateNumbered p.ovens n f := rfl

/-! ## modValve -/

@[simp] theorem Plant.modValve_sup (p : Plant) (n : Nat) (f : Valve → Valve) : (p.modValve n f).sup = p.sup := rfl
@[simp] theorem Plant.modValve_pnl (p : Plant) (n : Nat) (f : Valve → Valve) : (p.modValve n f).pnl = p.pnl := rfl
@[simp] theorem Plant.modValve_cursor (p : Plant) (n : Nat) (f : Valve → Valve) :
    (p.modValve n f).cursor = p.cursor := rfl
@[simp] theorem Plant.modValve_catchup (p : Plant) (n : Nat) (f : Valve → Valve) :
    (p.modValve n f).catchup = p.catchup := rfl
@[simp] theorem Plant.modValve_catchLatch (p : Plant) (n : Nat) (f : Valve → Valve) :
    (p.modValve n f).catchLatch = p.catchLatch := rfl
@[simp] theorem Plant.modValve_lastPushStart (p : Plant) (n : Nat) (f : Valve → Valve) :
    (p.modValve n f).lastPushStart = p.lastPushStart := rfl
@[simp] theorem Plant.modValve_pacing (p : Plant) (n : Nat) (f : Valve → Valve) :
    (p.modValve n f).pacing = p.pacing := rfl
@[simp] theorem Plant.modValve_tickets (p : Plant) (n : Nat) (f : Valve → Valve) :
    (p.modValve n f).tickets = p.tickets := rfl
@[simp] theorem Plant.modValve_nextTicket (p : Plant) (n : Nat) (f : Valve → Valve) :
    (p.modValve n f).nextTicket = p.nextTicket := rfl
@[simp] theorem Plant.modValve_log (p : Plant) (n : Nat) (f : Valve → Valve) : (p.modValve n f).log = p.log := rfl
@[simp] theorem Plant.modValve_psSide (p : Plant) (n : Nat) (f : Valve → Valve) :
    (p.modValve n f).psSide = p.psSide := rfl
@[simp] theorem Plant.modValve_csSide (p : Plant) (n : Nat) (f : Valve → Valve) :
    (p.modValve n f).csSide = p.csSide := rfl
@[simp] theorem Plant.modValve_charge (p : Plant) (n : Nat) (f : Valve → Valve) :
    (p.modValve n f).charge = p.charge := rfl
@[simp] theorem Plant.modValve_ask (p : Plant) (n : Nat) (f : Valve → Valve) : (p.modValve n f).ask = p.ask := rfl
@[simp] theorem Plant.modValve_mainPosition (p : Plant) (n : Nat) (f : Valve → Valve) :
    (p.modValve n f).mainPosition = p.mainPosition := rfl
@[simp] theorem Plant.modValve_mainSetPoint (p : Plant) (n : Nat) (f : Valve → Valve) :
    (p.modValve n f).mainSetPoint = p.mainSetPoint := rfl
@[simp] theorem Plant.modValve_sprayA (p : Plant) (n : Nat) (f : Valve → Valve) :
    (p.modValve n f).sprayA = p.sprayA := rfl
@[simp] theorem Plant.modValve_sprayB (p : Plant) (n : Nat) (f : Valve → Valve) :
    (p.modValve n f).sprayB = p.sprayB := rfl
@[simp] theorem Plant.modValve_carA (p : Plant) (n : Nat) (f : Valve → Valve) :
    (p.modValve n f).carA = p.carA := rfl
@[simp] theorem Plant.modValve_carB (p : Plant) (n : Nat) (f : Valve → Valve) :
    (p.modValve n f).carB = p.carB := rfl
@[simp] theorem Plant.modValve_grant (p : Plant) (n : Nat) (f : Valve → Valve) :
    (p.modValve n f).grant = p.grant := rfl
@[simp] theorem Plant.modValve_waiting (p : Plant) (n : Nat) (f : Valve → Valve) :
    (p.modValve n f).waiting = p.waiting := rfl
@[simp] theorem Plant.modValve_trackHold (p : Plant) (n : Nat) (f : Valve → Valve) :
    (p.modValve n f).trackHold = p.trackHold := rfl
@[simp] theorem Plant.modValve_claimPm (p : Plant) (n : Nat) (f : Valve → Valve) :
    (p.modValve n f).claimPm = p.claimPm := rfl
@[simp] theorem Plant.modValve_claimGc (p : Plant) (n : Nat) (f : Valve → Valve) :
    (p.modValve n f).claimGc = p.claimGc := rfl
@[simp] theorem Plant.modValve_sent (p : Plant) (n : Nat) (f : Valve → Valve) :
    (p.modValve n f).sent = p.sent := rfl
@[simp] theorem Plant.modValve_closingPresses (p : Plant) (n : Nat) (f : Valve → Valve) :
    (p.modValve n f).closingPresses = p.closingPresses := rfl
@[simp] theorem Plant.modValve_agenda (p : Plant) (n : Nat) (f : Valve → Valve) :
    (p.modValve n f).agenda = p.agenda := rfl

/-! ## modTicket -/

@[simp] theorem Plant.modTicket_sup (p : Plant) (num : Nat) (f : Ticket → Ticket) :
    (p.modTicket num f).sup = p.sup := rfl
@[simp] theorem Plant.modTicket_pnl (p : Plant) (num : Nat) (f : Ticket → Ticket) :
    (p.modTicket num f).pnl = p.pnl := rfl
@[simp] theorem Plant.modTicket_ovens (p : Plant) (num : Nat) (f : Ticket → Ticket) :
    (p.modTicket num f).ovens = p.ovens := rfl
@[simp] theorem Plant.modTicket_cursor (p : Plant) (num : Nat) (f : Ticket → Ticket) :
    (p.modTicket num f).cursor = p.cursor := rfl
@[simp] theorem Plant.modTicket_catchup (p : Plant) (num : Nat) (f : Ticket → Ticket) :
    (p.modTicket num f).catchup = p.catchup := rfl
@[simp] theorem Plant.modTicket_catchLatch (p : Plant) (num : Nat) (f : Ticket → Ticket) :
    (p.modTicket num f).catchLatch = p.catchLatch := rfl
@[simp] theorem Plant.modTicket_lastPushStart (p : Plant) (num : Nat) (f : Ticket → Ticket) :
    (p.modTicket num f).lastPushStart = p.lastPushStart := rfl
@[simp] theorem Plant.modTicket_pacing (p : Plant) (num : Nat) (f : Ticket → Ticket) :
    (p.modTicket num f).pacing = p.pacing := rfl
@[simp] theorem Plant.modTicket_nextTicket (p : Plant) (num : Nat) (f : Ticket → Ticket) :
    (p.modTicket num f).nextTicket = p.nextTicket := rfl
@[simp] theorem Plant.modTicket_log (p : Plant) (num : Nat) (f : Ticket → Ticket) :
    (p.modTicket num f).log = p.log := rfl
@[simp] theorem Plant.modTicket_psSide (p : Plant) (num : Nat) (f : Ticket → Ticket) :
    (p.modTicket num f).psSide = p.psSide := rfl
@[simp] theorem Plant.modTicket_csSide (p : Plant) (num : Nat) (f : Ticket → Ticket) :
    (p.modTicket num f).csSide = p.csSide := rfl
@[simp] theorem Plant.modTicket_charge (p : Plant) (num : Nat) (f : Ticket → Ticket) :
    (p.modTicket num f).charge = p.charge := rfl
@[simp] theorem Plant.modTicket_ask (p : Plant) (num : Nat) (f : Ticket → Ticket) :
    (p.modTicket num f).ask = p.ask := rfl
@[simp] theorem Plant.modTicket_mainPosition (p : Plant) (num : Nat) (f : Ticket → Ticket) :
    (p.modTicket num f).mainPosition = p.mainPosition := rfl
@[simp] theorem Plant.modTicket_mainSetPoint (p : Plant) (num : Nat) (f : Ticket → Ticket) :
    (p.modTicket num f).mainSetPoint = p.mainSetPoint := rfl
@[simp] theorem Plant.modTicket_sprayA (p : Plant) (num : Nat) (f : Ticket → Ticket) :
    (p.modTicket num f).sprayA = p.sprayA := rfl
@[simp] theorem Plant.modTicket_sprayB (p : Plant) (num : Nat) (f : Ticket → Ticket) :
    (p.modTicket num f).sprayB = p.sprayB := rfl
@[simp] theorem Plant.modTicket_carA (p : Plant) (num : Nat) (f : Ticket → Ticket) :
    (p.modTicket num f).carA = p.carA := rfl
@[simp] theorem Plant.modTicket_carB (p : Plant) (num : Nat) (f : Ticket → Ticket) :
    (p.modTicket num f).carB = p.carB := rfl
@[simp] theorem Plant.modTicket_grant (p : Plant) (num : Nat) (f : Ticket → Ticket) :
    (p.modTicket num f).grant = p.grant := rfl
@[simp] theorem Plant.modTicket_waiting (p : Plant) (num : Nat) (f : Ticket → Ticket) :
    (p.modTicket num f).waiting = p.waiting := rfl
@[simp] theorem Plant.modTicket_trackHold (p : Plant) (num : Nat) (f : Ticket → Ticket) :
    (p.modTicket num f).trackHold = p.trackHold := rfl
@[simp] theorem Plant.modTicket_claimPm (p : Plant) (num : Nat) (f : Ticket → Ticket) :
    (p.modTicket num f).claimPm = p.claimPm := rfl
@[simp] theorem Plant.modTicket_claimGc (p : Plant) (num : Nat) (f : Ticket → Ticket) :
    (p.modTicket num f).claimGc = p.claimGc := rfl
@[simp] theorem Plant.modTicket_sent (p : Plant) (num : Nat) (f : Ticket → Ticket) :
    (p.modTicket num f).sent = p.sent := rfl
@[simp] theorem Plant.modTicket_closingPresses (p : Plant) (num : Nat) (f : Ticket → Ticket) :
    (p.modTicket num f).closingPresses = p.closingPresses := rfl
@[simp] theorem Plant.modTicket_agenda (p : Plant) (num : Nat) (f : Ticket → Ticket) :
    (p.modTicket num f).agenda = p.agenda := rfl
@[simp] theorem Plant.modTicket_tickets (p : Plant) (num : Nat) (f : Ticket → Ticket) :
    (p.modTicket num f).tickets = p.tickets.map fun t => if t.number = num then f t else t := rfl

/-! ## modSide -/

@[simp] theorem Plant.modSide_sup (p : Plant) (side : Side) (f : ServiceSide → ServiceSide) :
    (p.modSide side f).sup = p.sup := by
  cases side <;> rfl
@[simp] theorem Plant.modSide_pnl (p : Plant) (side : Side) (f : ServiceSide → ServiceSide) :
    (p.modSide side f).pnl = p.pnl := by
  cases side <;> rfl
@[simp] theorem Plant.modSide_ovens (p : Plant) (side : Side) (f : ServiceSide → ServiceSide) :
    (p.modSide side f).ovens = p.ovens := by
  cases side <;> rfl
@[simp] theorem Plant.modSide_cursor (p : Plant) (side : Side) (f : ServiceSide → ServiceSide) :
    (p.modSide side f).cursor = p.cursor := by
  cases side <;> rfl
@[simp] theorem Plant.modSide_catchup (p : Plant) (side : Side) (f : ServiceSide → ServiceSide) :
    (p.modSide side f).catchup = p.catchup := by
  cases side <;> rfl
@[simp] theorem Plant.modSide_catchLatch (p : Plant) (side : Side) (f : ServiceSide → ServiceSide) :
    (p.modSide side f).catchLatch = p.catchLatch := by
  cases side <;> rfl
@[simp] theorem Plant.modSide_lastPushStart (p : Plant) (side : Side) (f : ServiceSide → ServiceSide) :
    (p.modSide side f).lastPushStart = p.lastPushStart := by
  cases side <;> rfl
@[simp] theorem Plant.modSide_pacing (p : Plant) (side : Side) (f : ServiceSide → ServiceSide) :
    (p.modSide side f).pacing = p.pacing := by
  cases side <;> rfl
@[simp] theorem Plant.modSide_tickets (p : Plant) (side : Side) (f : ServiceSide → ServiceSide) :
    (p.modSide side f).tickets = p.tickets := by
  cases side <;> rfl
@[simp] theorem Plant.modSide_nextTicket (p : Plant) (side : Side) (f : ServiceSide → ServiceSide) :
    (p.modSide side f).nextTicket = p.nextTicket := by
  cases side <;> rfl
@[simp] theorem Plant.modSide_log (p : Plant) (side : Side) (f : ServiceSide → ServiceSide) :
    (p.modSide side f).log = p.log := by
  cases side <;> rfl
@[simp] theorem Plant.modSide_charge (p : Plant) (side : Side) (f : ServiceSide → ServiceSide) :
    (p.modSide side f).charge = p.charge := by
  cases side <;> rfl
@[simp] theorem Plant.modSide_ask (p : Plant) (side : Side) (f : ServiceSide → ServiceSide) :
    (p.modSide side f).ask = p.ask := by
  cases side <;> rfl
@[simp] theorem Plant.modSide_mainPosition (p : Plant) (side : Side) (f : ServiceSide → ServiceSide) :
    (p.modSide side f).mainPosition = p.mainPosition := by
  cases side <;> rfl
@[simp] theorem Plant.modSide_mainSetPoint (p : Plant) (side : Side) (f : ServiceSide → ServiceSide) :
    (p.modSide side f).mainSetPoint = p.mainSetPoint := by
  cases side <;> rfl
@[simp] theorem Plant.modSide_sprayA (p : Plant) (side : Side) (f : ServiceSide → ServiceSide) :
    (p.modSide side f).sprayA = p.sprayA := by
  cases side <;> rfl
@[simp] theorem Plant.modSide_sprayB (p : Plant) (side : Side) (f : ServiceSide → ServiceSide) :
    (p.modSide side f).sprayB = p.sprayB := by
  cases side <;> rfl
@[simp] theorem Plant.modSide_carA (p : Plant) (side : Side) (f : ServiceSide → ServiceSide) :
    (p.modSide side f).carA = p.carA := by
  cases side <;> rfl
@[simp] theorem Plant.modSide_carB (p : Plant) (side : Side) (f : ServiceSide → ServiceSide) :
    (p.modSide side f).carB = p.carB := by
  cases side <;> rfl
@[simp] theorem Plant.modSide_grant (p : Plant) (side : Side) (f : ServiceSide → ServiceSide) :
    (p.modSide side f).grant = p.grant := by
  cases side <;> rfl
@[simp] theorem Plant.modSide_waiting (p : Plant) (side : Side) (f : ServiceSide → ServiceSide) :
    (p.modSide side f).waiting = p.waiting := by
  cases side <;> rfl
@[simp] theorem Plant.modSide_trackHold (p : Plant) (side : Side) (f : ServiceSide → ServiceSide) :
    (p.modSide side f).trackHold = p.trackHold := by
  cases side <;> rfl
@[simp] theorem Plant.modSide_claimPm (p : Plant) (side : Side) (f : ServiceSide → ServiceSide) :
    (p.modSide side f).claimPm = p.claimPm := by
  cases side <;> rfl
@[simp] theorem Plant.modSide_claimGc (p : Plant) (side : Side) (f : ServiceSide → ServiceSide) :
    (p.modSide side f).claimGc = p.claimGc := by
  cases side <;> rfl
@[simp] theorem Plant.modSide_sent (p : Plant) (side : Side) (f : ServiceSide → ServiceSide) :
    (p.modSide side f).sent = p.sent := by
  cases side <;> rfl
@[simp] theorem Plant.modSide_closingPresses (p : Plant) (side : Side) (f : ServiceSide → ServiceSide) :
    (p.modSide side f).closingPresses = p.closingPresses := by
  cases side <;> rfl
@[simp] theorem Plant.modSide_agenda (p : Plant) (side : Side) (f : ServiceSide → ServiceSide) :
    (p.modSide side f).agenda = p.agenda := by
  cases side <;> rfl
@[simp] theorem Plant.modSide_side (p : Plant) (side : Side) (f : ServiceSide → ServiceSide) :
    (p.modSide side f).side side = f (p.side side) := by
  cases side <;> rfl

/-! ## modCar -/

@[simp] theorem Plant.modCar_sup (p : Plant) (c : Car) (f : CarRecord → CarRecord) :
    (p.modCar c f).sup = p.sup := by
  cases c <;> rfl
@[simp] theorem Plant.modCar_pnl (p : Plant) (c : Car) (f : CarRecord → CarRecord) :
    (p.modCar c f).pnl = p.pnl := by
  cases c <;> rfl
@[simp] theorem Plant.modCar_ovens (p : Plant) (c : Car) (f : CarRecord → CarRecord) :
    (p.modCar c f).ovens = p.ovens := by
  cases c <;> rfl
@[simp] theorem Plant.modCar_cursor (p : Plant) (c : Car) (f : CarRecord → CarRecord) :
    (p.modCar c f).cursor = p.cursor := by
  cases c <;> rfl
@[simp] theorem Plant.modCar_catchup (p : Plant) (c : Car) (f : CarRecord → CarRecord) :
    (p.modCar c f).catchup = p.catchup := by
  cases c <;> rfl
@[simp] theorem Plant.modCar_catchLatch (p : Plant) (c : Car) (f : CarRecord → CarRecord) :
    (p.modCar c f).catchLatch = p.catchLatch := by
  cases c <;> rfl
@[simp] theorem Plant.modCar_lastPushStart (p : Plant) (c : Car) (f : CarRecord → CarRecord) :
    (p.modCar c f).lastPushStart = p.lastPushStart := by
  cases c <;> rfl
@[simp] theorem Plant.modCar_pacing (p : Plant) (c : Car) (f : CarRecord → CarRecord) :
    (p.modCar c f).pacing = p.pacing := by
  cases c <;> rfl
@[simp] theorem Plant.modCar_tickets (p : Plant) (c : Car) (f : CarRecord → CarRecord) :
    (p.modCar c f).tickets = p.tickets := by
  cases c <;> rfl
@[simp] theorem Plant.modCar_nextTicket (p : Plant) (c : Car) (f : CarRecord → CarRecord) :
    (p.modCar c f).nextTicket = p.nextTicket := by
  cases c <;> rfl
@[simp] theorem Plant.modCar_log (p : Plant) (c : Car) (f : CarRecord → CarRecord) :
    (p.modCar c f).log = p.log := by
  cases c <;> rfl
@[simp] theorem Plant.modCar_psSide (p : Plant) (c : Car) (f : CarRecord → CarRecord) :
    (p.modCar c f).psSide = p.psSide := by
  cases c <;> rfl
@[simp] theorem Plant.modCar_csSide (p : Plant) (c : Car) (f : CarRecord → CarRecord) :
    (p.modCar c f).csSide = p.csSide := by
  cases c <;> rfl
@[simp] theorem Plant.modCar_charge (p : Plant) (c : Car) (f : CarRecord → CarRecord) :
    (p.modCar c f).charge = p.charge := by
  cases c <;> rfl
@[simp] theorem Plant.modCar_ask (p : Plant) (c : Car) (f : CarRecord → CarRecord) :
    (p.modCar c f).ask = p.ask := by
  cases c <;> rfl
@[simp] theorem Plant.modCar_mainPosition (p : Plant) (c : Car) (f : CarRecord → CarRecord) :
    (p.modCar c f).mainPosition = p.mainPosition := by
  cases c <;> rfl
@[simp] theorem Plant.modCar_mainSetPoint (p : Plant) (c : Car) (f : CarRecord → CarRecord) :
    (p.modCar c f).mainSetPoint = p.mainSetPoint := by
  cases c <;> rfl
@[simp] theorem Plant.modCar_sprayA (p : Plant) (c : Car) (f : CarRecord → CarRecord) :
    (p.modCar c f).sprayA = p.sprayA := by
  cases c <;> rfl
@[simp] theorem Plant.modCar_sprayB (p : Plant) (c : Car) (f : CarRecord → CarRecord) :
    (p.modCar c f).sprayB = p.sprayB := by
  cases c <;> rfl
@[simp] theorem Plant.modCar_grant (p : Plant) (c : Car) (f : CarRecord → CarRecord) :
    (p.modCar c f).grant = p.grant := by
  cases c <;> rfl
@[simp] theorem Plant.modCar_waiting (p : Plant) (c : Car) (f : CarRecord → CarRecord) :
    (p.modCar c f).waiting = p.waiting := by
  cases c <;> rfl
@[simp] theorem Plant.modCar_trackHold (p : Plant) (c : Car) (f : CarRecord → CarRecord) :
    (p.modCar c f).trackHold = p.trackHold := by
  cases c <;> rfl
@[simp] theorem Plant.modCar_claimPm (p : Plant) (c : Car) (f : CarRecord → CarRecord) :
    (p.modCar c f).claimPm = p.claimPm := by
  cases c <;> rfl
@[simp] theorem Plant.modCar_claimGc (p : Plant) (c : Car) (f : CarRecord → CarRecord) :
    (p.modCar c f).claimGc = p.claimGc := by
  cases c <;> rfl
@[simp] theorem Plant.modCar_sent (p : Plant) (c : Car) (f : CarRecord → CarRecord) :
    (p.modCar c f).sent = p.sent := by
  cases c <;> rfl
@[simp] theorem Plant.modCar_closingPresses (p : Plant) (c : Car) (f : CarRecord → CarRecord) :
    (p.modCar c f).closingPresses = p.closingPresses := by
  cases c <;> rfl
@[simp] theorem Plant.modCar_agenda (p : Plant) (c : Car) (f : CarRecord → CarRecord) :
    (p.modCar c f).agenda = p.agenda := by
  cases c <;> rfl
@[simp] theorem Plant.modCar_car (p : Plant) (c : Car) (f : CarRecord → CarRecord) : (p.modCar c f).car c = f (p.car c) := by
  cases c <;> rfl
@[simp] theorem Plant.modCar_other (p : Plant) (c : Car) (f : CarRecord → CarRecord) :
    (p.modCar c f).car (otherCar c) = p.car (otherCar c) := by
  cases c <;> rfl

/-! ## modPort -/

@[simp] theorem Plant.modPort_ovens (p : Plant) (port : Port) (f : PortState → PortState) :
    (p.modPort port f).ovens = p.ovens := by
  cases port <;> rfl
@[simp] theorem Plant.modPort_cursor (p : Plant) (port : Port) (f : PortState → PortState) :
    (p.modPort port f).cursor = p.cursor := by
  cases port <;> rfl
@[simp] theorem Plant.modPort_catchup (p : Plant) (port : Port) (f : PortState → PortState) :
    (p.modPort port f).catchup = p.catchup := by
  cases port <;> rfl
@[simp] theorem Plant.modPort_catchLatch (p : Plant) (port : Port) (f : PortState → PortState) :
    (p.modPort port f).catchLatch = p.catchLatch := by
  cases port <;> rfl
@[simp] theorem Plant.modPort_lastPushStart (p : Plant) (port : Port) (f : PortState → PortState) :
    (p.modPort port f).lastPushStart = p.lastPushStart := by
  cases port <;> rfl
@[simp] theorem Plant.modPort_pacing (p : Plant) (port : Port) (f : PortState → PortState) :
    (p.modPort port f).pacing = p.pacing := by
  cases port <;> rfl
@[simp] theorem Plant.modPort_tickets (p : Plant) (port : Port) (f : PortState → PortState) :
    (p.modPort port f).tickets = p.tickets := by
  cases port <;> rfl
@[simp] theorem Plant.modPort_nextTicket (p : Plant) (port : Port) (f : PortState → PortState) :
    (p.modPort port f).nextTicket = p.nextTicket := by
  cases port <;> rfl
@[simp] theorem Plant.modPort_log (p : Plant) (port : Port) (f : PortState → PortState) :
    (p.modPort port f).log = p.log := by
  cases port <;> rfl
@[simp] theorem Plant.modPort_psSide (p : Plant) (port : Port) (f : PortState → PortState) :
    (p.modPort port f).psSide = p.psSide := by
  cases port <;> rfl
@[simp] theorem Plant.modPort_csSide (p : Plant) (port : Port) (f : PortState → PortState) :
    (p.modPort port f).csSide = p.csSide := by
  cases port <;> rfl
@[simp] theorem Plant.modPort_charge (p : Plant) (port : Port) (f : PortState → PortState) :
    (p.modPort port f).charge = p.charge := by
  cases port <;> rfl
@[simp] theorem Plant.modPort_ask (p : Plant) (port : Port) (f : PortState → PortState) :
    (p.modPort port f).ask = p.ask := by
  cases port <;> rfl
@[simp] theorem Plant.modPort_mainPosition (p : Plant) (port : Port) (f : PortState → PortState) :
    (p.modPort port f).mainPosition = p.mainPosition := by
  cases port <;> rfl
@[simp] theorem Plant.modPort_mainSetPoint (p : Plant) (port : Port) (f : PortState → PortState) :
    (p.modPort port f).mainSetPoint = p.mainSetPoint := by
  cases port <;> rfl
@[simp] theorem Plant.modPort_sprayA (p : Plant) (port : Port) (f : PortState → PortState) :
    (p.modPort port f).sprayA = p.sprayA := by
  cases port <;> rfl
@[simp] theorem Plant.modPort_sprayB (p : Plant) (port : Port) (f : PortState → PortState) :
    (p.modPort port f).sprayB = p.sprayB := by
  cases port <;> rfl
@[simp] theorem Plant.modPort_carA (p : Plant) (port : Port) (f : PortState → PortState) :
    (p.modPort port f).carA = p.carA := by
  cases port <;> rfl
@[simp] theorem Plant.modPort_carB (p : Plant) (port : Port) (f : PortState → PortState) :
    (p.modPort port f).carB = p.carB := by
  cases port <;> rfl
@[simp] theorem Plant.modPort_grant (p : Plant) (port : Port) (f : PortState → PortState) :
    (p.modPort port f).grant = p.grant := by
  cases port <;> rfl
@[simp] theorem Plant.modPort_waiting (p : Plant) (port : Port) (f : PortState → PortState) :
    (p.modPort port f).waiting = p.waiting := by
  cases port <;> rfl
@[simp] theorem Plant.modPort_trackHold (p : Plant) (port : Port) (f : PortState → PortState) :
    (p.modPort port f).trackHold = p.trackHold := by
  cases port <;> rfl
@[simp] theorem Plant.modPort_claimPm (p : Plant) (port : Port) (f : PortState → PortState) :
    (p.modPort port f).claimPm = p.claimPm := by
  cases port <;> rfl
@[simp] theorem Plant.modPort_claimGc (p : Plant) (port : Port) (f : PortState → PortState) :
    (p.modPort port f).claimGc = p.claimGc := by
  cases port <;> rfl
@[simp] theorem Plant.modPort_sent (p : Plant) (port : Port) (f : PortState → PortState) :
    (p.modPort port f).sent = p.sent := by
  cases port <;> rfl
@[simp] theorem Plant.modPort_closingPresses (p : Plant) (port : Port) (f : PortState → PortState) :
    (p.modPort port f).closingPresses = p.closingPresses := by
  cases port <;> rfl
@[simp] theorem Plant.modPort_agenda (p : Plant) (port : Port) (f : PortState → PortState) :
    (p.modPort port f).agenda = p.agenda := by
  cases port <;> rfl
@[simp] theorem Plant.modPort_port (p : Plant) (port : Port) (f : PortState → PortState) :
    (p.modPort port f).port port = f (p.port port) := by
  cases port <;> rfl

/-! ## setSpray -/

@[simp] theorem Plant.setSpray_sup (p : Plant) (c : Car) (on : Bool) : (p.setSpray c on).sup = p.sup := by
  cases c <;> rfl
@[simp] theorem Plant.setSpray_pnl (p : Plant) (c : Car) (on : Bool) : (p.setSpray c on).pnl = p.pnl := by
  cases c <;> rfl
@[simp] theorem Plant.setSpray_ovens (p : Plant) (c : Car) (on : Bool) : (p.setSpray c on).ovens = p.ovens := by
  cases c <;> rfl
@[simp] theorem Plant.setSpray_cursor (p : Plant) (c : Car) (on : Bool) : (p.setSpray c on).cursor = p.cursor := by
  cases c <;> rfl
@[simp] theorem Plant.setSpray_catchup (p : Plant) (c : Car) (on : Bool) :
    (p.setSpray c on).catchup = p.catchup := by
  cases c <;> rfl
@[simp] theorem Plant.setSpray_catchLatch (p : Plant) (c : Car) (on : Bool) :
    (p.setSpray c on).catchLatch = p.catchLatch := by
  cases c <;> rfl
@[simp] theorem Plant.setSpray_lastPushStart (p : Plant) (c : Car) (on : Bool) :
    (p.setSpray c on).lastPushStart = p.lastPushStart := by
  cases c <;> rfl
@[simp] theorem Plant.setSpray_pacing (p : Plant) (c : Car) (on : Bool) : (p.setSpray c on).pacing = p.pacing := by
  cases c <;> rfl
@[simp] theorem Plant.setSpray_tickets (p : Plant) (c : Car) (on : Bool) :
    (p.setSpray c on).tickets = p.tickets := by
  cases c <;> rfl
@[simp] theorem Plant.setSpray_nextTicket (p : Plant) (c : Car) (on : Bool) :
    (p.setSpray c on).nextTicket = p.nextTicket := by
  cases c <;> rfl
@[simp] theorem Plant.setSpray_log (p : Plant) (c : Car) (on : Bool) : (p.setSpray c on).log = p.log := by
  cases c <;> rfl
@[simp] theorem Plant.setSpray_psSide (p : Plant) (c : Car) (on : Bool) : (p.setSpray c on).psSide = p.psSide := by
  cases c <;> rfl
@[simp] theorem Plant.setSpray_csSide (p : Plant) (c : Car) (on : Bool) : (p.setSpray c on).csSide = p.csSide := by
  cases c <;> rfl
@[simp] theorem Plant.setSpray_charge (p : Plant) (c : Car) (on : Bool) : (p.setSpray c on).charge = p.charge := by
  cases c <;> rfl
@[simp] theorem Plant.setSpray_ask (p : Plant) (c : Car) (on : Bool) : (p.setSpray c on).ask = p.ask := by
  cases c <;> rfl
@[simp] theorem Plant.setSpray_mainPosition (p : Plant) (c : Car) (on : Bool) :
    (p.setSpray c on).mainPosition = p.mainPosition := by
  cases c <;> rfl
@[simp] theorem Plant.setSpray_mainSetPoint (p : Plant) (c : Car) (on : Bool) :
    (p.setSpray c on).mainSetPoint = p.mainSetPoint := by
  cases c <;> rfl
@[simp] theorem Plant.setSpray_carA (p : Plant) (c : Car) (on : Bool) : (p.setSpray c on).carA = p.carA := by
  cases c <;> rfl
@[simp] theorem Plant.setSpray_carB (p : Plant) (c : Car) (on : Bool) : (p.setSpray c on).carB = p.carB := by
  cases c <;> rfl
@[simp] theorem Plant.setSpray_grant (p : Plant) (c : Car) (on : Bool) : (p.setSpray c on).grant = p.grant := by
  cases c <;> rfl
@[simp] theorem Plant.setSpray_waiting (p : Plant) (c : Car) (on : Bool) :
    (p.setSpray c on).waiting = p.waiting := by
  cases c <;> rfl
@[simp] theorem Plant.setSpray_trackHold (p : Plant) (c : Car) (on : Bool) :
    (p.setSpray c on).trackHold = p.trackHold := by
  cases c <;> rfl
@[simp] theorem Plant.setSpray_claimPm (p : Plant) (c : Car) (on : Bool) :
    (p.setSpray c on).claimPm = p.claimPm := by
  cases c <;> rfl
@[simp] theorem Plant.setSpray_claimGc (p : Plant) (c : Car) (on : Bool) :
    (p.setSpray c on).claimGc = p.claimGc := by
  cases c <;> rfl
@[simp] theorem Plant.setSpray_sent (p : Plant) (c : Car) (on : Bool) : (p.setSpray c on).sent = p.sent := by
  cases c <;> rfl
@[simp] theorem Plant.setSpray_closingPresses (p : Plant) (c : Car) (on : Bool) :
    (p.setSpray c on).closingPresses = p.closingPresses := by
  cases c <;> rfl
@[simp] theorem Plant.setSpray_agenda (p : Plant) (c : Car) (on : Bool) : (p.setSpray c on).agenda = p.agenda := by
  cases c <;> rfl
@[simp] theorem Plant.setSpray_spray (p : Plant) (c : Car) (on : Bool) : (p.setSpray c on).spray c = on := by
  cases c <;> rfl

/-! ## dropTicket -/

@[simp] theorem dropTicket_sup (num : Nat) (p : Plant) : (dropTicket num p).sup = p.sup := rfl
@[simp] theorem dropTicket_pnl (num : Nat) (p : Plant) : (dropTicket num p).pnl = p.pnl := rfl
@[simp] theorem dropTicket_ovens (num : Nat) (p : Plant) : (dropTicket num p).ovens = p.ovens := rfl
@[simp] theorem dropTicket_cursor (num : Nat) (p : Plant) : (dropTicket num p).cursor = p.cursor := rfl
@[simp] theorem dropTicket_catchup (num : Nat) (p : Plant) : (dropTicket num p).catchup = p.catchup := rfl
@[simp] theorem dropTicket_catchLatch (num : Nat) (p : Plant) : (dropTicket num p).catchLatch = p.catchLatch := rfl
@[simp] theorem dropTicket_lastPushStart (num : Nat) (p : Plant) :
    (dropTicket num p).lastPushStart = p.lastPushStart := rfl
@[simp] theorem dropTicket_pacing (num : Nat) (p : Plant) : (dropTicket num p).pacing = p.pacing := rfl
@[simp] theorem dropTicket_nextTicket (num : Nat) (p : Plant) : (dropTicket num p).nextTicket = p.nextTicket := rfl
@[simp] theorem dropTicket_log (num : Nat) (p : Plant) : (dropTicket num p).log = p.log := rfl
@[simp] theorem dropTicket_psSide (num : Nat) (p : Plant) : (dropTicket num p).psSide = p.psSide := rfl
@[simp] theorem dropTicket_csSide (num : Nat) (p : Plant) : (dropTicket num p).csSide = p.csSide := rfl
@[simp] theorem dropTicket_charge (num : Nat) (p : Plant) : (dropTicket num p).charge = p.charge := rfl
@[simp] theorem dropTicket_ask (num : Nat) (p : Plant) : (dropTicket num p).ask = p.ask := rfl
@[simp] theorem dropTicket_mainPosition (num : Nat) (p : Plant) :
    (dropTicket num p).mainPosition = p.mainPosition := rfl
@[simp] theorem dropTicket_mainSetPoint (num : Nat) (p : Plant) :
    (dropTicket num p).mainSetPoint = p.mainSetPoint := rfl
@[simp] theorem dropTicket_sprayA (num : Nat) (p : Plant) : (dropTicket num p).sprayA = p.sprayA := rfl
@[simp] theorem dropTicket_sprayB (num : Nat) (p : Plant) : (dropTicket num p).sprayB = p.sprayB := rfl
@[simp] theorem dropTicket_carA (num : Nat) (p : Plant) : (dropTicket num p).carA = p.carA := rfl
@[simp] theorem dropTicket_carB (num : Nat) (p : Plant) : (dropTicket num p).carB = p.carB := rfl
@[simp] theorem dropTicket_grant (num : Nat) (p : Plant) : (dropTicket num p).grant = p.grant := rfl
@[simp] theorem dropTicket_waiting (num : Nat) (p : Plant) : (dropTicket num p).waiting = p.waiting := rfl
@[simp] theorem dropTicket_trackHold (num : Nat) (p : Plant) : (dropTicket num p).trackHold = p.trackHold := rfl
@[simp] theorem dropTicket_claimPm (num : Nat) (p : Plant) : (dropTicket num p).claimPm = p.claimPm := rfl
@[simp] theorem dropTicket_claimGc (num : Nat) (p : Plant) : (dropTicket num p).claimGc = p.claimGc := rfl
@[simp] theorem dropTicket_sent (num : Nat) (p : Plant) : (dropTicket num p).sent = p.sent := rfl
@[simp] theorem dropTicket_closingPresses (num : Nat) (p : Plant) :
    (dropTicket num p).closingPresses = p.closingPresses := rfl
@[simp] theorem dropTicket_agenda (num : Nat) (p : Plant) : (dropTicket num p).agenda = p.agenda := rfl
@[simp] theorem dropTicket_tickets (num : Nat) (p : Plant) :
    (dropTicket num p).tickets = p.tickets.filter fun t => t.number ≠ num := rfl

/-! ## writeLog -/

@[simp] theorem writeLog_sup (r : LogRecord) (p : Plant) : (writeLog r p).sup = p.sup := rfl
@[simp] theorem writeLog_pnl (r : LogRecord) (p : Plant) : (writeLog r p).pnl = p.pnl := rfl
@[simp] theorem writeLog_ovens (r : LogRecord) (p : Plant) : (writeLog r p).ovens = p.ovens := rfl
@[simp] theorem writeLog_cursor (r : LogRecord) (p : Plant) : (writeLog r p).cursor = p.cursor := rfl
@[simp] theorem writeLog_catchup (r : LogRecord) (p : Plant) : (writeLog r p).catchup = p.catchup := rfl
@[simp] theorem writeLog_catchLatch (r : LogRecord) (p : Plant) : (writeLog r p).catchLatch = p.catchLatch := rfl
@[simp] theorem writeLog_lastPushStart (r : LogRecord) (p : Plant) :
    (writeLog r p).lastPushStart = p.lastPushStart := rfl
@[simp] theorem writeLog_pacing (r : LogRecord) (p : Plant) : (writeLog r p).pacing = p.pacing := rfl
@[simp] theorem writeLog_tickets (r : LogRecord) (p : Plant) : (writeLog r p).tickets = p.tickets := rfl
@[simp] theorem writeLog_nextTicket (r : LogRecord) (p : Plant) : (writeLog r p).nextTicket = p.nextTicket := rfl
@[simp] theorem writeLog_psSide (r : LogRecord) (p : Plant) : (writeLog r p).psSide = p.psSide := rfl
@[simp] theorem writeLog_csSide (r : LogRecord) (p : Plant) : (writeLog r p).csSide = p.csSide := rfl
@[simp] theorem writeLog_charge (r : LogRecord) (p : Plant) : (writeLog r p).charge = p.charge := rfl
@[simp] theorem writeLog_ask (r : LogRecord) (p : Plant) : (writeLog r p).ask = p.ask := rfl
@[simp] theorem writeLog_mainPosition (r : LogRecord) (p : Plant) :
    (writeLog r p).mainPosition = p.mainPosition := rfl
@[simp] theorem writeLog_mainSetPoint (r : LogRecord) (p : Plant) :
    (writeLog r p).mainSetPoint = p.mainSetPoint := rfl
@[simp] theorem writeLog_sprayA (r : LogRecord) (p : Plant) : (writeLog r p).sprayA = p.sprayA := rfl
@[simp] theorem writeLog_sprayB (r : LogRecord) (p : Plant) : (writeLog r p).sprayB = p.sprayB := rfl
@[simp] theorem writeLog_carA (r : LogRecord) (p : Plant) : (writeLog r p).carA = p.carA := rfl
@[simp] theorem writeLog_carB (r : LogRecord) (p : Plant) : (writeLog r p).carB = p.carB := rfl
@[simp] theorem writeLog_grant (r : LogRecord) (p : Plant) : (writeLog r p).grant = p.grant := rfl
@[simp] theorem writeLog_waiting (r : LogRecord) (p : Plant) : (writeLog r p).waiting = p.waiting := rfl
@[simp] theorem writeLog_trackHold (r : LogRecord) (p : Plant) : (writeLog r p).trackHold = p.trackHold := rfl
@[simp] theorem writeLog_claimPm (r : LogRecord) (p : Plant) : (writeLog r p).claimPm = p.claimPm := rfl
@[simp] theorem writeLog_claimGc (r : LogRecord) (p : Plant) : (writeLog r p).claimGc = p.claimGc := rfl
@[simp] theorem writeLog_sent (r : LogRecord) (p : Plant) : (writeLog r p).sent = p.sent := rfl
@[simp] theorem writeLog_closingPresses (r : LogRecord) (p : Plant) :
    (writeLog r p).closingPresses = p.closingPresses := rfl
@[simp] theorem writeLog_agenda (r : LogRecord) (p : Plant) : (writeLog r p).agenda = p.agenda := rfl
@[simp] theorem writeLog_log (r : LogRecord) (p : Plant) : (writeLog r p).log = (r :: p.log).take 64 := rfl

/-! ## setMirror -/

@[simp] theorem Ground.setMirror_clock (g : Ground) (m : Machine) (r : Mirror) :
    (g.setMirror m r).clock = g.clock := by
  cases m <;> rfl
@[simp] theorem Ground.setMirror_starting (g : Ground) (m : Machine) (r : Mirror) :
    (g.setMirror m r).starting = g.starting := by
  cases m <;> rfl
@[simp] theorem Ground.setMirror_resetHeld (g : Ground) (m : Machine) (r : Mirror) :
    (g.setMirror m r).resetHeld = g.resetHeld := by
  cases m <;> rfl
@[simp] theorem Ground.setMirror_estopLine (g : Ground) (m : Machine) (r : Mirror) :
    (g.setMirror m r).estopLine = g.estopLine := by
  cases m <;> rfl
@[simp] theorem Ground.setMirror_keyLine (g : Ground) (m : Machine) (r : Mirror) :
    (g.setMirror m r).keyLine = g.keyLine := by
  cases m <;> rfl
@[simp] theorem Ground.setMirror_params (g : Ground) (m : Machine) (r : Mirror) :
    (g.setMirror m r).params = g.params := by
  cases m <;> rfl
@[simp] theorem Ground.setMirror_protection (g : Ground) (m : Machine) (r : Mirror) :
    (g.setMirror m r).protection = g.protection := by
  cases m <;> rfl
@[simp] theorem Ground.setMirror_store (g : Ground) (m : Machine) (r : Mirror) :
    (g.setMirror m r).store = g.store := by
  cases m <;> rfl
@[simp] theorem Ground.setMirror_storeOp (g : Ground) (m : Machine) (r : Mirror) :
    (g.setMirror m r).storeOp = g.storeOp := by
  cases m <;> rfl
@[simp] theorem Ground.setMirror_verified (g : Ground) (m : Machine) (r : Mirror) :
    (g.setMirror m r).verified = g.verified := by
  cases m <;> rfl
@[simp] theorem Ground.setMirror_partWritten (g : Ground) (m : Machine) (r : Mirror) :
    (g.setMirror m r).partWritten = g.partWritten := by
  cases m <;> rfl
@[simp] theorem Ground.setMirror_runState (g : Ground) (m : Machine) (r : Mirror) :
    (g.setMirror m r).runState = g.runState := by
  cases m <;> rfl
@[simp] theorem Ground.setMirror_schedRunning (g : Ground) (m : Machine) (r : Mirror) :
    (g.setMirror m r).schedRunning = g.schedRunning := by
  cases m <;> rfl
@[simp] theorem Ground.setMirror_maint (g : Ground) (m : Machine) (r : Mirror) :
    (g.setMirror m r).maint = g.maint := by
  cases m <;> rfl
@[simp] theorem Ground.setMirror_order (g : Ground) (m : Machine) (r : Mirror) :
    (g.setMirror m r).order = g.order := by
  cases m <;> rfl
@[simp] theorem Ground.setMirror_walls (g : Ground) (m : Machine) (r : Mirror) :
    (g.setMirror m r).walls = g.walls := by
  cases m <;> rfl
@[simp] theorem Ground.setMirror_doors (g : Ground) (m : Machine) (r : Mirror) :
    (g.setMirror m r).doors = g.doors := by
  cases m <;> rfl
@[simp] theorem Ground.setMirror_ovenNodes (g : Ground) (m : Machine) (r : Mirror) :
    (g.setMirror m r).ovenNodes = g.ovenNodes := by
  cases m <;> rfl
@[simp] theorem Ground.setMirror_mainNode (g : Ground) (m : Machine) (r : Mirror) :
    (g.setMirror m r).mainNode = g.mainNode := by
  cases m <;> rfl
@[simp] theorem Ground.setMirror_towerNodeA (g : Ground) (m : Machine) (r : Mirror) :
    (g.setMirror m r).towerNodeA = g.towerNodeA := by
  cases m <;> rfl
@[simp] theorem Ground.setMirror_towerNodeB (g : Ground) (m : Machine) (r : Mirror) :
    (g.setMirror m r).towerNodeB = g.towerNodeB := by
  cases m <;> rfl
@[simp] theorem Ground.setMirror_poll (g : Ground) (m : Machine) (r : Mirror) :
    (g.setMirror m r).poll = g.poll := by
  cases m <;> rfl
@[simp] theorem Ground.setMirror_rx (g : Ground) (m : Machine) (r : Mirror) : (g.setMirror m r).rx = g.rx := by
  cases m <;> rfl
@[simp] theorem Ground.setMirror_mirror (g : Ground) (m : Machine) (r : Mirror) : (g.setMirror m r).mirror m = r := by
  cases m <;> rfl

/-! ## setDoor -/

@[simp] theorem Ground.setDoor_clock (g : Ground) (n : Nat) (side : Side) (d : Door) :
    (g.setDoor n side d).clock = g.clock := rfl
@[simp] theorem Ground.setDoor_starting (g : Ground) (n : Nat) (side : Side) (d : Door) :
    (g.setDoor n side d).starting = g.starting := rfl
@[simp] theorem Ground.setDoor_resetHeld (g : Ground) (n : Nat) (side : Side) (d : Door) :
    (g.setDoor n side d).resetHeld = g.resetHeld := rfl
@[simp] theorem Ground.setDoor_estopLine (g : Ground) (n : Nat) (side : Side) (d : Door) :
    (g.setDoor n side d).estopLine = g.estopLine := rfl
@[simp] theorem Ground.setDoor_keyLine (g : Ground) (n : Nat) (side : Side) (d : Door) :
    (g.setDoor n side d).keyLine = g.keyLine := rfl
@[simp] theorem Ground.setDoor_params (g : Ground) (n : Nat) (side : Side) (d : Door) :
    (g.setDoor n side d).params = g.params := rfl
@[simp] theorem Ground.setDoor_protection (g : Ground) (n : Nat) (side : Side) (d : Door) :
    (g.setDoor n side d).protection = g.protection := rfl
@[simp] theorem Ground.setDoor_store (g : Ground) (n : Nat) (side : Side) (d : Door) :
    (g.setDoor n side d).store = g.store := rfl
@[simp] theorem Ground.setDoor_storeOp (g : Ground) (n : Nat) (side : Side) (d : Door) :
    (g.setDoor n side d).storeOp = g.storeOp := rfl
@[simp] theorem Ground.setDoor_verified (g : Ground) (n : Nat) (side : Side) (d : Door) :
    (g.setDoor n side d).verified = g.verified := rfl
@[simp] theorem Ground.setDoor_partWritten (g : Ground) (n : Nat) (side : Side) (d : Door) :
    (g.setDoor n side d).partWritten = g.partWritten := rfl
@[simp] theorem Ground.setDoor_runState (g : Ground) (n : Nat) (side : Side) (d : Door) :
    (g.setDoor n side d).runState = g.runState := rfl
@[simp] theorem Ground.setDoor_schedRunning (g : Ground) (n : Nat) (side : Side) (d : Door) :
    (g.setDoor n side d).schedRunning = g.schedRunning := rfl
@[simp] theorem Ground.setDoor_maint (g : Ground) (n : Nat) (side : Side) (d : Door) :
    (g.setDoor n side d).maint = g.maint := rfl
@[simp] theorem Ground.setDoor_order (g : Ground) (n : Nat) (side : Side) (d : Door) :
    (g.setDoor n side d).order = g.order := rfl
@[simp] theorem Ground.setDoor_walls (g : Ground) (n : Nat) (side : Side) (d : Door) :
    (g.setDoor n side d).walls = g.walls := rfl
@[simp] theorem Ground.setDoor_ovenNodes (g : Ground) (n : Nat) (side : Side) (d : Door) :
    (g.setDoor n side d).ovenNodes = g.ovenNodes := rfl
@[simp] theorem Ground.setDoor_mainNode (g : Ground) (n : Nat) (side : Side) (d : Door) :
    (g.setDoor n side d).mainNode = g.mainNode := rfl
@[simp] theorem Ground.setDoor_towerNodeA (g : Ground) (n : Nat) (side : Side) (d : Door) :
    (g.setDoor n side d).towerNodeA = g.towerNodeA := rfl
@[simp] theorem Ground.setDoor_towerNodeB (g : Ground) (n : Nat) (side : Side) (d : Door) :
    (g.setDoor n side d).towerNodeB = g.towerNodeB := rfl
@[simp] theorem Ground.setDoor_poll (g : Ground) (n : Nat) (side : Side) (d : Door) :
    (g.setDoor n side d).poll = g.poll := rfl
@[simp] theorem Ground.setDoor_pm (g : Ground) (n : Nat) (side : Side) (d : Door) :
    (g.setDoor n side d).pm = g.pm := rfl
@[simp] theorem Ground.setDoor_gc (g : Ground) (n : Nat) (side : Side) (d : Door) :
    (g.setDoor n side d).gc = g.gc := rfl
@[simp] theorem Ground.setDoor_cc (g : Ground) (n : Nat) (side : Side) (d : Door) :
    (g.setDoor n side d).cc = g.cc := rfl
@[simp] theorem Ground.setDoor_qa (g : Ground) (n : Nat) (side : Side) (d : Door) :
    (g.setDoor n side d).qa = g.qa := rfl
@[simp] theorem Ground.setDoor_qb (g : Ground) (n : Nat) (side : Side) (d : Door) :
    (g.setDoor n side d).qb = g.qb := rfl
@[simp] theorem Ground.setDoor_rx (g : Ground) (n : Nat) (side : Side) (d : Door) :
    (g.setDoor n side d).rx = g.rx := rfl

end Sys2Proof.Machine
end

