-- ==== Sys2Proof/Laws/Ops.lean ====
section
/-! SUPPORT. What each shared operation can do, said once: tables numbered from 1, follow-up events, the taking of a request,
ports, and claims. -/

namespace Sys2Proof

/-! ## Tables numbered from 1 -/

@[simp] theorem length_updateAt {α : Type} (l : List α) (i : Nat) (f : α → α) : (updateAt l i f).length = l.length := by
  induction l generalizing i with
  | nil => rfl
  | cons x xs ih => cases i <;> simp [updateAt, ih]

theorem getElem?_updateAt {α : Type} (l : List α) (i j : Nat) (f : α → α) :
    (updateAt l i f)[j]? = if j = i then l[j]?.map f else l[j]? := by
  induction l generalizing i j with
  | nil => simp [updateAt]
  | cons x xs ih => cases i <;> cases j <;> simp [updateAt, ih]

@[simp] theorem length_updateNumbered {α : Type} (l : List α) (n : Nat) (f : α → α) :
    (updateNumbered l n f).length = l.length := by
  cases n <;> simp [updateNumbered]

theorem numbered_updateNumbered {α : Type} (l : List α) (n k : Nat) (f : α → α) :
    numbered (updateNumbered l n f) k = if k = n then (numbered l k).map f else numbered l k := by
  cases n <;> cases k <;> simp [updateNumbered, numbered, getElem?_updateAt]

/-- An entry other than the one updated is as it was. -/
theorem numbered_updateNumbered_ne {α : Type} (l : List α) {n k : Nat} (h : k ≠ n) (f : α → α) :
    numbered (updateNumbered l n f) k = numbered l k := by
  simp [numbered_updateNumbered, h]

theorem numbered_isSome {α : Type} (l : List α) (n : Nat) : (numbered l n).isSome = (1 ≤ n && n ≤ l.length : Bool) := by
  cases n with
  | zero => rfl
  | succ n => by_cases h : n < l.length <;> simp [numbered, h]

namespace Machine

/-! ## Follow-up events -/

@[simp] theorem insertTask_nil (t : Task) : insertTask t [] = [t] := rfl

/-- A follow-up event started joins the others, and none is lost. -/
theorem insertTask_perm (t : Task) (l : List Task) : (insertTask t l).Perm (t :: l) := by
  induction l with
  | nil => exact .refl _
  | cons x rest ih =>
    unfold insertTask
    split
    · exact (ih.cons x).trans (.swap t x rest)
    · exact .refl _

/-- Events in the order of their ranks stay so when another is started. -/
theorem insertTask_sorted (t : Task) {l : List Task} (h : l.Pairwise fun a b => a.rank ≤ b.rank) :
    (insertTask t l).Pairwise fun a b => a.rank ≤ b.rank := by
  induction l with
  | nil => simp [insertTask]
  | cons x rest ih =>
    unfold insertTask
    rw [List.pairwise_cons] at h
    split
    · rename_i hx
      rw [List.pairwise_cons]
      refine ⟨fun y hy => ?_, ih h.2⟩
      rcases List.mem_cons.1 ((insertTask_perm t rest).mem_iff.1 hy) with rfl | hy
      · exact hx
      · exact h.1 y hy
    · rename_i hx
      rw [List.pairwise_cons, List.pairwise_cons]
      refine ⟨fun y hy => ?_, h⟩
      rcases List.mem_cons.1 hy with rfl | hy
      · omega
      · have := h.1 y hy
        omega

/-- With no follow-up event waiting nothing follows. -/
theorem settle_of_nil (g : Ground) {p : Plant} (h : p.agenda = []) (k : Nat) : settle g (k + 1) p = p := by
  simp [settle, h]

/-- Follow-up events leave none waiting. -/
theorem settle_agenda (g : Ground) (k : Nat) (p : Plant) : (settle g k p).agenda = [] := by
  induction k generalizing p with
  | zero => rfl
  | succ k ih => simp only [settle]; split <;> simp_all

@[simp] theorem State.settled_agenda (s : State) : s.settled.plant.agenda = [] := settle_agenda _ _ _

theorem State.settled_of_calm {s : State} (h : s.plant.agenda = []) : s.settled = s := by
  obtain ⟨g, p, q⟩ := s
  simp only [State.settled, State.work, settleLimit, settle_of_nil g h 4095]

/-- A command whose direct effects start no follow-up event has no other effects. -/
theorem State.event_of_calm {s : State} {f : State → State} (h : (f s.opened).plant.agenda = []) :
    s.event f = f s.opened := State.settled_of_calm h

/-- What a property of plants needs to survive the follow-up events of a command. -/
theorem settle_induction {I : Plant → Prop} (g : Ground)
    (drop : ∀ p l, I p → I { p with agenda := l }) (run : ∀ t p, I p → I (runTask g t p)) (k : Nat) (p : Plant)
    (h : I p) : I (settle g k p) := by
  induction k generalizing p with
  | zero => exact drop p [] h
  | succ k ih =>
    simp only [settle]
    split
    · exact h
    · exact ih _ (run _ _ (drop p _ h))

/-! ## The taking of a request -/

/-- A request is taken when it is the oldest in the hold, and leaves it, or when the hold is empty (log 4). -/
theorem State.takeRequest_eq_some {s s' : State} {port : Port} {tag : Byte} {r : Request} :
    s.takeRequest port tag r = some s' ↔
      ((s.plant.port port).hold = [] ∧ s' = s) ∨
        ∃ rest, (s.plant.port port).hold = (tag, r) :: rest ∧ s' = s.modPort port fun x => { x with hold := rest } := by
  unfold State.takeRequest
  cases hh : (s.plant.port port).hold with
  | nil =>
    constructor
    · intro h
      exact .inl ⟨rfl, (Option.some.inj h).symm⟩
    · rintro (⟨_, rfl⟩ | ⟨_, h, _⟩)
      · rfl
      · cases h
  | cons x rest =>
    constructor
    · intro h
      dsimp only at h
      split at h
      · rename_i hc
        exact .inr ⟨rest, by rw [← hc.1, ← hc.2], (Option.some.inj h).symm⟩
      · cases h
    · rintro (⟨h, _⟩ | ⟨_, h, rfl⟩)
      · cases h
      · cases h
        exact if_pos ⟨rfl, rfl⟩

/-- The ground does not change as a request is taken. -/
theorem State.takeRequest_ground {s s' : State} {port : Port} {tag : Byte} {r : Request}
    (h : s.takeRequest port tag r = some s') : s'.ground = s.ground ∧ s'.pending = s.pending := by
  rcases State.takeRequest_eq_some.1 h with ⟨_, rfl⟩ | ⟨_, _, rfl⟩ <;> exact ⟨rfl, rfl⟩

/-- As a request is taken only its port's hold changes. -/
theorem State.takeRequest_agenda {s s' : State} {port : Port} {tag : Byte} {r : Request}
    (h : s.takeRequest port tag r = some s') : s'.plant.agenda = s.plant.agenda := by
  rcases State.takeRequest_eq_some.1 h with ⟨_, rfl⟩ | ⟨_, _, rfl⟩ <;> simp

/-- A request that fails a check changes nothing but its port's hold and replies. -/
theorem State.serve_refused {s s₀ : State} {port : Port} {tag : Byte} {r : Request} {checks : State → List Check}
    {act : State → State × OkData} {reply : Reply} (h : s.opened.takeRequest port tag r = some s₀)
    (hr : firstRefusal (checks s₀) = some reply) : s.serve port tag r checks act = s₀.answer port tag reply := by
  simp [State.serve, h, hr]

/-- A request that passes its checks. -/
theorem State.serve_accepted {s s₀ : State} {port : Port} {tag : Byte} {r : Request} {checks : State → List Check}
    {act : State → State × OkData} (h : s.opened.takeRequest port tag r = some s₀)
    (hr : firstRefusal (checks s₀) = none) :
    s.serve port tag r checks act = (act s₀).1.settled.answer port tag (.ok (act s₀).2) := by
  simp [State.serve, h, hr]

/-- A request that is not the oldest in its port's hold is not taken. -/
theorem State.serve_waits {s : State} {port : Port} {tag : Byte} {r : Request} {checks : State → List Check}
    {act : State → State × OkData} (h : s.opened.takeRequest port tag r = none) :
    s.serve port tag r checks act = s.opened := by
  simp [State.serve, h]

@[simp] theorem firstRefusal_nil : firstRefusal [] = none := rfl

@[simp] theorem firstRefusal_cons (c : Check) (l : List Check) :
    firstRefusal (c :: l) = if c.fails then some (.refused c.code c.detail) else firstRefusal l := rfl

/-- No check refuses exactly when none fails. -/
theorem firstRefusal_eq_none {l : List Check} : firstRefusal l = none ↔ ∀ c ∈ l, c.fails = false := by
  induction l with
  | nil => simp
  | cons c l ih => by_cases h : c.fails <;> simp [h, ih]

/-! ## Ports -/

/-- A port that is sending goes on sending. -/
theorem PortState.pump_of_sending {x : PortState} {f : OutFrame} (h : x.sending = some f) : x.pump = x := by
  simp [PortState.pump, h]

/-- The next frame begun leaves the hold, the mask and the overrun flag as they were. -/
theorem PortState.pump_frame (x : PortState) :
    x.pump.hold = x.hold ∧ x.pump.mask = x.mask ∧ x.pump.overrun = x.overrun := by
  unfold PortState.pump
  split
  · simp
  · split <;> simp

theorem PortState.pump_queue_length (x : PortState) : x.pump.queue.length ≤ x.queue.length := by
  unfold PortState.pump
  split
  · simp
  · split <;> simp_all

/-- A notice leaves the hold and the mask of a port as they were. -/
theorem PortState.offer_frame (x : PortState) (n : Notice) : (x.offer n).hold = x.hold ∧ (x.offer n).mask = x.mask := by
  unfold PortState.offer
  split
  · simp
  · split
    · simp [PortState.pump_frame]
    · simp

/-- A queue of 32 stays within 32. -/
theorem PortState.offer_queue_length {x : PortState} (n : Notice) (h : x.queue.length ≤ 32) :
    (x.offer n).queue.length ≤ 32 := by
  unfold PortState.offer
  split
  · exact h
  · split
    · rename_i hq
      have := PortState.pump_queue_length { x with queue := x.queue ++ [n] }
      simp at this
      omega
    · exact h

@[simp] theorem Plant.modPort_other_sup (p : Plant) (f : PortState → PortState) : (p.modPort .pnl f).sup = p.sup := rfl
@[simp] theorem Plant.modPort_other_pnl (p : Plant) (f : PortState → PortState) : (p.modPort .sup f).pnl = p.pnl := rfl

/-! ## Ovens, claims and phases -/

/-- The oven updated, where the table holds it. -/
theorem Plant.modOven_oven_same {p : Plant} {n : Nat} (h : 1 ≤ n ∧ n ≤ p.ovens.length) (f : Oven → Oven) :
    (p.modOven n f).oven n = f (p.oven n) := by
  have : (numbered p.ovens n).isSome := by rw [numbered_isSome]; simpa using h
  obtain ⟨o, ho⟩ := Option.isSome_iff_exists.1 this
  simp [Plant.oven, numbered_updateNumbered, ho]

/-- Every other oven is as it was. -/
theorem Plant.modOven_oven_ne (p : Plant) {n k : Nat} (h : k ≠ n) (f : Oven → Oven) :
    (p.modOven n f).oven k = p.oven k := by
  simp [Plant.oven, numbered_updateNumbered, h]

/-- PM and GC take the claim they are given; the others have none (R165). -/
theorem setClaim_claim (g : Ground) (m : Machine) (c : Claim) (p : Plant) (h : m = .pm ∨ m = .gc) :
    (setClaim g m c p).claim m = c := by
  unfold setClaim
  split
  · assumption
  · rcases h with rfl | rfl <;> rfl

/-- A cause that moves no oven from the phase it is in changes nothing (R4). -/
theorem changePhase_refused {g : Ground} {n : Nat} {new : Phase} {cause : Cause} {p : Plant}
    (h : cause.moves (p.oven n).phase new = false) : changePhase g n new cause p = p := by
  simp [changePhase, h]

/-- An accrual event leaves an oven without accrual state as it is (R25). -/
theorem accrueOven_of_none {now : Time} {o : Oven} (h : o.accrual = none) : accrueOven now o = o := by
  simp [accrueOven, h]

/-- A frame that has arrived on a port empties the port's receiver and is judged at that port; the waiting commands stay
(R171, R172). -/
theorem State.portFrame_spec (s : State) (port : Port) (tag : Byte) (body : FrameBody) :
    (s.portFrame port tag body).ground = (s.received (.port port)).ground ∧
      (s.portFrame port tag body).plant = s.plant.modPort port (fun x => x.arrival tag body) ∧
      (s.portFrame port tag body).pending = s.pending := ⟨rfl, rfl, rfl⟩

end Machine

end Sys2Proof
end

