-- ==== Sys2Proof/Laws/Frames.lean ====
section
/-! SUPPORT. What each shared operation of the plant leaves alone. An erasure puts fixed values in the fields that a kind of
operation may write; an operation that leaves a plant's erasure as it was has written nothing else. Every lemma is an equation
of erasures, so that frames of compositions follow by rewriting, and any field an erasure keeps by `congrArg`. -/

namespace Sys2Proof.Machine

/-- Ports, records sent, PRESS commands awaited and follow-up events erased. -/
def Plant.noTraffic (p : Plant) : Plant :=
  { p with sup := .quiet 0, pnl := .quiet 0, sent := [], closingPresses := [], agenda := [] }

/-- Traffic and the ovens' records erased: what the credit and offtake units write. -/
def Plant.noOvens (p : Plant) : Plant := { p.noTraffic with ovens := [] }

/-- Traffic and the service lists erased. -/
def Plant.noSides (p : Plant) : Plant := { p.noTraffic with psSide := .idle, csSide := .idle }

/-- Traffic, ovens and service lists erased: what a phase change writes. -/
def Plant.noPhases (p : Plant) : Plant := { p.noOvens with psSide := .idle, csSide := .idle }

/-- Traffic and the track erased: cars, water arbiter, spray commands and track hold. -/
def Plant.noTrack (p : Plant) : Plant :=
  { p.noTraffic with
    carA := .created, carB := .created, grant := none, waiting := [], sprayA := false, sprayB := false, trackHold := false }

/-- Traffic and claims erased. -/
def Plant.noClaims (p : Plant) : Plant := { p.noTraffic with claimPm := .free, claimGc := .free }

/-- What the charge unit writes erased: charge and ask, claims, ovens, service lists and traffic. -/
def Plant.noCharge (p : Plant) : Plant :=
  { p.noPhases with claimPm := .free, claimGc := .free, charge := none, ask := none }

/-- Two plants that agree outside the traffic agree outside more. -/
theorem Plant.noOvens_of_noTraffic {p q : Plant} (h : q.noTraffic = p.noTraffic) : q.noOvens = p.noOvens :=
  congrArg (fun r : Plant => { r with ovens := [] }) h

theorem Plant.noSides_of_noTraffic {p q : Plant} (h : q.noTraffic = p.noTraffic) : q.noSides = p.noSides :=
  congrArg (fun r : Plant => { r with psSide := .idle, csSide := .idle }) h

theorem Plant.noPhases_of_noOvens {p q : Plant} (h : q.noOvens = p.noOvens) : q.noPhases = p.noPhases :=
  congrArg (fun r : Plant => { r with psSide := .idle, csSide := .idle }) h

theorem Plant.noPhases_of_noSides {p q : Plant} (h : q.noSides = p.noSides) : q.noPhases = p.noPhases :=
  congrArg (fun r : Plant => { r with ovens := [] }) h

theorem Plant.noTrack_of_noTraffic {p q : Plant} (h : q.noTraffic = p.noTraffic) : q.noTrack = p.noTrack :=
  congrArg
    (fun r : Plant =>
      { r with
        carA := .created, carB := .created, grant := none, waiting := [], sprayA := false, sprayB := false
        trackHold := false }) h

theorem Plant.noClaims_of_noTraffic {p q : Plant} (h : q.noTraffic = p.noTraffic) : q.noClaims = p.noClaims :=
  congrArg (fun r : Plant => { r with claimPm := .free, claimGc := .free }) h

theorem Plant.noCharge_of_noPhases {p q : Plant} (h : q.noPhases = p.noPhases) : q.noCharge = p.noCharge :=
  congrArg (fun r : Plant => { r with claimPm := .free, claimGc := .free, charge := none, ask := none }) h

theorem Plant.noCharge_of_noClaims {p q : Plant} (h : q.noClaims = p.noClaims) : q.noCharge = p.noCharge :=
  congrArg (fun r : Plant => { r with ovens := [], psSide := .idle, csSide := .idle, charge := none, ask := none }) h

/-! ## Traffic -/

@[simp] theorem raise_noTraffic (g : Ground) (b : NoticeBody) (p : Plant) : (raise g b p).noTraffic = p.noTraffic := rfl
@[simp] theorem send_noTraffic (m : Machine) (r : ToMachine) (p : Plant) : (send m r p).noTraffic = p.noTraffic := rfl
@[simp] theorem start_noTraffic (t : Task) (p : Plant) : (start t p).noTraffic = p.noTraffic := rfl
@[simp] theorem startAll_noTraffic (ts : List Task) (p : Plant) : (startAll ts p).noTraffic = p.noTraffic := rfl

@[simp] theorem sendStops_noTraffic (ms : List Machine) (p : Plant) : (sendStops ms p).noTraffic = p.noTraffic := by
  unfold sendStops
  induction ms generalizing p with
  | nil => rfl
  | cons m ms ih => rw [List.foldl_cons, ih]; rfl

@[simp] theorem raise_noOvens (g : Ground) (b : NoticeBody) (p : Plant) : (raise g b p).noOvens = p.noOvens := rfl
@[simp] theorem send_noOvens (m : Machine) (r : ToMachine) (p : Plant) : (send m r p).noOvens = p.noOvens := rfl
@[simp] theorem start_noOvens (t : Task) (p : Plant) : (start t p).noOvens = p.noOvens := rfl
@[simp] theorem startAll_noOvens (ts : List Task) (p : Plant) : (startAll ts p).noOvens = p.noOvens := rfl
@[simp] theorem sendStops_noOvens (ms : List Machine) (p : Plant) : (sendStops ms p).noOvens = p.noOvens :=
  Plant.noOvens_of_noTraffic (sendStops_noTraffic ms p)

@[simp] theorem raise_noSides (g : Ground) (b : NoticeBody) (p : Plant) : (raise g b p).noSides = p.noSides := rfl
@[simp] theorem start_noSides (t : Task) (p : Plant) : (start t p).noSides = p.noSides := rfl

@[simp] theorem raise_noPhases (g : Ground) (b : NoticeBody) (p : Plant) : (raise g b p).noPhases = p.noPhases := rfl
@[simp] theorem send_noPhases (m : Machine) (r : ToMachine) (p : Plant) : (send m r p).noPhases = p.noPhases := rfl
@[simp] theorem start_noPhases (t : Task) (p : Plant) : (start t p).noPhases = p.noPhases := rfl

@[simp] theorem raise_noTrack (g : Ground) (b : NoticeBody) (p : Plant) : (raise g b p).noTrack = p.noTrack := rfl
@[simp] theorem send_noTrack (m : Machine) (r : ToMachine) (p : Plant) : (send m r p).noTrack = p.noTrack := rfl
@[simp] theorem start_noTrack (t : Task) (p : Plant) : (start t p).noTrack = p.noTrack := rfl
@[simp] theorem sendStops_noTrack (ms : List Machine) (p : Plant) : (sendStops ms p).noTrack = p.noTrack :=
  Plant.noTrack_of_noTraffic (sendStops_noTraffic ms p)

@[simp] theorem raise_noCharge (g : Ground) (b : NoticeBody) (p : Plant) : (raise g b p).noCharge = p.noCharge := rfl
@[simp] theorem send_noCharge (m : Machine) (r : ToMachine) (p : Plant) : (send m r p).noCharge = p.noCharge := rfl

/-! ## Claims -/

@[simp] theorem setClaim_noClaims (g : Ground) (m : Machine) (c : Claim) (p : Plant) :
    (setClaim g m c p).noClaims = p.noClaims := by
  unfold setClaim
  split
  · rfl
  · cases m <;> rfl

@[simp] theorem releaseClaims_noClaims (g : Ground) (ms : List Machine) (offered : Bool) (p : Plant) :
    (releaseClaims g ms offered p).noClaims = p.noClaims := by
  have key : ∀ (l : List Machine) (q : Plant),
      (l.foldl (fun p m => setClaim g m .free p) q).noClaims = q.noClaims := by
    intro l
    induction l with
    | nil => intro q; rfl
    | cons m l ih => intro q; rw [List.foldl_cons, ih, setClaim_noClaims]
  unfold releaseClaims
  split
  · exact key ms p
  · exact key ms p

@[simp] theorem setClaim_noCharge (g : Ground) (m : Machine) (c : Claim) (p : Plant) :
    (setClaim g m c p).noCharge = p.noCharge := Plant.noCharge_of_noClaims (setClaim_noClaims g m c p)
@[simp] theorem releaseClaims_noCharge (g : Ground) (ms : List Machine) (offered : Bool) (p : Plant) :
    (releaseClaims g ms offered p).noCharge = p.noCharge := Plant.noCharge_of_noClaims (releaseClaims_noClaims g ms offered p)

/-! ## Ovens: the credit and offtake units -/

@[simp] theorem Plant.modOven_noOvens (p : Plant) (n : Nat) (f : Oven → Oven) : (p.modOven n f).noOvens = p.noOvens := rfl
@[simp] theorem Plant.modValve_noOvens (p : Plant) (n : Nat) (f : Valve → Valve) :
    (p.modValve n f).noOvens = p.noOvens := rfl
@[simp] theorem accrue_noOvens (g : Ground) (n : Nat) (p : Plant) : (accrue g n p).noOvens = p.noOvens := rfl
@[simp] theorem setTarget_noOvens (g : Ground) (n mass : Nat) (p : Plant) : (setTarget g n mass p).noOvens = p.noOvens := rfl

@[simp] theorem resetReadiness_noOvens (g : Ground) (n : Nat) (p : Plant) :
    (resetReadiness g n p).noOvens = p.noOvens := by
  unfold resetReadiness
  dsimp only
  split
  · split <;> rfl
  · rfl

@[simp] theorem recomputeOven_noOvens (g : Ground) (n : Nat) (p : Plant) : (recomputeOven g n p).noOvens = p.noOvens := by
  unfold recomputeOven
  split <;> simp

@[simp] theorem accrualEvent_noOvens (g : Ground) (n : Nat) (p : Plant) : (accrualEvent g n p).noOvens = p.noOvens := by
  simp [accrualEvent]

@[simp] theorem beginAccrual_noOvens (g : Ground) (n : Nat) (p : Plant) : (beginAccrual g n p).noOvens = p.noOvens := by
  simp [beginAccrual]

@[simp] theorem setOverdue_noOvens (g : Ground) (n : Nat) (p : Plant) : (setOverdue g n p).noOvens = p.noOvens := by
  unfold setOverdue
  dsimp only
  split
  · split <;> rfl
  · rfl

@[simp] theorem setDwell_noOvens (g : Ground) (n : Nat) (p : Plant) : (setDwell g n p).noOvens = p.noOvens := by
  unfold setDwell
  dsimp only
  split
  · split <;> rfl
  · rfl

@[simp] theorem judgeLoad_noOvens (g : Ground) (n load : Nat) (p : Plant) : (judgeLoad g n load p).noOvens = p.noOvens := by
  unfold judgeLoad
  split <;> rfl

@[simp] theorem commandIsolate_noOvens (n : Nat) (p : Plant) : (commandIsolate n p).noOvens = p.noOvens := by
  unfold commandIsolate
  split <;> rfl

@[simp] theorem commandAspirate_noOvens (n : Nat) (p : Plant) : (commandAspirate n p).noOvens = p.noOvens := by
  unfold commandAspirate
  split <;> rfl

@[simp] theorem commandRegulate_noOvens (g : Ground) (n : Nat) (p : Plant) : (commandRegulate g n p).noOvens = p.noOvens := by
  unfold commandRegulate
  split <;> rfl

@[simp] theorem isolateForTicket_noOvens (g : Ground) (n num : Nat) (p : Plant) :
    (isolateForTicket g n num p).noOvens = p.noOvens := by
  unfold isolateForTicket
  dsimp only
  split <;> simp

/-! ## Service lists -/

@[simp] theorem Plant.modSide_noSides (p : Plant) (side : Side) (f : ServiceSide → ServiceSide) :
    (p.modSide side f).noSides = p.noSides := by
  cases side <;> rfl

@[simp] theorem joinList_noSides (g : Ground) (n : Nat) (side : Side) (p : Plant) :
    (joinList g n side p).noSides = p.noSides := by
  unfold joinList
  dsimp only
  split
  · rfl
  · split
    · split <;> simp
    · simp

@[simp] theorem refill_noSides (g : Ground) (side : Side) (p : Plant) : (refill g side p).noSides = p.noSides := by
  unfold refill
  dsimp only
  split <;> simp

@[simp] theorem leaveList_noSides (g : Ground) (n : Nat) (side : Side) (p : Plant) :
    (leaveList g n side p).noSides = p.noSides := by
  unfold leaveList
  split <;> simp

@[simp] theorem rejudge_noSides (g : Ground) (n : Nat) (side : Side) (p : Plant) :
    (rejudge g n side p).noSides = p.noSides := by
  unfold rejudge
  split <;> simp

@[simp] theorem rejudgeBoth_noSides (g : Ground) (n : Nat) (p : Plant) : (rejudgeBoth g n p).noSides = p.noSides := by
  simp [rejudgeBoth]

@[simp] theorem dropUnqualified_noSides (g : Ground) (n : Nat) (p : Plant) :
    (dropUnqualified g n p).noSides = p.noSides := by
  unfold dropUnqualified
  dsimp only
  split <;> split <;> simp

@[simp] theorem regroup_noSides (n : Nat) (p : Plant) : (regroup n p).noSides = p.noSides := by
  simp [regroup, regroupSide]

@[simp] theorem takeHead_noSides (g : Ground) (side : Side) (j : Job) (p : Plant) :
    (takeHead g side j p).noSides = p.noSides := by
  simp [takeHead]

/-! ## Phases -/

@[simp] theorem phaseInforms_noPhases (g : Ground) (n : Nat) (old new : Phase) (p : Plant) :
    (phaseInforms g n old new p).noPhases = p.noPhases := by
  have h1 : ∀ q : Plant, (regroup n q).noPhases = q.noPhases := fun q => Plant.noPhases_of_noSides (regroup_noSides n q)
  have h2 : ∀ q : Plant, (setDwell g n q).noPhases = q.noPhases := fun q => Plant.noPhases_of_noOvens (setDwell_noOvens g n q)
  have h3 : ∀ q : Plant, (recomputeOven g n q).noPhases = q.noPhases := fun q =>
    Plant.noPhases_of_noOvens (recomputeOven_noOvens g n q)
  have h4 : ∀ q : Plant, (rejudgeBoth g n q).noPhases = q.noPhases := fun q =>
    Plant.noPhases_of_noSides (rejudgeBoth_noSides g n q)
  have h5 : ∀ q : Plant, (dropUnqualified g n q).noPhases = q.noPhases := fun q =>
    Plant.noPhases_of_noSides (dropUnqualified_noSides g n q)
  unfold phaseInforms
  simp only [apply_ite Plant.noPhases, start_noPhases, h1, h2, h3, h4, h5, ite_self]

@[simp] theorem changePhase_noPhases (g : Ground) (n : Nat) (new : Phase) (cause : Cause) (p : Plant) :
    (changePhase g n new cause p).noPhases = p.noPhases := by
  unfold changePhase
  dsimp only
  split
  · rw [phaseInforms_noPhases]; rfl
  · rfl

@[simp] theorem becomeReady_noPhases (g : Ground) (n : Nat) (cause : Cause) (p : Plant) :
    (becomeReady g n cause p).noPhases = p.noPhases := by
  simp [becomeReady]

@[simp] theorem returnOven_noPhases (g : Ground) (n : Nat) (cause : Cause) (p : Plant) :
    (returnOven g n cause p).noPhases = p.noPhases := by
  have h1 : ∀ q : Plant, (beginAccrual g n q).noPhases = q.noPhases := fun q =>
    Plant.noPhases_of_noOvens (beginAccrual_noOvens g n q)
  have h2 : ∀ q : Plant, (setOverdue g n q).noPhases = q.noPhases := fun q =>
    Plant.noPhases_of_noOvens (setOverdue_noOvens g n q)
  unfold returnOven
  dsimp only
  rw [h2, h1]
  split
  · rw [becomeReady_noPhases]; rfl
  · rw [changePhase_noPhases]; rfl

/-! ## The track -/

@[simp] theorem Plant.modCar_noTrack (p : Plant) (c : Car) (f : CarRecord → CarRecord) :
    (p.modCar c f).noTrack = p.noTrack := by
  cases c <;> rfl

@[simp] theorem Plant.setSpray_noTrack (p : Plant) (c : Car) (on : Bool) : (p.setSpray c on).noTrack = p.noTrack := by
  cases c <;> rfl

@[simp] theorem setCarState_noTrack (g : Ground) (c : Car) (new : CarState) (p : Plant) :
    (setCarState g c new p).noTrack = p.noTrack := by
  unfold setCarState
  dsimp only
  split
  · rfl
  · split <;> simp

@[simp] theorem lookForGrant_noTrack (g : Ground) (p : Plant) : (lookForGrant g p).noTrack = p.noTrack := by
  unfold lookForGrant
  split
  · rfl
  · split
    · rfl
    · simp; rfl

@[simp] theorem requestWater_noTrack (g : Ground) (c : Car) (p : Plant) : (requestWater g c p).noTrack = p.noTrack := by
  unfold requestWater
  simp only [lookForGrant_noTrack]
  split <;> rfl

@[simp] theorem arrive_noTrack (g : Ground) (c : Car) (x : Nat) (p : Plant) : (arrive g c x p).noTrack = p.noTrack := by
  unfold arrive
  dsimp only
  split
  · split <;> simp
  · simp
  · split <;> simp
  · simp

@[simp] theorem requestTarget_noTrack (g : Ground) (c : Car) (x : Nat) (p : Plant) :
    (requestTarget g c x p).noTrack = p.noTrack := by
  unfold requestTarget
  dsimp only
  split
  · simp
  · split
    · split <;> simp
    · simp

@[simp] theorem runToTower_noTrack (g : Ground) (c : Car) (p : Plant) : (runToTower g c p).noTrack = p.noTrack := by
  simp [runToTower]

@[simp] theorem setHot_noTrack (g : Ground) (c : Car) (p : Plant) : (setHot g c p).noTrack = p.noTrack := by
  simp [setHot]

@[simp] theorem startRun_noTrack (g : Ground) (c : Car) (n : Nat) (p : Plant) : (startRun g c n p).noTrack = p.noTrack := by
  unfold startRun
  dsimp only
  split
  · simp
  · split <;> simp

@[simp] theorem bindCar_noTrack (g : Ground) (c : Car) (num n : Nat) (p : Plant) : (bindCar g c num n p).noTrack = p.noTrack := by
  unfold bindCar
  dsimp only
  split <;> simp

@[simp] theorem unbindCar_noTrack (g : Ground) (c : Car) (faultHeld : Bool) (p : Plant) :
    (unbindCar g c faultHeld p).noTrack = p.noTrack := by
  unfold unbindCar
  dsimp only
  split
  iterate 3 (split <;> simp)
  · split
    · simp
    · split <;> simp
  · split <;> simp
  · split <;> simp
  · simp

@[simp] theorem letCarGo_noTrack (g : Ground) (c : Car) (p : Plant) : (letCarGo g c p).noTrack = p.noTrack := by
  unfold letCarGo
  split <;> simp

@[simp] theorem faultCar_noTrack (g : Ground) (c : Car) (reason : CarFault) (p : Plant) :
    (faultCar g c reason p).noTrack = p.noTrack := by
  have h : ∀ q : Plant, ({ q with waiting := q.waiting.filter (· ≠ c) } : Plant).noTrack = q.noTrack := fun _ => rfl
  have h' : ∀ q : Plant, ({ q with trackHold := true } : Plant).noTrack = q.noTrack := fun _ => rfl
  unfold faultCar
  dsimp only
  split
  · simp
  · split <;> simp only [start_noTrack, raise_noTrack, setCarState_noTrack, apply_ite Plant.noTrack,
      Plant.setSpray_noTrack, h, h', Plant.modCar_noTrack, sendStops_noTrack, send_noTrack, ite_self]

@[simp] theorem firstReport_noTrack (g : Ground) (c : Car) (x : Nat) (p : Plant) :
    (firstReport g c x p).noTrack = p.noTrack := by
  unfold firstReport
  dsimp only
  split
  · rfl
  · split
    · split
      · simp
      · split <;> simp
    · simp

@[simp] theorem spanReport_noTrack (g : Ground) (c : Car) (x : Nat) (moving : Bool) (p : Plant) :
    (spanReport g c x moving p).noTrack = p.noTrack := by
  unfold spanReport
  dsimp only
  split
  · split <;> simp
  · split
    · split
      · simp
      · split <;> simp
    · simp

@[simp] theorem carReport_noTrack (g : Ground) (c : Car) (x : Nat) (moving loaded : Bool) (p : Plant) :
    (carReport g c x moving loaded p).noTrack = p.noTrack := by
  unfold carReport tellSequencer
  dsimp only
  simp only [apply_ite Plant.noTrack, start_noTrack, setHot_noTrack, firstReport_noTrack, spanReport_noTrack,
    Plant.modCar_noTrack, ite_self]

/-! ## The charge unit -/

@[simp] theorem changePhase_noCharge (g : Ground) (n : Nat) (new : Phase) (cause : Cause) (p : Plant) :
    (changePhase g n new cause p).noCharge = p.noCharge := Plant.noCharge_of_noPhases (changePhase_noPhases g n new cause p)

@[simp] theorem tellWait_noCharge (a : Ask) (reason : ChargeReason) (p : Plant) :
    (tellWait a reason p).noCharge = p.noCharge := by
  unfold tellWait
  split <;> rfl

@[simp] theorem dropAsk_noCharge (g : Ground) (p : Plant) : (dropAsk g p).noCharge = p.noCharge := by
  unfold dropAsk
  split
  · rfl
  · dsimp only
    split
    · rw [releaseClaims_noCharge]; rfl
    · rfl

@[simp] theorem beginCharge_noCharge (g : Ground) (n : Nat) (p : Plant) : (beginCharge g n p).noCharge = p.noCharge := by
  have h : ∀ q : Plant, (commandAspirate n q).noCharge = q.noCharge := fun q =>
    Plant.noCharge_of_noPhases (Plant.noPhases_of_noOvens (commandAspirate_noOvens n q))
  unfold beginCharge
  simp only [send_noCharge, h, changePhase_noCharge]
  rfl

@[simp] theorem prepareAsk_noCharge (g : Ground) (a : Ask) (p : Plant) : (prepareAsk g a p).noCharge = p.noCharge := by
  have h : ∀ (q : Plant) (x : Option Ask), ({ q with ask := x } : Plant).noCharge = q.noCharge := fun _ _ => rfl
  unfold prepareAsk
  dsimp only
  split
  · split <;> simp
  · split <;> simp [h]

/-- A re-check of the pending ask writes nothing but charge and ask, claims, the oven asked for, and traffic. -/
@[simp] theorem recheckAsk_noCharge (g : Ground) (p : Plant) : (recheckAsk g p).noCharge = p.noCharge := by
  unfold recheckAsk
  split
  · rfl
  · split <;> simp

end Sys2Proof.Machine
end

