-- ==== Sys2Proof/Laws/Ovens.lean ====
section
/-! SUPPORT. What the credit unit, the offtake unit and a phase change do to the oven they name, and that they change no
other. -/

namespace Sys2Proof.Machine

/-- The oven number stands in the table. -/
def Plant.hasOven (p : Plant) (n : Nat) : Prop := 1 ≤ n ∧ n ≤ p.ovens.length

/-- An oven's record without its timers, its accrual state and its COLD_DATA flag. -/
def Oven.noTimers (o : Oven) : Oven :=
  { o with accrual := none, readiness := none, overdue := none, dwell := none, cold := false }

/-- Only the table of ovens decides what an oven's record reads as. -/
theorem Plant.oven_congr {p q : Plant} (h : q.ovens = p.ovens) (n : Nat) : q.oven n = p.oven n := by
  simp [Plant.oven, h]

theorem Plant.modOven_hasOven {p : Plant} {n k : Nat} {f : Oven → Oven} : (p.modOven n f).hasOven k ↔ p.hasOven k := by
  simp [Plant.hasOven]

@[simp] theorem Plant.modOven_length (p : Plant) (n : Nat) (f : Oven → Oven) :
    (p.modOven n f).ovens.length = p.ovens.length := by
  simp

/-! ## What happens to one oven -/

/-- What an operation on oven `n` may do to the table: it keeps its length and every other oven, and takes the oven named
to one related to what it was. -/
structure Touches (n : Nat) (R : Oven → Oven → Prop) (p q : Plant) : Prop where
  length : q.ovens.length = p.ovens.length
  others : ∀ k, k ≠ n → q.oven k = p.oven k
  named : p.hasOven n → R (p.oven n) (q.oven n)

theorem Touches.hasOven {n : Nat} {R : Oven → Oven → Prop} {p q : Plant} (h : Touches n R p q) {k : Nat} :
    q.hasOven k ↔ p.hasOven k := by
  simp [Plant.hasOven, h.length]

theorem Touches.trans {n : Nat} {R S T : Oven → Oven → Prop} {p q r : Plant} (h : Touches n R p q) (h' : Touches n S q r)
    (hT : ∀ a b c, R a b → S b c → T a c) : Touches n T p r where
  length := h'.length.trans h.length
  others k hk := (h'.others k hk).trans (h.others k hk)
  named hp := hT _ _ _ (h.named hp) (h'.named (h.hasOven.2 hp))

theorem Touches.weaken {n : Nat} {R S : Oven → Oven → Prop} {p q : Plant} (h : Touches n R p q)
    (hS : ∀ a b, R a b → S a b) : Touches n S p q where
  length := h.length
  others := h.others
  named hp := hS _ _ (h.named hp)

/-- An operation that leaves the table as it is. -/
theorem Touches.of_ovens {n : Nat} {p q : Plant} (h : q.ovens = p.ovens) : Touches n (fun a b => b = a) p q where
  length := by rw [h]
  others k _ := Plant.oven_congr h k
  named _ := Plant.oven_congr h n

theorem Plant.modOven_touches (p : Plant) (n : Nat) (f : Oven → Oven) : Touches n (fun a b => b = f a) p (p.modOven n f) where
  length := by simp
  others k hk := Plant.modOven_oven_ne p hk f
  named h := Plant.modOven_oven_same h f

/-- The oven as it was but for timers, accrual and COLD_DATA. -/
abbrev sameButTimers (a b : Oven) : Prop := b.noTimers = a.noTimers

theorem resetReadiness_touches (g : Ground) (n : Nat) (p : Plant) :
    Touches n (fun a b => b = { a with readiness := b.readiness }) p (resetReadiness g n p) := by
  have h := (Plant.modOven_touches p n fun o => { o with readiness := readinessExpiryOf g (p.oven n) }).weaken
    (S := fun a b => b = { a with readiness := b.readiness }) (by rintro a _ rfl; rfl)
  unfold resetReadiness
  dsimp only
  split
  · split
    · exact ⟨h.length, h.others, h.named⟩
    · exact h
  · exact h

/-- Step 3 of an accrual event: rate, COLD_DATA and readiness expiry of an oven that has accrual state (R25). -/
theorem recomputeOven_touches (g : Ground) (n : Nat) (p : Plant) :
    Touches n
      (fun a b =>
        b = { a with
          readiness := b.readiness
          cold := if a.accrual.isSome then !anyWallLive g n else a.cold
          accrual := a.accrual.map fun x => { x with rate := rateOf g n } }) p (recomputeOven g n p) := by
  unfold recomputeOven
  split
  · rename_i h
    refine ⟨rfl, fun _ _ => rfl, fun _ => ?_⟩
    simp [h]
    rw [← h]
  · rename_i x h
    have h1 := Plant.modOven_touches p n fun o =>
      { o with accrual := some { x with rate := rateOf g n }, cold := !anyWallLive g n }
    refine ⟨?_, ?_, ?_⟩
    · rw [(resetReadiness_touches g n _).length, h1.length]
    · intro k hk
      rw [(resetReadiness_touches g n _).others k hk, h1.others k hk]
    · intro hp
      have h2 := (resetReadiness_touches g n
        (p.modOven n fun o => { o with accrual := some { x with rate := rateOf g n }, cold := !anyWallLive g n })).named
          (h1.hasOven.2 hp)
      rw [h1.named hp] at h2
      rw [h2]
      simp [h]

/-- Steps 1 and 2 of an accrual event (R25). -/
theorem accrue_touches (g : Ground) (n : Nat) (p : Plant) :
    Touches n (fun a b => b = accrueOven g.clock a) p (accrue g n p) := Plant.modOven_touches p n _

/-- An accrual event (R25). -/
theorem accrualEvent_touches (g : Ground) (n : Nat) (p : Plant) :
    Touches n
      (fun a b =>
        b = { accrueOven g.clock a with
          readiness := b.readiness
          cold := if a.accrual.isSome then !anyWallLive g n else a.cold
          accrual := (accrueOven g.clock a).accrual.map fun x => { x with rate := rateOf g n } }) p
      (accrualEvent g n p) := by
  refine (accrue_touches g n p).trans (recomputeOven_touches g n _) ?_
  rintro a _ c rfl h
  rw [h]
  cases ha : a.accrual <;> simp [accrueOven, ha]

/-- Accrual begins or resumes now (R27). -/
theorem beginAccrual_touches (g : Ground) (n : Nat) (p : Plant) :
    Touches n
      (fun a b =>
        b = { a with
          readiness := b.readiness
          cold := !anyWallLive g n
          accrual := some { since := g.clock, rate := rateOf g n } }) p (beginAccrual g n p) := by
  refine (Plant.modOven_touches p n _).trans (recomputeOven_touches g n _) ?_
  rintro a _ c rfl h
  rw [h]
  simp

theorem setOverdue_touches (g : Ground) (n : Nat) (p : Plant) :
    Touches n (fun a b => b = { a with overdue := b.overdue }) p (setOverdue g n p) := by
  unfold setOverdue
  dsimp only
  split
  · have h := (Plant.modOven_touches p n fun o =>
      { o with overdue := some ((p.oven n).chargeEnd.getD 0 + (g.params.tMax : Int)) }).weaken
        (S := fun a b => b = { a with overdue := b.overdue }) (by rintro a _ rfl; rfl)
    split
    · exact ⟨h.length, h.others, h.named⟩
    · exact h
  · exact ⟨rfl, fun _ _ => rfl, fun _ => rfl⟩

theorem setDwell_touches (g : Ground) (n : Nat) (p : Plant) :
    Touches n (fun a b => b = { a with dwell := b.dwell }) p (setDwell g n p) := by
  unfold setDwell
  dsimp only
  split
  · rename_i t _ _ _
    have h := (Plant.modOven_touches p n fun o => { o with dwell := some (t + (g.params.emptyLimit : Int)) }).weaken
        (S := fun a b => b = { a with dwell := b.dwell }) (by rintro a _ rfl; rfl)
    split
    · exact ⟨h.length, h.others, h.named⟩
    · exact h
  · exact ⟨rfl, fun _ _ => rfl, fun _ => rfl⟩

/-- The mass as clamped, and the credit target reckoned from it (R28). -/
theorem setTarget_touches (g : Ground) (n mass : Nat) (p : Plant) :
    Touches n
      (fun a b =>
        b = { a with
          mass := clampMass g.params mass
          target := creditTarget g.params (clampMass g.params mass) a.trim }) p (setTarget g n mass p) :=
  Plant.modOven_touches p n _

/-! ## Offtake modes -/

/-- ISOLATE (R130). -/
theorem commandIsolate_touches (n : Nat) (p : Plant) :
    Touches n
      (fun a b => b = { a with valve :=
        match a.valve.mode with
        | .regulate | .manual | .hold => { a.valve with mode := .isolate, position := some 0, confirmed := false }
        | _ => a.valve }) p (commandIsolate n p) := by
  unfold commandIsolate
  split
  all_goals
    rename_i h
    first
      | (refine ⟨by simp [Plant.modValve], fun k hk => Plant.modOven_oven_ne p hk _, fun hp => ?_⟩
         simp only [Plant.modValve, Plant.modOven_oven_same hp, h])
      | (refine ⟨rfl, fun _ _ => rfl, fun _ => ?_⟩
         cases hm : (p.oven n).valve.mode <;> simp_all)

/-- ASPIRATE (R130). -/
theorem commandAspirate_touches (n : Nat) (p : Plant) :
    Touches n
      (fun a b => b = { a with valve :=
        match a.valve.mode with
        | .isolate => { a.valve with mode := .aspirate, position := some 1000, confirmed := false }
        | _ => a.valve }) p (commandAspirate n p) := by
  unfold commandAspirate
  split
  · rename_i h
    refine ⟨by simp [Plant.modValve], fun k hk => Plant.modOven_oven_ne p hk _, fun hp => ?_⟩
    simp only [Plant.modValve, Plant.modOven_oven_same hp, h]
  · refine ⟨rfl, fun _ _ => rfl, fun _ => ?_⟩
    cases hm : (p.oven n).valve.mode <;> simp_all

/-- REGULATE (R130, R132). -/
theorem commandRegulate_touches (g : Ground) (n : Nat) (p : Plant) :
    Touches n
      (fun a b => b = { a with valve :=
        if a.valve.mode = .regulate then a.valve
        else
          { a.valve with
            mode := .regulate, position := some (regulatePosition g a.valve.position), confirmed := false } }) p
      (commandRegulate g n p) := by
  unfold commandRegulate
  split
  · rename_i h
    refine ⟨rfl, fun _ _ => rfl, fun _ => ?_⟩
    simp [h]
  · rename_i h
    refine ⟨by simp [Plant.modValve], fun k hk => Plant.modOven_oven_ne p hk _, fun hp => ?_⟩
    have h' : (p.oven n).valve.mode ≠ .regulate := h
    simp [Plant.modValve, Plant.modOven_oven_same hp, h']

/-! ## Phase changes -/

/-- The service lists are no part of the ovens' table. -/
theorem ovens_of_noSides {p q : Plant} (h : q.noSides = p.noSides) : q.ovens = p.ovens := by
  have h' : q.noSides.ovens = p.noSides.ovens := by rw [h]
  exact h'

theorem Touches.keep {n : Nat} {p q : Plant} (h : q.ovens = p.ovens) : Touches n sameButTimers p q :=
  (Touches.of_ovens h).weaken (by rintro a _ rfl; rfl)

theorem Touches.both {n : Nat} {p q r : Plant} (h : Touches n sameButTimers p q) (h' : Touches n sameButTimers q r) :
    Touches n sameButTimers p r := h.trans h' fun _ _ _ hab hbc => hbc.trans hab

theorem Touches.ite {n : Nat} {c : Prop} [Decidable c] {p q : Plant} (h : Touches n sameButTimers p q) :
    Touches n sameButTimers p (if c then q else p) := by
  split
  · exact h
  · exact .keep rfl

/-- The other blocks' part of a phase change reaches the oven's timers, rate and COLD_DATA at most. -/
theorem phaseInforms_touches (g : Ground) (n : Nat) (old new : Phase) (p : Plant) :
    Touches n sameButTimers p (phaseInforms g n old new p) := by
  have d : ∀ q : Plant, Touches n sameButTimers q (setDwell g n q) := fun q =>
    (setDwell_touches g n q).weaken (by intro a b h; rw [h]; rfl)
  have r : ∀ q : Plant, Touches n sameButTimers q (recomputeOven g n q) := fun q =>
    (recomputeOven_touches g n q).weaken (by intro a b h; rw [h]; rfl)
  let f1 (q : Plant) : Plant := if old = .empty ∨ new = .empty then regroup n q else q
  let f2 (q : Plant) : Plant := if new = .empty then setDwell g n q else q
  let f3 (q : Plant) : Plant := if new = .ticketed then recomputeOven g n q else q
  let f4 (q : Plant) : Plant := if old = .closing then rejudgeBoth g n q else q
  let f5 (q : Plant) : Plant := if new = .closing then dropUnqualified g n q else q
  let f6 (q : Plant) : Plant :=
    if new = .ready ∨ (new = .coking ∧ (old = .charging ∨ old = .unknown)) then start .evaluate q else q
  change Touches n sameButTimers p (f6 (f5 (f4 (f3 (f2 (f1 p))))))
  refine .both (.ite (.keep (ovens_of_noSides (regroup_noSides n p)))) (.both (.ite (d _)) (.both (.ite (r _))
    (.both (.ite (.keep (ovens_of_noSides (rejudgeBoth_noSides g n _))))
      (.both (.ite (.keep (ovens_of_noSides (dropUnqualified_noSides g n _)))) (.ite (.keep rfl))))))

/-- What a phase change does to the oven (R5): the fields tied to it, after an accrual; timers, rate and COLD_DATA apart. -/
theorem changePhase_touches {g : Ground} {n : Nat} {new : Phase} {cause : Cause} {p : Plant}
    (h : cause.moves (p.oven n).phase new = true) :
    Touches n (fun a b => b.noTimers = (phaseFields g.clock a.phase new (accrueOven g.clock a)).noTimers) p
      (changePhase g n new cause p) := by
  have h1 := (accrue_touches g n p).trans
    (Plant.modOven_touches (accrue g n p) n (phaseFields g.clock (p.oven n).phase new))
    (T := fun a b => a = p.oven n → b = phaseFields g.clock a.phase new (accrueOven g.clock a))
    (by rintro a _ c rfl rfl ha; rw [ha])
  have h2 := phaseInforms_touches g n (p.oven n).phase new
    (raise g (.phase n (p.oven n).phase new cause)
      ((accrue g n p).modOven n (phaseFields g.clock (p.oven n).phase new)))
  unfold changePhase
  rw [if_pos h]
  refine ⟨h2.length.trans h1.length, fun k hk => (h2.others k hk).trans (h1.others k hk), fun hp => ?_⟩
  have h3 := h2.named (h1.hasOven.2 hp)
  have h4 := h1.named hp rfl
  refine Eq.trans h3 ?_
  exact congrArg Oven.noTimers h4

/-- The phase after a change that the table of R4 has. -/
theorem changePhase_phase {g : Ground} {n : Nat} {new : Phase} {cause : Cause} {p : Plant}
    (h : cause.moves (p.oven n).phase new = true) (hp : p.hasOven n) :
    ((changePhase g n new cause p).oven n).phase = new :=
  congrArg (fun o : Oven => o.phase) ((changePhase_touches h).named hp)

end Sys2Proof.Machine
end

