-- ==== Sys2Proof/Laws/PerInstr.lean ====
section
/-! SUPPORT. A law of every command as syntax: a command that takes a request is that request's command, and it can be
spelled exactly when the request can. -/

namespace Sys2Proof.Laws

open Sys2Proof.Machine

/-- The port, the tag and the request that a command takes; none for the commands that take no request. -/
def requestOf : Instr → Option (Port × Byte × Request)
  | .status port tag sec => some (port, tag, .status sec)
  | .ovenQuery port tag oven => some (port, tag, .ovenQuery oven)
  | .ovenRestore port tag oven fields => some (port, tag, .ovenRestore oven fields)
  | .ovenService port tag oven state => some (port, tag, .ovenService oven state)
  | .ovenHold port tag oven value => some (port, tag, .ovenHold oven value)
  | .maintRange port tag range => some (port, tag, .maintRange range)
  | .ovenTrim port tag oven trim => some (port, tag, .ovenTrim oven trim)
  | .wallReport port tag first count readings => some (port, tag, .wallReport first count readings)
  | .schedStart port tag => some (port, tag, .schedStart)
  | .schedStop port tag => some (port, tag, .schedStop)
  | .cursorSet port tag index => some (port, tag, .cursorSet index)
  | .catchupClear port tag => some (port, tag, .catchupClear)
  | .pushNow port tag oven force => some (port, tag, .pushNow oven force)
  | .ticketCancel port tag ticket => some (port, tag, .ticketCancel ticket)
  | .release port tag ticket outcome => some (port, tag, .release ticket outcome)
  | .logRead port tag index => some (port, tag, .logRead index)
  | .leakReport port tag oven side level => some (port, tag, .leakReport oven side level)
  | .doorReset port tag oven side => some (port, tag, .doorReset oven side)
  | .valve port tag oven form => some (port, tag, .valve oven form)
  | .carService port tag car state => some (port, tag, .carService car state)
  | .pause port tag => some (port, tag, .pause)
  | .resume port tag => some (port, tag, .resume)
  | .maskSet port tag level => some (port, tag, .maskSet level)
  | .restart port tag => some (port, tag, .restart)
  | .paramGet port tag id => some (port, tag, .paramGet id)
  | .paramSet port tag id value => some (port, tag, .paramSet id value)
  | .storeSave port tag => some (port, tag, .storeSave)
  | .storeLoad port tag => some (port, tag, .storeLoad)
  | .storeErase port tag => some (port, tag, .storeErase)
  | .protectSet port tag level => some (port, tag, .protectSet level)
  | .coldStart _ | .resetLineRelease | .storeReadEnd _ | .storeReadTimeout | .batteryClockTick | .estopAsserted
  | .estopReleased | .keyLineChange _ | .requestFrameArrival _ _ _ | .frameGapTimeout _ _ | .portFrameSent _
  | .storeSaveEnd _ | .storeSaveTimeout | .storeEraseEnd _ | .storeEraseTimeout | .machinePos _ _ _ _
  | .machineFault _ _ | .extractDone _ _ | .replaceDone _ _ | .pressDone _ _ _ | .guideLockDone _ _
  | .guideReleaseDone _ _ | .ramAdvanceDone _ _ _ | .ramReturnDone _ _ | .levelDone _ _ | .receiveDone _ _
  | .dumpDone _ _ | .chargeAsk _ | .chargeEnd _ _ | .otlReply _ _ | .replyWaitExpiry | .wallStalenessExpiry _
  | .readinessExpiry _ | .overdueTimerExpiry _ | .pacingTimerExpiry | .stepTimerExpiry _ | .pacingWaitReached _
  | .serviceTimerExpiry _ | .chargeTimerExpiry | .emptyDwellExpiry _ | .silenceTimerExpiry _
  | .quenchTimerExpiry _ | .drainTimerExpiry _ | .hotDwellExpiry _ | .discardedFrame _ _ => none

/-- A request that a command takes gives the command back, and the two can be spelled together. -/
def Requests.Statement (i : Instr) : Prop :=
  ∀ port tag r, requestOf i = some (port, tag, r) →
    Safety.requestCommand port tag r = i ∧ WellFormed.instr i = WellFormed.request r

/-- What each lemma below comes down to. -/
theorem Requests.of_request {i : Instr} {port : Port} {tag : Byte} {r : Request} (h : requestOf i = some (port, tag, r))
    (hc : Safety.requestCommand port tag r = i) (hw : WellFormed.instr i = WellFormed.request r) : Requests.Statement i := by
  intro port' tag' r' h'
  cases h.symm.trans h'
  exact ⟨hc, hw⟩

/-- A command that takes no request. -/
theorem Requests.of_none {i : Instr} (h : requestOf i = none) : Requests.Statement i := by
  intro _ _ _ h'
  cases h.symm.trans h'

theorem Requests.coldStart (byResetLine : Bool) : Requests.Statement (.coldStart byResetLine) := Requests.of_none rfl
theorem Requests.resetLineRelease : Requests.Statement .resetLineRelease := Requests.of_none rfl
theorem Requests.storeReadEnd (found : StoreFound) : Requests.Statement (.storeReadEnd found) := Requests.of_none rfl
theorem Requests.storeReadTimeout : Requests.Statement .storeReadTimeout := Requests.of_none rfl
theorem Requests.batteryClockTick : Requests.Statement .batteryClockTick := Requests.of_none rfl
theorem Requests.estopAsserted : Requests.Statement .estopAsserted := Requests.of_none rfl
theorem Requests.estopReleased : Requests.Statement .estopReleased := Requests.of_none rfl
theorem Requests.keyLineChange (asserted : Bool) : Requests.Statement (.keyLineChange asserted) :=
  Requests.of_none rfl
theorem Requests.requestFrameArrival (port : Port) (tag : Byte) (body : FrameBody) : Requests.Statement (.requestFrameArrival port tag body) :=
  Requests.of_none rfl
theorem Requests.frameGapTimeout (link : Link) (bytes : List Byte) : Requests.Statement (.frameGapTimeout link bytes) :=
  Requests.of_none rfl
theorem Requests.portFrameSent (port : Port) : Requests.Statement (.portFrameSent port) := Requests.of_none rfl
theorem Requests.status (port : Port) (tag : Byte) (sec : Option StatusSection) : Requests.Statement (.status port tag sec) :=
  Requests.of_request rfl rfl rfl
theorem Requests.ovenQuery (port : Port) (tag : Byte) (oven : Nat) : Requests.Statement (.ovenQuery port tag oven) :=
  Requests.of_request rfl rfl rfl
theorem Requests.ovenRestore (port : Port) (tag : Byte) (oven : Nat) (fields : RestoreFields) : Requests.Statement (.ovenRestore port tag oven fields) :=
  Requests.of_request rfl rfl rfl
theorem Requests.ovenService (port : Port) (tag : Byte) (oven : Nat) (state : Option Service) : Requests.Statement (.ovenService port tag oven state) :=
  Requests.of_request rfl rfl rfl
theorem Requests.ovenHold (port : Port) (tag : Byte) (oven : Nat) (value : Option Bool) : Requests.Statement (.ovenHold port tag oven value) :=
  Requests.of_request rfl rfl rfl
theorem Requests.maintRange (port : Port) (tag : Byte) (range : Option (Nat × Nat)) : Requests.Statement (.maintRange port tag range) :=
  Requests.of_request rfl rfl rfl
theorem Requests.ovenTrim (port : Port) (tag : Byte) (oven : Nat) (trim : Nat) : Requests.Statement (.ovenTrim port tag oven trim) :=
  Requests.of_request rfl rfl rfl
theorem Requests.wallReport (port : Port) (tag : Byte) (first : Nat) (count : Nat) (readings : List Int) : Requests.Statement (.wallReport port tag first count readings) :=
  Requests.of_request rfl rfl rfl
theorem Requests.schedStart (port : Port) (tag : Byte) : Requests.Statement (.schedStart port tag) :=
  Requests.of_request rfl rfl rfl
theorem Requests.schedStop (port : Port) (tag : Byte) : Requests.Statement (.schedStop port tag) :=
  Requests.of_request rfl rfl rfl
theorem Requests.cursorSet (port : Port) (tag : Byte) (index : Nat) : Requests.Statement (.cursorSet port tag index) :=
  Requests.of_request rfl rfl rfl
theorem Requests.catchupClear (port : Port) (tag : Byte) : Requests.Statement (.catchupClear port tag) :=
  Requests.of_request rfl rfl rfl
theorem Requests.pushNow (port : Port) (tag : Byte) (oven : Nat) (force : Bool) : Requests.Statement (.pushNow port tag oven force) :=
  Requests.of_request rfl rfl rfl
theorem Requests.ticketCancel (port : Port) (tag : Byte) (ticket : Nat) : Requests.Statement (.ticketCancel port tag ticket) :=
  Requests.of_request rfl rfl rfl
theorem Requests.release (port : Port) (tag : Byte) (ticket : Nat) (outcome : Option ReleaseOutcome) : Requests.Statement (.release port tag ticket outcome) :=
  Requests.of_request rfl rfl rfl
theorem Requests.logRead (port : Port) (tag : Byte) (index : Nat) : Requests.Statement (.logRead port tag index) :=
  Requests.of_request rfl rfl rfl
theorem Requests.leakReport (port : Port) (tag : Byte) (oven : Nat) (side : Option Side) (level : Nat) : Requests.Statement (.leakReport port tag oven side level) :=
  Requests.of_request rfl rfl rfl
theorem Requests.doorReset (port : Port) (tag : Byte) (oven : Nat) (side : Option Side) : Requests.Statement (.doorReset port tag oven side) :=
  Requests.of_request rfl rfl rfl
theorem Requests.valve (port : Port) (tag : Byte) (oven : Nat) (form : Option ValveForm) : Requests.Statement (.valve port tag oven form) :=
  Requests.of_request rfl rfl rfl
theorem Requests.carService (port : Port) (tag : Byte) (car : Option Car) (state : Option Service) : Requests.Statement (.carService port tag car state) :=
  Requests.of_request rfl rfl rfl
theorem Requests.pause (port : Port) (tag : Byte) : Requests.Statement (.pause port tag) :=
  Requests.of_request rfl rfl rfl
theorem Requests.resume (port : Port) (tag : Byte) : Requests.Statement (.resume port tag) :=
  Requests.of_request rfl rfl rfl
theorem Requests.maskSet (port : Port) (tag : Byte) (level : Nat) : Requests.Statement (.maskSet port tag level) :=
  Requests.of_request rfl rfl rfl
theorem Requests.restart (port : Port) (tag : Byte) : Requests.Statement (.restart port tag) :=
  Requests.of_request rfl rfl rfl
theorem Requests.paramGet (port : Port) (tag : Byte) (id : Option ParamId) : Requests.Statement (.paramGet port tag id) :=
  Requests.of_request rfl rfl rfl
theorem Requests.paramSet (port : Port) (tag : Byte) (id : Option ParamId) (value : ParamValue) : Requests.Statement (.paramSet port tag id value) :=
  Requests.of_request rfl rfl rfl
theorem Requests.storeSave (port : Port) (tag : Byte) : Requests.Statement (.storeSave port tag) :=
  Requests.of_request rfl rfl rfl
theorem Requests.storeLoad (port : Port) (tag : Byte) : Requests.Statement (.storeLoad port tag) :=
  Requests.of_request rfl rfl rfl
theorem Requests.storeErase (port : Port) (tag : Byte) : Requests.Statement (.storeErase port tag) :=
  Requests.of_request rfl rfl rfl
theorem Requests.protectSet (port : Port) (tag : Byte) (level : Nat) : Requests.Statement (.protectSet port tag level) :=
  Requests.of_request rfl rfl rfl
theorem Requests.storeSaveEnd (failed : Option StoreStep) : Requests.Statement (.storeSaveEnd failed) :=
  Requests.of_none rfl
theorem Requests.storeSaveTimeout : Requests.Statement .storeSaveTimeout := Requests.of_none rfl
theorem Requests.storeEraseEnd (ok : Bool) : Requests.Statement (.storeEraseEnd ok) := Requests.of_none rfl
theorem Requests.storeEraseTimeout : Requests.Statement .storeEraseTimeout := Requests.of_none rfl
theorem Requests.machinePos (machine : Machine) (position : Nat) (moving loaded : Bool) : Requests.Statement (.machinePos machine position moving loaded) :=
  Requests.of_none rfl
theorem Requests.machineFault (machine : Machine) (code : Nat) : Requests.Statement (.machineFault machine code) :=
  Requests.of_none rfl
theorem Requests.extractDone (machine : Machine) (oven : Nat) : Requests.Statement (.extractDone machine oven) :=
  Requests.of_none rfl
theorem Requests.replaceDone (machine : Machine) (oven : Nat) : Requests.Statement (.replaceDone machine oven) :=
  Requests.of_none rfl
theorem Requests.pressDone (machine : Machine) (oven : Nat) (force : Nat) : Requests.Statement (.pressDone machine oven force) :=
  Requests.of_none rfl
theorem Requests.guideLockDone (machine : Machine) (oven : Nat) : Requests.Statement (.guideLockDone machine oven) :=
  Requests.of_none rfl
theorem Requests.guideReleaseDone (machine : Machine) (oven : Nat) : Requests.Statement (.guideReleaseDone machine oven) :=
  Requests.of_none rfl
theorem Requests.ramAdvanceDone (machine : Machine) (oven : Nat) (load : Nat) : Requests.Statement (.ramAdvanceDone machine oven load) :=
  Requests.of_none rfl
theorem Requests.ramReturnDone (machine : Machine) (oven : Nat) : Requests.Statement (.ramReturnDone machine oven) :=
  Requests.of_none rfl
theorem Requests.levelDone (machine : Machine) (oven : Nat) : Requests.Statement (.levelDone machine oven) :=
  Requests.of_none rfl
theorem Requests.receiveDone (machine : Machine) (oven : Nat) : Requests.Statement (.receiveDone machine oven) :=
  Requests.of_none rfl
theorem Requests.dumpDone (machine : Machine) (oven : Nat) : Requests.Statement (.dumpDone machine oven) :=
  Requests.of_none rfl
theorem Requests.chargeAsk (oven : Nat) : Requests.Statement (.chargeAsk oven) := Requests.of_none rfl
theorem Requests.chargeEnd (oven : Nat) (mass : Nat) : Requests.Statement (.chargeEnd oven mass) :=
  Requests.of_none rfl
theorem Requests.otlReply (address : Nat) (reply : NodeReply) : Requests.Statement (.otlReply address reply) :=
  Requests.of_none rfl
theorem Requests.replyWaitExpiry : Requests.Statement .replyWaitExpiry := Requests.of_none rfl
theorem Requests.wallStalenessExpiry (wall : Nat) : Requests.Statement (.wallStalenessExpiry wall) :=
  Requests.of_none rfl
theorem Requests.readinessExpiry (oven : Nat) : Requests.Statement (.readinessExpiry oven) := Requests.of_none rfl
theorem Requests.overdueTimerExpiry (oven : Nat) : Requests.Statement (.overdueTimerExpiry oven) :=
  Requests.of_none rfl
theorem Requests.pacingTimerExpiry : Requests.Statement .pacingTimerExpiry := Requests.of_none rfl
theorem Requests.stepTimerExpiry (ticket : Nat) : Requests.Statement (.stepTimerExpiry ticket) := Requests.of_none rfl
theorem Requests.pacingWaitReached (ticket : Nat) : Requests.Statement (.pacingWaitReached ticket) :=
  Requests.of_none rfl
theorem Requests.serviceTimerExpiry (side : Side) : Requests.Statement (.serviceTimerExpiry side) :=
  Requests.of_none rfl
theorem Requests.chargeTimerExpiry : Requests.Statement .chargeTimerExpiry := Requests.of_none rfl
theorem Requests.emptyDwellExpiry (oven : Nat) : Requests.Statement (.emptyDwellExpiry oven) := Requests.of_none rfl
theorem Requests.silenceTimerExpiry (machine : Machine) : Requests.Statement (.silenceTimerExpiry machine) :=
  Requests.of_none rfl
theorem Requests.quenchTimerExpiry (car : Car) : Requests.Statement (.quenchTimerExpiry car) := Requests.of_none rfl
theorem Requests.drainTimerExpiry (car : Car) : Requests.Statement (.drainTimerExpiry car) := Requests.of_none rfl
theorem Requests.hotDwellExpiry (car : Car) : Requests.Statement (.hotDwellExpiry car) := Requests.of_none rfl
theorem Requests.discardedFrame (link : Link) (cause : DiscardCause) : Requests.Statement (.discardedFrame link cause) :=
  Requests.of_none rfl

end Sys2Proof.Laws
end

