-- ==== Sys2Proof/Laws/Timers.lean ====
section
/-! SUPPORT. What the expiry of a timer does while the timer is not set, or not yet due: nothing (log 2). And what the
writing of a door record does: that record alone. -/

namespace Sys2Proof.Machine

open Sys2Proof.Safety

/-- A time stamp not yet reached is not at or before the clock. -/
theorem notDue {now : Time} {o : Option Time} (h : ∀ t, o = some t → now < t) : o = none ∨ ∃ t, o = some t ∧ now < t := by
  cases o with
  | none => exact .inl rfl
  | some t => exact .inr ⟨t, rfl, h t rfl⟩

theorem wallStaled_notDue {s : State} {w : Nat} (h : ∀ t, (s.ground.wall w).expiry = some t → s.ground.clock < t) :
    s.wallStaled w = s := by
  rcases notDue h with h | ⟨t, h, hl⟩ <;> simp [State.wallStaled, *]

theorem readinessReached_notDue {g : Ground} {n : Nat} {p : Plant}
    (h : ∀ t, (p.oven n).readiness = some t → g.clock < t) : readinessReached g n p = p := by
  unfold readinessReached
  dsimp only
  split
  · rename_i t _ ht
    simp [h t ht]
  · rfl

theorem overdueReached_notDue {g : Ground} {n : Nat} {p : Plant}
    (h : ∀ t, (p.oven n).overdue = some t → g.clock < t) : overdueReached g n p = p := by
  rcases notDue h with h | ⟨t, h, hl⟩ <;> simp [overdueReached, *]

theorem pacingReached_notDue {g : Ground} {p : Plant} (h : ∀ t, p.pacing = some t → g.clock < t) :
    pacingReached g p = p := by
  rcases notDue h with h | ⟨t, h, hl⟩ <;> simp [pacingReached, *]

theorem stepReached_notDue {g : Ground} {num : Nat} {p : Plant}
    (h : ∀ x t, p.ticket? num = some x → x.timer = some t → g.clock < t) : stepReached g num p = p := by
  unfold stepReached
  split
  · rfl
  · rename_i x hx
    rcases notDue fun t => h x t hx with h | ⟨t, h, hl⟩ <;> simp [*]

theorem pacingWaitReached_notDue {g : Ground} {num : Nat} {p : Plant}
    (h : ∀ x t, p.ticket? num = some x → x.pacingWait = some t → g.clock < t) : pacingWaitReached g num p = p := by
  unfold pacingWaitReached
  split
  · rfl
  · rename_i x hx
    split
    · rename_i w _ hw
      simp [h x w hx hw]
    · rfl

theorem jobTimeout_notDue {g : Ground} {side : Side} {p : Plant}
    (h : ∀ j t, (p.side side).job = some j → j.timer = some t → g.clock < t) : jobTimeout g side p = p := by
  unfold jobTimeout
  split
  · rfl
  · rename_i j hj
    rcases notDue fun t => h j t hj with h | ⟨t, h, hl⟩ <;> simp [*]

theorem chargeTimeout_notDue {g : Ground} {p : Plant}
    (h : ∀ c t, p.charge = some c → c.timer = some t → g.clock < t) : chargeTimeout g p = p := by
  unfold chargeTimeout
  split
  · rfl
  · rename_i c hc
    rcases notDue fun t => h c t hc with h | ⟨t, h, hl⟩ <;> simp [*]

theorem dwellReached_notDue {g : Ground} {n : Nat} {p : Plant}
    (h : ∀ t, (p.oven n).dwell = some t → g.clock < t) : dwellReached g n p = p := by
  unfold dwellReached
  dsimp only
  split
  · rename_i t _ ht _
    simp [h t ht]
  · rfl

theorem silenceReached_notDue {s : State} {m : Machine}
    (h : ∀ t, (s.ground.mirror m).silence = some t → s.ground.clock < t) : s.silenceReached m = s := by
  rcases notDue h with h | ⟨t, h, hl⟩ <;> simp [State.silenceReached, *]

theorem quenchReached_notDue {g : Ground} {c : Car} {p : Plant} (h : ∀ t, (p.car c).quench = some t → g.clock < t) :
    quenchReached g c p = p := by
  rcases notDue h with h | ⟨t, h, hl⟩ <;> simp [quenchReached, *]

theorem drainReached_notDue {g : Ground} {c : Car} {p : Plant} (h : ∀ t, (p.car c).drain = some t → g.clock < t) :
    drainReached g c p = p := by
  rcases notDue h with h | ⟨t, h, hl⟩ <;> simp [drainReached, *]

theorem hotReached_notDue {g : Ground} {c : Car} {p : Plant} (h : ∀ t, (p.car c).hot = some t → g.clock < t) :
    hotReached g c p = p := by
  rcases notDue h with h | ⟨t, h, hl⟩ <;> simp [hotReached, *]

/-- An event that does nothing to the opened state answers it. -/
theorem State.event_of_eq {s : State} {f : State → State} (hc : calm s) (h : f s.opened = s.opened) :
    s.event f = s.opened := by
  rw [State.event, h]
  exact State.settled_of_calm hc

/-- An event of the blocks that leaves the opened state's plant as it is. -/
theorem State.event_work_of_eq {s : State} {f : Ground → Plant → Plant} (hc : calm s)
    (h : f s.ground s.opened.plant = s.opened.plant) : (s.event fun s => s.work f) = s.opened := by
  refine State.event_of_eq hc ?_
  show ({ s.opened with plant := f s.ground s.opened.plant } : State) = s.opened
  rw [h]

/-- The expiry of a timer that is not set, or not yet due, does nothing (log 2). -/
theorem exec_timerNotDue {c : Instr} {s : State} (hc : calm s) (h : timerNotDue s c) : exec c s = .next s.opened := by
  cases c with
  | wallStalenessExpiry w => exact congrArg _ (State.event_of_eq hc (wallStaled_notDue (s := s.opened) h))
  | readinessExpiry n => exact congrArg _ (State.event_work_of_eq hc (readinessReached_notDue (p := s.opened.plant) h))
  | overdueTimerExpiry n => exact congrArg _ (State.event_work_of_eq hc (overdueReached_notDue (p := s.opened.plant) h))
  | pacingTimerExpiry => exact congrArg _ (State.event_work_of_eq hc (pacingReached_notDue (p := s.opened.plant) h))
  | stepTimerExpiry num => exact congrArg _ (State.event_work_of_eq hc (stepReached_notDue (p := s.opened.plant) h))
  | pacingWaitReached num =>
    exact congrArg _ (State.event_work_of_eq hc (pacingWaitReached_notDue (p := s.opened.plant) h))
  | serviceTimerExpiry side =>
    exact congrArg _ (State.event_work_of_eq hc (jobTimeout_notDue (p := s.opened.plant) (by cases side <;> exact h)))
  | chargeTimerExpiry => exact congrArg _ (State.event_work_of_eq hc (chargeTimeout_notDue (p := s.opened.plant) h))
  | emptyDwellExpiry n => exact congrArg _ (State.event_work_of_eq hc (dwellReached_notDue (p := s.opened.plant) h))
  | silenceTimerExpiry m => exact congrArg _ (State.event_of_eq hc (silenceReached_notDue (s := s.opened) h))
  | quenchTimerExpiry c =>
    exact congrArg _ (State.event_work_of_eq hc (quenchReached_notDue (p := s.opened.plant) (by cases c <;> exact h)))
  | drainTimerExpiry c =>
    exact congrArg _ (State.event_work_of_eq hc (drainReached_notDue (p := s.opened.plant) (by cases c <;> exact h)))
  | hotDwellExpiry c =>
    exact congrArg _ (State.event_work_of_eq hc (hotReached_notDue (p := s.opened.plant) (by cases c <;> exact h)))
  | _ => exact h.elim

/-- The door pair written reads back. -/
theorem DoorPair.setSide_side (d : DoorPair) (side other : Side) (r : Door) :
    (d.setSide side r).side other = if other = side then r else d.side other := by
  cases side <;> cases other <;> rfl

/-- A door's record is written, and no other. -/
theorem Ground.setDoor_door {s : State} {n : Nat} (side : Side) (d : Door) (h : holdsDoors s n) (k : Nat) (other : Side) :
    (s.ground.setDoor n side d).door k other = if k = n ∧ other = side then d else s.ground.door k other := by
  unfold Ground.setDoor Ground.door Ground.doorPair
  dsimp only
  rw [numbered_updateNumbered]
  by_cases hk : k = n
  · subst hk
    have : (numbered s.ground.doors k).isSome := by rw [numbered_isSome]; simpa [holdsDoors] using h
    obtain ⟨x, hx⟩ := Option.isSome_iff_exists.1 this
    simp [hx, DoorPair.setSide_side]
  · simp [hk]

end Sys2Proof.Machine
end

