-- ==== Sys2Proof/Tests/Slice0.lean ====
section
/-! SUPPORT. Tests: terms that each check of WellFormed refuses, figures worked in the manual, and for every statement that
has hypotheses a state and operands that meet them. -/

namespace Sys2Proof.Tests

open Sys2Proof.Machine Sys2Proof.Safety

-- One theorem after the other: evaluated side by side, each by the kernel, they would take a thread with its stack each.
set_option Elab.async false

/-! ## Terms that cannot be spelled -/

theorem test_wf_fits32 : WellFormed.instr (.ticketCancel .sup 0 (maxU32 + 1)) = false := by decide
theorem test_wf_release_fits32 : WellFormed.instr (.release .sup 0 (maxU32 + 1) none) = false := by decide
theorem test_wf_faultCode : WellFormed.instr (.machineFault .pm 0) = false := by decide
theorem test_wf_faultCode_high : WellFormed.instr (.machineFault .pm 256) = false := by decide
theorem test_wf_loadedFlag : WellFormed.instr (.machinePos .pm 3 false true) = false := by decide
theorem test_wf_nodeAddress : WellFormed.instr (.otlReply 256 (.tower true false)) = false := by decide
theorem test_wf_readingsFit :
    WellFormed.instr (.wallReport .sup 0 1 100 (List.replicate 100 900)) = false := by decide
theorem test_wf_restore_credit :
    WellFormed.instr (.ovenRestore .sup 0 1 { (default : RestoreFields) with credit := maxU32 + 1 }) = false := by decide
theorem test_wf_beginsWithSync :
    WellFormed.instr (.discardedFrame .offtake (.receiver [0x00#8])) = false := by decide
theorem test_wf_frameBody :
    WellFormed.instr (.requestFrameArrival .sup 0 (.request (.ticketCancel (maxU32 + 1)))) = false := by decide
theorem test_wf_numberedFrom1 : WellFormed.instr (.wallStalenessExpiry 0) = false := by decide
theorem test_wf_ticket_numbered : WellFormed.instr (.stepTimerExpiry 0) = false := by decide
theorem test_wf_pacing_fits : WellFormed.instr (.pacingWaitReached (maxU32 + 1)) = false := by decide
theorem test_wf_spelled : WellFormed.instr (.machineFault .qa 255) = true := by decide

/-! ## States -/

/-- Started, UNCONFIGURED. -/
def awake : State := { State.reset with ground := { State.reset.ground with starting := false } }

/-- A working battery of 8 ovens, CAR_SPLIT 4, at clock 1000. -/
def eight : State :=
  { awake with ground := { awake.ground with clock := 1000, runState := .running } }.configure 8 4

/-- The state with an oven changed. -/
def ovenAs (n : Nat) (f : Oven → Oven) (s : State) : State := { s with plant := s.plant.modOven n f }

/-- The state with both doors of an oven in a state. -/
def doorsAs (n : Nat) (st : DoorState) (s : State) : State :=
  let d : Door := { state := st, leak := 0, force := 0, count := 0 }
  { s with ground := (s.ground.setDoor n .ps d).setDoor n .cs d }

/-- The state with a machine ONLINE at an oven, at rest, its silence timer due now. -/
def machineAt (m : Machine) (n : Nat) (s : State) : State :=
  { s with
    ground := s.ground.setMirror m
      { online := true, heard := true, position := some n, moving := false, lastFault := none, silence := some 1000 } }

/-- A ticket of number 1 for oven 3 and car QA, in a state and with waits. -/
def ticket3 (st : TicketState) (w : Waits) : Ticket := { newTicket eight.ground 1 3 .plan .a with state := st, waits := w }

/-- The state with one ticket for oven 3, a phase for the oven, and the car bound. -/
def holding (t : Ticket) (ph : Phase) (s : State) : State :=
  ovenAs 3 (fun o => { o with phase := ph })
    { s with plant := ({ s.plant with tickets := [t], nextTicket := 2 } : Plant).modCar .a fun r => { r with bound := some 1 } }

/-- A charge of oven 3, its timer due now, with neither flag set. -/
def charge3 : Charge where
  oven := 3
  start := 100
  ccEnd := false
  mass := none
  level := none
  timer := some 1000
  remaining := none
  suspended := false

/-! ## Figures worked in the manual -/

/-- 10.1: the published check value of the check with this generator, preset and order, over the nine digits. -/
theorem test_crc16 :
    crc16 [0x31, 0x32, 0x33, 0x34, 0x35, 0x36, 0x37, 0x38, 0x39] = 0xAEE7#16 := by decide +kernel

/-- 3.1: the push order of 12 ovens under the default plan. -/
theorem test_pushOrder : pushOrder 12 defaultParams.plan = [1, 6, 11, 3, 8, 5, 10, 2, 7, 12, 4, 9] := by decide

/-- Chapter 2, "A target clamped by mass". -/
theorem test_target : clampMass defaultParams 520 = 450 ∧ creditTarget defaultParams 450 1100 = 55687500 := by decide

/-- What a command's next state shows. -/
def shown {α : Type} (f : State → α) : Answer → Option α
  | .next t => some (f t)
  | _ => none

/-- Oven 1 as oven 17 of chapter 2 stands at 40,000, just before wall 18 (here wall 2) reports. -/
def coking17 : State :=
  ovenAs 1
    (fun o => { o with
      phase := .coking, chargeEnd := some 10000, target := 37800000, accrual := some { since := 10000, rate := 587 } })
    { eight with
      ground := { eight.ground with
        clock := 40000, walls := List.replicate 9 { temp := 1180, report := 39900, valid := true, expiry := some 40801 } } }

/-- Chapter 2: wall 18 reports 1210 at 40,000; the credit and the readiness expiry. -/
theorem test_wallReport :
    shown (fun t => ((t.plant.oven 1).credit, (t.plant.oven 1).readiness)) (exec (.wallReport .sup 0 2 1 [1210]) coking17) =
      some (17610000, some 73933) := by decide +kernel

/-- The walls of chapter 1's restored oven, as walls 1 and 2, at 412. -/
def warm412 : State :=
  { eight with
    ground := { eight.ground with
      clock := 412
      walls := [{ temp := 1180, report := 400, valid := true, expiry := some 1301 },
        { temp := 1195, report := 400, valid := true, expiry := some 1301 }] } }

/-- The fields of chapter 1's OVEN RESTORE. -/
def restore17 : RestoreFields where
  phase := some .coking
  age := 30000
  credit := 17610000
  mass := 336
  trim := 1000
  psDoor := some (.pressed 0)
  csDoor := some (.pressed 0)
  service := some .inService

/-- Chapter 1, "One oven restored": the target and the readiness expiry. -/
theorem test_restore :
    shown (fun t => ((t.plant.oven 1).target, (t.plant.oven 1).readiness)) (exec (.ovenRestore .sup 0 1 restore17) warm412) =
      some (37800000, some 34808) := by decide +kernel

/-- Chapter 7, "Worked regulator figures", replies 1 to 4, and the main during a charge. -/
theorem test_regulator :
    (regulatorStep 5 8 50 100 142 400, regulatorStep 5 8 50 100 87 405, regulatorStep 5 8 50 100 103 404,
      regulatorStep 5 8 50 70 103 404, regulatorStep 5 6 100 (-20) 40 520, regulatorStep 5 6 100 100 88 525) =
      (405, 404, 404, 408, 525, 524) := by decide

/-- Chapter 7: the set point of a fraction of 465 is 100; a leaking READY oven with LEAK_TRIM 100 stands at P_FLOOR. -/
theorem test_profile : profilePressure 465 defaultParams.profile 0 = 100 ∧ profilePressure 1000 defaultParams.profile 0 = 60 ∧
    max (-20) (60 - 3 * 100) = (-20 : Int) := by decide

/-- R35: a load above HARD_LOAD raises the trim, up to 1250. -/
theorem test_judgeLoad :
    let o := (judgeLoad eight.ground 3 1401 (ovenAs 3 (fun o => { o with trim := 1240 }) eight).plant).oven 3
    (o.trim, o.hardRun) = (1250, 1) := by decide +kernel

/-- R175: the sequence number goes from 255 to 0. -/
theorem test_sequence :
    (PortState.pump { PortState.quiet 0 with
      seq := 255, queue := [{ level := 15, time := 0, body := .estop .running }] }).seq = 0 := by decide

/-- R63: the ticket counter goes from 4,294,967,295 to 1. -/
theorem test_ticketAfter : ticketAfter 4294967295 = 1 := by decide

/-- R171: a WALL REPORT of no readings is answered FORMAT as it arrives, with the hold full. -/
theorem test_arrival_format :
    (PortState.arrival { PortState.quiet 0 with hold := List.replicate 4 (0, .pause) } 7
      (.request (.wallReport 1 0 []))).sending = some (.reply 7 (.refused .format .frame)) := by decide

/-- R172: the FORMAT of a WALL REPORT of no readings stands ahead of a reply that is ready and not yet begun. -/
theorem test_wallReport_format :
    let busy : PortState := { PortState.quiet 0 with sending := some (.reply 1 (.ok .plain)), replies := [(2, .ok .plain)] }
    shown (fun t => (t.plant.sup.urgent, t.plant.sup.replies))
        (exec (.wallReport .sup 7 1 0 []) { eight with plant := { eight.plant with sup := busy } }) =
      some ([(7, .refused .format .frame)], [(2, .ok .plain)]) := by decide +kernel

/-- R182: a PLAN of 11 offsets is refused with RANGE before its group's protection is judged. -/
theorem test_plan_of_11 :
    shown (fun t => t.plant.pnl.sending)
        (exec (.paramSet .pnl 7 (some .plan) (.plan { stride := 10, order := List.range 11 }))
          { awake with ground := { awake.ground with protection := 3 } }) =
      some (some (.reply 7 (.refused .range .field))) := by decide +kernel

/-- R188: power applied while the reset line is held leaves it held. -/
theorem test_resetHeld :
    shown (fun t => t.ground.resetHeld) (exec (.coldStart false) (State.reset.coldStarted true)) = some true := by decide

/-- R167: what one step starts is taken with the machines' offers in order and the evaluation last. -/
theorem test_startAll :
    (startAll [.testJob .ps, .evaluate, .recheckAsk, .offerTicket, .overdue 3] eight.plant).agenda =
      [.overdue 3, .offerTicket, .recheckAsk, .testJob .ps, .evaluate] := by decide +kernel

/-- R143: QB's wharf and tower on a battery of 8 ovens. -/
theorem test_spots : (wharfSpot eight.ground .b, towerSpot eight.ground .b, ovenSpot 8) = (11, 10, 9) := by decide

/-! ## States and operands that meet the hypotheses of the statements

Each theorem is named after its statement; where the statement has several clauses, one theorem serves them all, at values on
the bounds of their ranges. -/

theorem witness_StepRunsTheFrontCommand :
    ({ awake with pending := [.batteryClockTick, .estopAsserted] } : State).pending = .batteryClockTick :: [.estopAsserted] :=
  rfl

/-- With the tick of a clock at its largest value. -/
theorem witness_EveryCommandGoesOn :
    let s : State := { eight with ground := { eight.ground with clock := maxClock }, pending := [.batteryClockTick] }
    calm s ∧ ∃ t, step s = .next t ∧ t.ground.clock = maxClock := ⟨rfl, _, rfl, by decide⟩

/-- Full holds and full notice queues, and a command that raises a notice. -/
theorem witness_HoldsAndListsStayWithinBounds_holds :
    let full : PortState :=
      { PortState.quiet 0 with
        hold := List.replicate 4 (0, .schedStart)
        queue := List.replicate 32 { level := 8, time := 0, body := .estopReleased }
        sending := some (.reply 0 (.ok .plain)) }
    let s : State :=
      { eight with
        ground := { eight.ground with estopLine := true }
        plant := { eight.plant with sup := full, pnl := full }
        pending := [.estopReleased] }
    portsBounded s ∧ ∃ t, step s = .next t ∧ t.plant.sup.overrun = true := by
  refine ⟨⟨⟨by decide, by decide⟩, by decide, by decide⟩, _, rfl, by decide +kernel⟩

/-- Every list at its bound. -/
theorem witness_HoldsAndListsStayWithinBounds_lists :
    let side : ServiceSide := { list := (ovenNumbers 16).map fun n => { oven := n, joined := 0 }, latch := true, job := none }
    let r : LogRecord := logRecordOf eight.ground eight.plant (newTicket eight.ground 1 3 .plan .a) .complete none
    let s : State :=
      { eight with
        plant := { eight.plant with
          tickets := [newTicket eight.ground 1 3 .plan .a, newTicket eight.ground 2 5 .plan .b]
          catchup := (ovenNumbers 8).map fun n => { oven := n, reason := .held, joined := 0 }
          psSide := side
          csSide := side
          log := List.replicate 64 r }
        pending := [.ticketCancel .sup 0 1] }
    listsBounded s ∧ ∃ t, step s = .next t ∧ t.plant.tickets.length = 1 ∧ t.plant.log.length = 64 := by
  refine ⟨⟨by decide, by decide, by decide, by decide, by decide⟩, _, rfl, by decide +kernel, by decide +kernel⟩

/-- A parameter image with every value the default and OVEN_COUNT at its largest, at the highest protection level. -/
def image96 : Image where
  params := { defaultParams with ovenCount := some 96, carSplit := some 95 }
  level := 3

/-- A save of a good image that ends well. -/
theorem witness_StoreAndParametersStaySound_image :
    let s : State :=
      { eight with ground := { eight.ground with storeOp := some (.save image96) }, pending := [.storeSaveEnd none] }
    imagePresent s ∧ ∃ t, step s = .next t ∧ t.ground.store = .verified := ⟨rfl, _, rfl, rfl⟩

/-- A verified image, a save in progress, and the largest OVEN_COUNT. -/
theorem witness_StoreAndParametersStaySound_params :
    let s : State :=
      { awake with
        ground := { awake.ground with store := .verified, verified := some image96, storeOp := some (.save image96) }
        pending := [.paramSet .pnl 0 (some .ovenCount) (.number 96)] }
    paramsKept s ∧ ∃ t, step s = .next t ∧ t.ground.params.ovenCount = some 96 := by
  have h : paramsOk image96.params = true := by decide +kernel
  refine ⟨⟨by decide +kernel, by decide, ?_, ?_⟩, _, rfl, by decide +kernel⟩
  · rintro im ⟨⟩
    exact ⟨h, by decide⟩
  · rintro im ⟨⟩
    exact ⟨h, by decide⟩

/-- Two cars side by side, QA running to the spot next to QB's span, and its report from there. -/
theorem witness_SpansStayApart :
    let s : State :=
      { eight with
        plant := { eight.plant with
          carA := { CarRecord.created with
            position := some 2, state := .runToOven, span := some (2, 4), target := some { position := 4, granted := true } }
          carB := { CarRecord.created with position := some 5, span := some (5, 5) } }
        pending := [.machinePos .qa 4 false false] }
    spansApart s ∧ ∃ t, step s = .next t ∧ t.plant.carA.span = some (4, 4) := by
  refine ⟨⟨⟨nofun, ?_, ?_, ?_, nofun⟩, ⟨nofun, ?_, nofun, ?_, nofun⟩, ?_⟩, _, rfl, by decide +kernel⟩
  · rintro l h ⟨⟩; decide
  · rintro x ⟨⟩; exact ⟨2, 4, rfl, by decide, by decide⟩
  · rintro _ x l h ⟨⟩ ⟨⟩; decide
  · rintro l h ⟨⟩; decide
  · rintro _ x l h ⟨⟩ ⟨⟩; decide
  · rintro l h l' h' ⟨⟩ ⟨⟩; decide

/-- QA QUENCHING under the grant, QB waiting, and QA's tower confirming the spray off. -/
theorem witness_QuenchingCarHoldsTheGrant :
    let s : State :=
      { eight with
        ground := { eight.ground with
          poll := some { address := 120, carried := .tower false, group := 1, place := 9, ovens := 8 }
          towerNodeA := { NodeLine.created with online := true }
          towerNodeB := { NodeLine.created with online := true } }
        plant := { eight.plant with
          carA := { CarRecord.created with state := .quenching }
          carB := { CarRecord.created with state := .waterWait }
          grant := some .a
          waiting := [.b] }
        pending := [.otlReply 120 (.tower false false)] }
    waterHeld s ∧ ∃ t, step s = .next t ∧ t.plant.grant = some .b ∧ t.plant.carA.state = .draining :=
  ⟨fun c => by cases c <;> simp [Plant.car, CarRecord.created], _, rfl, by decide +kernel, by decide +kernel⟩

/-- Two tickets, one in ALIGNING, isolation of the other's oven confirmed. -/
theorem witness_OnePushAtATime :
    let a := ticket3 .aligning { Waits.none with pm := .waiting .move }
    let b : Ticket := { newTicket eight.ground 2 5 .plan .b with isolated := true, waits := Waits.none }
    let s : State := ovenAs 5 (fun o => { o with phase := .ticketed }) (holding a .ticketed (machineAt .pm 9 (machineAt .gc 9 eight)))
    let s : State :=
      { s with plant := { s.plant with tickets := [a, b], nextTicket := 3, claimPm := .ticket 1, claimGc := .ticket 1 } }
    PushSound s ∧ s.plant.nextTicket + 5000 ≤ maxU32 ∧
      (∀ link cause, Instr.machineFault .pm 5 ≠ .discardedFrame link cause) ∧
      (∀ link bytes, Instr.machineFault .pm 5 ≠ .frameGapTimeout link bytes) ∧
      ∃ t, exec (.machineFault .pm 5) s = .next t ∧ t.plant.tickets.length = 1 := by
  refine ⟨⟨?_, ?_, ?_, ?_, ?_, ?_, ?_, ?_⟩, ?_, ?_, ?_, _, rfl, ?_⟩
  all_goals first | (intro _ _ h; cases h) | decide +kernel

/-- PAUSED to RUNNING, RUNNING to STOPPED, and RUNNING to PAUSED. -/
theorem witness_RunStateChangesOnlyByItsEvents :
    (∃ t, exec (.resume .pnl 0) awake = .next t ∧ awake.ground.runState = .paused ∧ t.ground.runState = .running) ∧
    (∃ t, exec .estopAsserted eight = .next t ∧ eight.ground.runState = .running ∧ t.ground.runState = .stopped) ∧
    ∃ t, exec (.pause .sup 0) eight = .next t ∧ t.ground.runState = .paused :=
  ⟨⟨_, rfl, rfl, rfl⟩, ⟨_, rfl, rfl, rfl⟩, _, rfl, rfl⟩

theorem witness_OvenCountIsSetOnce :
    started eight ∧ eight.ground.params.ovenCount = some 8 ∧ (∃ t, exec .batteryClockTick eight = .next t) ∧
      ∀ byLine, Instr.batteryClockTick ≠ .coldStart byLine := ⟨rfl, rfl, ⟨_, rfl⟩, nofun⟩

theorem witness_ClockAdvancesByTicks :
    State.reset.ground.resetHeld = false ∧ (State.reset.coldStarted true).ground.resetHeld = true ∧
      (∃ t, exec .estopAsserted eight = .next t) ∧ Instr.estopAsserted ≠ .batteryClockTick ∧
      ∀ byLine, Instr.estopAsserted ≠ .coldStart byLine := ⟨rfl, rfl, ⟨_, rfl⟩, nofun, nofun⟩

/-- A good image at the bounds; and an image with OVEN_COUNT below its range, and one with a level above 3. -/
theorem witness_StoreReadSetsTheWorkingSet :
    State.reset.ground.starting = true ∧ State.reset.ground.resetHeld = false ∧ State.reset.ground.partWritten = false ∧
      calm State.reset ∧ (State.reset.ground.estopLine = true → State.reset.plant.ask = none) ∧ paramsOk image96.params = true ∧ image96.level ≤ 3 ∧
      paramsOk { defaultParams with ovenCount := some 7, carSplit := some 3 } = false ∧ 3 < 4 :=
  ⟨rfl, rfl, rfl, rfl, nofun, by decide +kernel, by decide, by decide +kernel, by decide⟩

/-- The power failed during a save: the memory, partly written, is found CORRUPT though it spells a good image (R185). -/
theorem witness_StoreReadSetsTheWorkingSet_partly :
    let s : State := { State.reset with ground := { State.reset.ground with storeOp := some (.save image96) } }
    let t := s.coldStarted false
    s.ground.storeOp = some (.save image96) ∧ t.ground.starting = true ∧ t.ground.resetHeld = false ∧
      t.ground.partWritten = true ∧
      shown (fun x => x.ground.store) (exec (.storeReadEnd (.image image96)) t) = some .corrupt :=
  ⟨rfl, rfl, rfl, rfl, by decide +kernel⟩

theorem witness_EstopAndPauseHaltTheBattery :
    (started eight ∧ eight.ground.estopLine = false ∧ eight.ground.runState ≠ .stopped ∧ calm eight ∧
      eight.plant.ask = none) ∧
    (takes eight .sup 0 .pause eight.opened ∧ eight.ground.runState = .running) ∧
    (started awake ∧ takes awake .pnl 0 .pause awake.opened ∧ awake.ground.runState ≠ .running ∧ calm awake) :=
  ⟨⟨rfl, rfl, nofun, rfl, rfl⟩, ⟨rfl, rfl⟩, rfl, rfl, nofun, rfl⟩

theorem witness_EstopAndPauseHaltTheBattery_lines :
    let s : State := { awake with ground := { awake.ground with estopLine := true } }
    (calm s ∧ started s ∧ s.ground.estopLine = true) ∧ calm State.reset ∧ State.reset.ground.starting = true :=
  ⟨⟨rfl, rfl, rfl⟩, rfl, rfl⟩

/-- PAUSED; STOPPED on SUP; PAUSED on PNL with the line asserted; RUNNING. -/
theorem witness_ResumeStartsTheBattery :
    let stopped : State := { awake with ground := { awake.ground with runState := .stopped, estopLine := true } }
    (started awake ∧ takes awake .pnl 0 .resume awake.opened ∧ awake.ground.runState ≠ .running ∧
      ¬(Port.pnl = .sup ∧ awake.ground.runState = .stopped) ∧ ¬(Port.pnl = .pnl ∧ awake.ground.estopLine = true)) ∧
    (started stopped ∧ takes stopped .sup 0 .resume stopped.opened ∧ stopped.ground.runState = .stopped) ∧
    (takes stopped .pnl 0 .resume stopped.opened ∧ stopped.ground.estopLine = true ∧ stopped.ground.runState ≠ .running) ∧
    (started eight ∧ takes eight .sup 0 .resume eight.opened ∧ eight.ground.runState = .running ∧ calm eight) :=
  ⟨⟨rfl, rfl, nofun, nofun, nofun⟩, ⟨rfl, rfl, rfl⟩, ⟨rfl, rfl, nofun⟩, rfl, rfl, rfl, rfl⟩

/-- A battery of 8 ovens PAUSED, with one suspended ticket. -/
def pausedWith (st : TicketState) (w : Waits) : State :=
  let s := holding { ticket3 st w with suspended := true } .closing eight
  { s with ground := { s.ground with runState := .paused } }

/-- A suspended ticket that waits, one of whose sides in CLOSING is recorded; one in ALIGNING; one with nothing outstanding in
GUIDING, its pacing met, and not met. -/
theorem witness_ResumeStartsTheBattery_tickets :
    let w : Waits := { Waits.none with pm := .waiting (.step .press), gc := .recorded (.step .replace) }
    let alone (s : State) (t : Ticket) : Prop :=
      s.ground.runState ≠ .running ∧ takes s .sup 0 .resume s.opened ∧ isTicket s t ∧ t.suspended = true ∧
        ∀ x ∈ s.plant.tickets, x.suspended = true → x = t
    let t (st : TicketState) (w : Waits) : Ticket := { ticket3 st w with suspended := true }
    let unmet (s : State) : State := { s with plant := { s.plant with lastPushStart := some 900 } }
    (alone (pausedWith .closing w) (t .closing w) ∧ w.empty = false ∧ w.machine .pm = .waiting (.step .press) ∧
      w.machine .gc = .recorded (.step .replace) ∧ closingNext .replace = some .press) ∧
    (alone (pausedWith .aligning Waits.none) (t .aligning Waits.none) ∧ eight.ground.atSpot .pm 3 = false) ∧
    (alone (pausedWith .guiding Waits.none) (t .guiding Waits.none) ∧ Waits.none.empty = true ∧
      pacingMet eight.ground (pausedWith .guiding Waits.none).plant = true ∧
      pacingMet eight.ground (unmet (pausedWith .guiding Waits.none)).plant = false) := by
  refine ⟨⟨⟨nofun, rfl, ⟨rfl, rfl⟩, rfl, ?_⟩, rfl, rfl, rfl, rfl⟩, ⟨⟨nofun, rfl, ⟨rfl, rfl⟩, rfl, ?_⟩, rfl⟩,
    ⟨nofun, rfl, ⟨rfl, rfl⟩, rfl, ?_⟩, rfl, rfl, rfl⟩
  all_goals rintro x (_ | ⟨_, ⟨⟩⟩) _; rfl

/-- Suspended jobs at the spot and on the way, a suspended charge with one second left, cars on a granted run and DUMPING. -/
theorem witness_ResumeStartsTheBattery_work :
    let j (st : JobState) (c : Cmd) : Job := { oven := 3, state := st, suspended := true, command := c, timer := none }
    let c : Charge := { charge3 with timer := none, remaining := some 1, suspended := true }
    let p := machineAt .pm 3 eight
    let s : State :=
      { p with
        ground := { p.ground with runState := .paused }
        plant := { p.plant with
          psSide := { ServiceSide.idle with job := some (j .moving .move) }
          csSide := { ServiceSide.idle with job := some (j .moving .move) }
          charge := some c
          carA := { CarRecord.created with
            position := some 1, state := .runToTower, span := some (0, 1), target := some { position := 0, granted := true } }
          carB := { CarRecord.created with state := .dumping } } }
    s.ground.runState ≠ .running ∧ takes s .sup 0 .resume s.opened ∧
      ((s.plant.side .ps).job = some (j .moving .move) ∧ s.ground.atSpot (sideMachine .ps) 3 = true) ∧
      ((s.plant.side .cs).job = some (j .moving .move) ∧ s.ground.atSpot (sideMachine .cs) 3 = false) ∧
      (j .pressing (.step .press)).command = .step .press ∧
      (s.plant.charge = some c ∧ c.suspended = true ∧ c.remaining = some 1 ∧ (0 : Int) < 1 ∧ c.ccEnd = false ∧
        c.level = none) ∧
      ((s.plant.car .a).state = .runToTower ∧ (s.plant.car .a).target = some { position := 0, granted := true }) ∧
      (s.plant.car .b).state = .dumping ∧ (s.plant.car .b).target = none :=
  ⟨nofun, rfl, ⟨rfl, rfl⟩, ⟨rfl, rfl⟩, rfl, ⟨rfl, rfl, rfl, by decide, rfl, rfl⟩, ⟨rfl, rfl⟩, rfl, rfl⟩

/-- A hold with one place left, and a full one; a WALL REPORT of 16 readings, of none and of 17; and a free
port. -/
theorem witness_FramesEnterAndLeaveThePorts :
    let held (k : Nat) : State :=
      { awake with plant := { awake.plant with sup := { PortState.quiet 2 with hold := List.replicate k (0, .pause) } } }
    lengthFits (.wallReport 1 16 (List.replicate 16 900)) = true ∧ ((held 3).plant.port .sup).hold.length < 4 ∧
      4 ≤ ((held 4).plant.port .sup).hold.length ∧
      (FrameBody.notRequest = .notRequest ∨ FrameBody.notRequest = .badLength) ∧
      (∃ r, FrameBody.request (.wallReport 1 0 []) = .request r ∧ lengthFits r = false) ∧
      lengthFits (.wallReport 1 17 (List.replicate 17 900)) = false ∧
      ((held 4).plant.port .sup).sending = none ∧ ((held 4).plant.port .sup).urgent = [] ∧ Port.pnl ≠ .sup :=
  ⟨by decide, by decide, by decide, .inl rfl, ⟨_, rfl, by decide⟩, by decide, rfl, rfl, nofun⟩

/-- A notice just below a mask, one at the mask with one place left, and with none; a port with each kind of frame ready. -/
theorem witness_NoticesQueueAndRepliesGoFirst :
    let n : Notice := { level := 8, time := 0, body := .estopReleased }
    let x (k : Nat) : PortState := { PortState.quiet 8 with queue := List.replicate k n }
    (NoticeBody.level .estopReleased < (PortState.quiet 9).mask) ∧
      ((x 31).mask ≤ NoticeBody.level .estopReleased ∧ (x 31).queue.length < 32) ∧
      ((x 32).mask ≤ NoticeBody.level .estopReleased ∧ 32 ≤ (x 32).queue.length) ∧
      ((x 1).sending = none ∧ (x 1).urgent = [] ∧ (x 1).replies = [] ∧ (x 1).queue = n :: []) ∧
      ({ x 1 with urgent := [(0, .ok .plain)] } : PortState).urgent = (0, .ok .plain) :: [] ∧
      ({ x 1 with replies := [(0, .ok .plain)] } : PortState).replies = (0, .ok .plain) :: [] :=
  ⟨by decide, ⟨by decide, by decide⟩, ⟨by decide, by decide⟩, ⟨rfl, rfl, rfl, rfl⟩, rfl, rfl⟩

/-- Every check is two bytes. -/
theorem check_bytes (w : BitVec 16) : ∃ hi lo : Byte, hi ++ lo = w :=
  ⟨w.extractLsb' 8 8, w.extractLsb' 0 8, by ext i; simp; grind⟩

/-- An empty payload with its right check, and with a wrong one; 200 bytes with theirs; a length of 201. -/
theorem witness_ReceiverTakesAFrameByItsCheck :
    (([] : List Byte).length = (0 : Byte).toNat ∧ (0x82#8 ++ 0x17#8 : BitVec 16) = crc16 [1, 2, 0] ∧
      (0#8 ++ 0#8 : BitVec 16) ≠ crc16 [1, 2, 0]) ∧
    ((List.replicate 200 (0 : Byte)).length = (200 : Byte).toNat ∧ (200 : Byte).toNat ≤ 200 ∧
      ∃ hi lo : Byte, hi ++ lo = crc16 (1 :: 2 :: 200 :: List.replicate 200 0)) ∧
    (List.replicate 201 (0 : Byte)).length = (201 : Byte).toNat ∧ 200 < (201 : Byte).toNat :=
  ⟨by decide +kernel, ⟨List.length_replicate, by decide, check_bytes _⟩, List.length_replicate, by decide⟩

/-- A sync byte alone begins no whole frame, and nor does it when the bytes have stopped. -/
theorem witness_ReceiverTakesAFrameByItsCheck_bytes :
    let all := State.reset.ground.rxOf .offtake ++ [syncByte]
    (scan (all.length + 1) all).1 = [] ∧ scanStopped (all.length + 1) all = [] := by decide

theorem witness_StatusClearsTheOverrunFlag :
    started awake ∧ calm awake ∧ takes awake .pnl 3 (.status (some .machines)) awake.opened ∧
      takes awake .sup 255 (.status none) awake.opened := ⟨rfl, rfl, rfl, rfl⟩

/-- The highest mask, the first refused, and the parameters at the highest protection level that does not protect them. -/
theorem witness_MasksAreSet :
    let s : State := { awake with ground := { awake.ground with protection := 2 } }
    (started s ∧ calm s ∧ takes s .sup 0 (.maskSet 15) s.opened ∧ 15 ≤ 15) ∧
    (takes s .pnl 0 (.maskSet 16) s.opened ∧ 15 < 16) ∧
    (s.ground.protection < 3 ∧ relationsHold s.ground.params = true ∧
      takes s .sup 0 (.paramSet (some .supMask) (.number (15 : Nat))) s.opened ∧
      takes s .pnl 0 (.paramSet (some .pnlMask) (.number (15 : Nat))) s.opened) ∧
    NoticeBody.storeSaved.level < (s.plant.port .pnl).mask ∧ (s.plant.port .pnl).mask ≤ NoticeBody.estopReleased.level ∧
      (s.plant.port .pnl).queue.length < 32 ∧
    (takes s .sup 0 .restart s.opened ∧ workingPush s.plant = false ∧ (∀ t ∈ s.plant.tickets, t.state ≠ .faultHeld) ∧
      s.plant.charge = none) :=
  ⟨⟨rfl, rfl, rfl, by decide⟩, ⟨rfl, by decide⟩, ⟨by decide, by decide, rfl, rfl⟩, by decide, by decide, by decide, rfl, rfl,
    by decide, rfl⟩

/-- The longest WALL REPORT while STARTING; and each request on an oven of the maintenance range, at its bounds. -/
theorem witness_RequestsAreRefusedUnchanged :
    let s : State := { eight with ground := { eight.ground with maint := some (8, 8) } }
    (State.reset.ground.starting = true ∧ lengthFits (.wallReport 1 16 (List.replicate 16 900)) = true ∧
      takes State.reset .sup 0 (.wallReport 1 16 (List.replicate 16 900)) State.reset.opened) ∧
    working s ∧ s.ground.isOven 8 = true ∧ s.ground.inRange 8 = true ∧ badRestore restore17 = false ∧
      takes s .sup 0 (.ovenRestore 8 restore17) s.opened ∧ takes s .sup 0 (.ovenService 8 (some .inService)) s.opened ∧
      takes s .sup 0 (.ovenHold 8 (some true)) s.opened ∧ takes s .sup 0 (.ovenTrim 8 1250) s.opened ∧
      takes s .sup 0 (.pushNow 8 true) s.opened ∧ takes s .sup 0 (.leakReport 8 (some .ps) 3) s.opened ∧
      takes s .sup 0 (.doorReset 8 (some .cs)) s.opened ∧ badValve (some (.manual 1000)) = false ∧
      takes s .sup 0 (.valve 8 (some (.manual 1000))) s.opened :=
  ⟨⟨rfl, rfl, rfl⟩, ⟨rfl, rfl⟩, rfl, rfl, by decide, rfl, rfl, rfl, rfl, rfl, rfl, rfl, rfl, rfl⟩

/-- The panel-only request and another while UNCONFIGURED; a ticket whose oven lies in the maintenance range. -/
theorem witness_RequestsAreRefusedUnchanged_more :
    let h := holding (ticket3 .faultHeld Waits.none) .pushFault eight
    let s : State := { h with ground := { h.ground with maint := some (3, 3) } }
    (started awake ∧ awake.ground.configured = false ∧ needsOvens (.maintRange none) = true ∧
      forPanel (.maintRange none) = true ∧ lengthFits (.maintRange none) = true ∧
      takes awake .sup 0 (.maintRange none) awake.opened ∧ needsOvens .schedStart = true ∧
      takes awake .pnl 0 .schedStart awake.opened) ∧
    (working s ∧ s.ground.isOven 3 = true ∧ s.ground.inRange 3 = true ∧ 1 ≠ 0 ∧
      s.plant.ticket? 1 = some (ticket3 .faultHeld Waits.none) ∧ (ticket3 .faultHeld Waits.none).oven = 3 ∧
      takes s .sup 0 (.ticketCancel 1) s.opened ∧ takes s .sup 0 (.release 1 (some .clearedFull)) s.opened) :=
  ⟨⟨rfl, rfl, rfl, rfl, rfl, rfl, rfl, rfl⟩, ⟨rfl, rfl⟩, rfl, rfl, by decide, rfl, rfl, rfl, rfl⟩

/-- A ticket in ALIGNING, the last state a warm restart accepts; one in UNDOORING; one FAULT_HELD; a charge record. -/
theorem witness_RestartClearsTheWork :
    let s (st : TicketState) : State := holding (ticket3 st Waits.none) .ticketed eight
    let c : State := { eight with plant := { eight.plant with charge := some charge3 } }
    (started (s .aligning) ∧ takes (s .aligning) .sup 0 .restart (s .aligning).opened ∧
      workingPush (s .aligning).plant = false ∧ (∀ t ∈ (s .aligning).plant.tickets, t.state ≠ .faultHeld) ∧
      (s .aligning).plant.charge = none) ∧
    (takes (s .undooring) .sup 0 .restart (s .undooring).opened ∧ workingPush (s .undooring).plant = true) ∧
    (workingPush (s .faultHeld).plant = false ∧ ∃ t ∈ (s .faultHeld).plant.tickets, t.state = .faultHeld) ∧
    (takes c .sup 0 .restart c.opened ∧ workingPush c.plant = false ∧ (∀ t ∈ c.plant.tickets, t.state ≠ .faultHeld) ∧
      c.plant.charge ≠ none) :=
  ⟨⟨rfl, rfl, rfl, by decide, rfl⟩, ⟨rfl, rfl⟩, ⟨rfl, by decide⟩, rfl, rfl, by decide, nofun⟩

/-- An oven without a ticket, one with; a trim on each bound and one past each. -/
theorem witness_OvenHoldAndTrimAreWritten :
    let s : State := ovenAs 3 (fun o => { o with phase := .ticketed }) eight
    (working s ∧ calm s ∧ mayChange s .sup 8 ∧ takes s .sup 0 (.ovenHold 8 (some true)) s.opened ∧
      (s.plant.oven 8).phase.holdsTicket = false) ∧
    (mayChange s .pnl 3 ∧ takes s .pnl 0 (.ovenHold 3 (some false)) s.opened ∧
      (s.plant.oven 3).phase.holdsTicket = true) ∧
    (s.ground.isOven 8 = true ∧ takes s .sup 0 (.ovenTrim 8 800) s.opened ∧ 800 ≤ 800 ∧ 800 ≤ 1250 ∧
      takes s .sup 0 (.ovenTrim 8 1250) s.opened ∧ takes s .sup 0 (.ovenTrim 8 1251) s.opened ∧ 1250 < 1251) :=
  ⟨⟨⟨rfl, rfl⟩, rfl, ⟨rfl, by decide⟩, rfl, by decide +kernel⟩, ⟨⟨rfl, nofun⟩, rfl, by decide +kernel⟩,
    rfl, rfl, by decide, by decide, rfl, rfl, by decide⟩

/-- Numbers 0 and 97; an absent oven at both ends of its range; one that does not accrue; one that accrues. -/
theorem witness_OvenQueryAccruesAndAnswers :
    working eight ∧ takes eight .sup 0 (.ovenQuery 97) eight.opened ∧ takes eight .sup 0 (.ovenQuery 0) eight.opened ∧
      (takes eight .sup 0 (.ovenQuery 9) eight.opened ∧ eight.ground.isOven 9 = false ∧
        takes eight .sup 0 (.ovenQuery 96) eight.opened ∧ eight.ground.isOven 96 = false ∧ calm eight) ∧
      (takes eight .sup 0 (.ovenQuery 8) eight.opened ∧ eight.ground.isOven 8 = true ∧
        (eight.plant.oven 8).accrual = none) ∧
      (working coking17 ∧ takes coking17 .sup 0 (.ovenQuery 1) coking17.opened ∧ coking17.ground.isOven 1 = true ∧
        holdsOven coking17 1 ∧ (coking17.plant.oven 1).accrual = some { since := 10000, rate := 587 }) :=
  ⟨⟨rfl, rfl⟩, rfl, rfl, ⟨rfl, rfl, rfl, rfl, rfl⟩, ⟨rfl, rfl, rfl⟩, ⟨rfl, rfl⟩, rfl, rfl, ⟨by decide, by decide⟩, rfl⟩

/-- A restore to COKING, and one to EMPTY of the largest age, in a valve in HOLD. -/
theorem witness_OvenRestoreWritesTheRecord :
    let empty : RestoreFields := { restore17 with phase := some .empty, age := 604800, trim := 1250 }
    working eight ∧ mayChange eight .sup 8 ∧ holdsOven eight 8 ∧ holdsDoors eight 8 ∧ badRestore restore17 = false ∧
      badRestore empty = false ∧ (eight.plant.oven 8).phase = .unknown ∧
      takes eight .sup 0 (.ovenRestore 8 restore17) eight.opened ∧ takes eight .sup 0 (.ovenRestore 8 empty) eight.opened ∧
      eight.plant.ask = none ∧ (eight.plant.oven 8).valve.mode = .hold :=
  ⟨⟨rfl, rfl⟩, ⟨rfl, by decide⟩, ⟨by decide, by decide⟩, ⟨by decide, by decide⟩, by decide, by decide, rfl, rfl, rfl, rfl,
    rfl⟩

/-- The state an oven has and the other; a range up to the last oven, a bad one, one with an oven that holds a ticket. -/
theorem witness_ServiceAndRangeAreSet :
    let s : State := ovenAs 3 (fun o => { o with phase := .ticketed }) eight
    (working s ∧ mayChange s .sup 8 ∧ (s.plant.oven 8).phase.holdsTicket = false ∧
      takes s .sup 0 (.ovenService 8 (some .inService)) s.opened ∧ (s.plant.oven 8).service = .inService ∧ calm s ∧
      takes s .sup 0 (.ovenService 8 (some .outOfService)) s.opened ∧ (s.plant.oven 8).service ≠ .outOfService ∧
      holdsOven s 8 ∧ s.plant.ask = none) ∧
    takes s .sup 0 (.maintRange none) s.opened ∧
    (takes s .pnl 0 (.maintRange (some (8, 9))) s.opened ∧ badRange s.ground (some (8, 9)) = true) ∧
    (takes s .pnl 0 (.maintRange (some (1, 3))) s.opened ∧ badRange s.ground (some (1, 3)) = false ∧
      rangeTicketed s.plant (some (1, 3)) = true) ∧
    (takes s .pnl 0 (.maintRange (some (4, 8))) s.opened ∧ s.ground.configured = true ∧
      badRange s.ground (some (4, 8)) = false ∧ rangeTicketed s.plant (some (4, 8)) = false) :=
  ⟨⟨⟨rfl, rfl⟩, ⟨rfl, by decide⟩, by decide +kernel, rfl, by decide +kernel, rfl, rfl, by decide +kernel,
    ⟨by decide, by decide +kernel⟩, rfl⟩, rfl, ⟨rfl, rfl⟩, ⟨rfl, rfl, by decide +kernel⟩, rfl, rfl, rfl, by decide +kernel⟩

/-- An oven with a ticket; and a range that three listed ovens enter, stay in, and stay out of (R11). -/
theorem witness_ServiceAndRangeAreSet_listed :
    let s : State := ovenAs 3 (fun o => { o with phase := .ticketed }) eight
    let entry (n : Nat) : CatchupEntry := { oven := n, reason := .held, joined := 0 }
    let v : State :=
      { s with
        ground := { s.ground with maint := some (5, 6) }
        plant := { s.plant with catchup := [entry 4, entry 5, entry 8] } }
    (working s ∧ mayChange s .sup 3 ∧ (s.plant.oven 3).phase.holdsTicket = true ∧
      takes s .sup 0 (.ovenService 3 (some .outOfService)) s.opened) ∧
    (started v ∧ takes v .pnl 0 (.maintRange (some (4, 7))) v.opened ∧ v.ground.configured = true ∧
      badRange v.ground (some (4, 7)) = false ∧ rangeTicketed v.plant (some (4, 7)) = false ∧ v.plant.ask = none) ∧
    shown (fun t => t.plant.catchup.map fun e => e.oven) (exec (.maintRange .pnl 0 (some (4, 7))) v) = some [5, 8] :=
  ⟨⟨⟨rfl, rfl⟩, ⟨rfl, by decide⟩, by decide +kernel, rfl⟩, ⟨rfl, rfl, rfl, rfl, by decide +kernel, rfl⟩,
    by decide +kernel⟩

/-- The oven to the left of the one wall reported, accruing, and one that does not accrue; and the oven on either side of a
wall whose staleness expiry is due. -/
theorem witness_WallsTakeReadingsAndGoStale_ovens :
    let s : State := { coking17 with ground := { coking17.ground with clock := 40801 } }
    (working coking17 ∧ 2 + [1210].length ≤ coking17.ground.count + 2 ∧
      coking17.ground.walls.length = coking17.ground.count + 1 ∧
      takes coking17 .sup 0 (.wallReport 2 [1210].length [1210]) coking17.opened ∧ holdsOven coking17 1 ∧ 2 ≤ 1 + 1 ∧
      1 + 1 ≤ 2 + [1210].length ∧ (coking17.plant.oven 1).accrual = some { since := 10000, rate := 587 } ∧
      holdsOven coking17 2 ∧ 2 + 1 ≤ 2 + [1210].length ∧ (coking17.plant.oven 2).accrual = none ∧
      2 + [1210].length < 3 + 1) ∧
    (s.ground.wall 2).expiry = some 40801 ∧ (40801 : Time) ≤ s.ground.clock ∧ 1 + 1 = 2 ∧ holdsOven s 1 ∧
      (s.plant.oven 1).accrual = some { since := 10000, rate := 587 } :=
  ⟨⟨⟨rfl, rfl⟩, by decide, rfl, rfl, ⟨by decide, by decide⟩, by decide, by decide, rfl, ⟨by decide, by decide⟩, by decide, rfl,
    by decide⟩, rfl, by decide, rfl, ⟨by decide, by decide⟩, rfl⟩

/-- The last wall alone; and the staleness expiry of a wall, due at the clock's time, beside an oven that accrues. -/
theorem witness_WallsTakeReadingsAndGoStale :
    (working eight ∧ 1 ≤ [1601].length ∧ [1601].length ≤ 16 ∧ 9 + [1601].length ≤ eight.ground.count + 2 ∧
      eight.ground.walls.length = eight.ground.count + 1 ∧ takes eight .sup 0 (.wallReport 9 1 [1601]) eight.opened) ∧
    let s : State := { coking17 with ground := { coking17.ground with clock := 40801 } }
    (s.ground.wall 1).expiry = some 40801 ∧ (40801 : Time) ≤ s.ground.clock ∧ 1 ≤ s.ground.walls.length ∧ holdsOven s 1 ∧
      (s.plant.oven 1).accrual = some { since := 10000, rate := 587 } :=
  ⟨⟨⟨rfl, rfl⟩, by decide, by decide, by decide, rfl, rfl⟩, rfl, by decide, by decide, ⟨by decide, by decide⟩, rfl⟩

/-- A PRESSED door with the level it has and the highest other; doors in no state for either request; a DEFECT door. -/
theorem witness_LeakReportAndDoorResetWriteTheDoor :
    let s : State := doorsAs 7 .defect (doorsAs 8 .pressed eight)
    working s ∧ mayChange s .sup 8 ∧ mayChange s .sup 7 ∧ holdsDoors s 8 ∧ holdsDoors s 7 ∧
      takes s .sup 0 (.leakReport 8 (some .ps) 3) s.opened ∧ takes s .sup 0 (.leakReport 8 (some .ps) 0) s.opened ∧
      (s.ground.door 8 .ps).state = .pressed ∧ (s.ground.door 8 .ps).leak = 0 ∧ calm s ∧ (s.ground.door 8 .ps).leak ≠ 3 ∧
      (∀ a, s.plant.ask = some a → a.oven ≠ 8) ∧ takes s .sup 0 (.leakReport 7 (some .cs) 1) s.opened ∧
      (s.ground.door 7 .cs).state ≠ .pressed ∧ takes s .sup 0 (.doorReset 7 (some .cs)) s.opened ∧
      (s.ground.door 7 .cs).state = .defect ∧ takes s .sup 0 (.doorReset 8 (some .ps)) s.opened ∧
      (s.ground.door 8 .ps).state ≠ .defect :=
  ⟨⟨rfl, rfl⟩, ⟨rfl, by decide⟩, ⟨rfl, by decide⟩, ⟨by decide, by decide +kernel⟩, ⟨by decide, by decide +kernel⟩, rfl, rfl,
    by decide +kernel, by decide +kernel, rfl, by decide +kernel, nofun, rfl, by decide +kernel, rfl, by decide +kernel, rfl,
    by decide +kernel⟩

/-- PM ONLINE, unclaimed and at the head entry's oven, and away from it; and an IDLE side with an empty list. -/
theorem witness_ServiceJobsStart :
    let s : State := machineAt .pm 3 eight
    let p : Plant := { s.plant with
      psSide := { ServiceSide.idle with list := [{ oven := 3, joined := 0 }, { oven := 4, joined := 0 }] } }
    ((p.side .ps).job = none ∧ (s.ground.mirror (sideMachine .ps)).online = true ∧ p.claim (sideMachine .ps) = .free ∧
      s.ground.runState = .running ∧ windowOpen s.ground p = true ∧
      ∀ t ∈ p.tickets, ¬(t.state = .isolating ∧ t.isolated = true)) ∧
    (p.side .ps).list = { oven := 3, joined := 0 } :: [{ oven := 4, joined := 0 }] ∧
      s.ground.atSpot (sideMachine .ps) 3 = true ∧ s.ground.atSpot (sideMachine .ps) 4 = false ∧ (p.side .cs).list = [] :=
  by decide +kernel

/-- A COKING oven whose valve holds, and one that regulates; positions at the bound; an oven in UNKNOWN. -/
theorem witness_ValveCommandsTheMode :
    let s : State := ovenAs 7 (fun o => { o with phase := .ready, valve := { o.valve with mode := .regulate, position := some 50 } })
      (ovenAs 8 (fun o => { o with phase := .coking }) eight)
    working s ∧ calm s ∧ mayChange s .sup 8 ∧ mayChange s .sup 7 ∧ mayChange s .sup 1 ∧ holdsOven s 8 ∧ holdsOven s 7 ∧
      ((s.plant.oven 8).phase = .coking ∨ (s.plant.oven 8).phase = .ready) ∧ 1000 ≤ 1000 ∧
      takes s .sup 0 (.valve 8 (some (.manual 1000))) s.opened ∧ takes s .sup 0 (.valve 8 (some .hold)) s.opened ∧
      takes s .sup 0 (.valve 8 (some .regulate)) s.opened ∧ (s.plant.oven 8).valve.mode ≠ .regulate ∧
      takes s .sup 0 (.valve 7 (some .regulate)) s.opened ∧ (s.plant.oven 7).valve.mode = .regulate ∧ holdsOven s 1 ∧
      (s.plant.oven 1).phase ≠ .coking ∧ (s.plant.oven 1).phase ≠ .ready ∧ badValve (some .hold) = false ∧
      takes s .sup 0 (.valve 1 (some .hold)) s.opened :=
  ⟨⟨rfl, rfl⟩, rfl, ⟨rfl, by decide⟩, ⟨rfl, by decide⟩, ⟨rfl, by decide⟩, ⟨by decide, by decide +kernel⟩,
    ⟨by decide, by decide +kernel⟩, .inl (by decide +kernel), by decide, rfl, rfl, rfl, by decide +kernel, rfl,
    by decide +kernel, ⟨by decide, by decide +kernel⟩, by decide +kernel, by decide +kernel, rfl, rfl⟩

/-- An empty catch-up list and one with an entry; the last index and the one past it; a ticket. -/
theorem witness_SchedulerTakesItsRequests :
    let s : State :=
      { eight with plant := { eight.plant with catchup := [{ oven := 2, reason := .held, joined := 0 }] } }
    let b : State := holding (ticket3 .isolating Waits.none) .ticketed eight
    (working eight ∧ calm eight ∧ takes eight .sup 0 .schedStart eight.opened ∧
      takes eight .sup 0 .schedStop eight.opened ∧ takes eight .sup 0 .catchupClear eight.opened ∧
      eight.plant.catchup = []) ∧
    (working s ∧ calm s ∧ takes s .sup 0 .catchupClear s.opened ∧ s.plant.catchup ≠ []) ∧
    (takes eight .sup 0 (.cursorSet 7) eight.opened ∧ 7 < eight.ground.count ∧ eight.plant.tickets = [] ∧
      eight.plant.charge = none) ∧
    (takes eight .sup 0 (.cursorSet 8) eight.opened ∧ eight.ground.count ≤ 8) ∧
    (working b ∧ calm b ∧ takes b .sup 0 (.cursorSet 7) b.opened ∧ 7 < b.ground.count ∧ b.plant.tickets ≠ []) :=
  ⟨⟨⟨rfl, rfl⟩, rfl, rfl, rfl, rfl, rfl⟩, ⟨⟨rfl, rfl⟩, rfl, rfl, nofun⟩, ⟨rfl, by decide, rfl, rfl⟩, ⟨rfl, by decide⟩,
    ⟨rfl, rfl⟩, rfl, rfl, by decide, nofun⟩

/-- The largest stride. -/
theorem witness_SchedulerTakesItsRequests_plan :
    planOk { stride := 10, order := [9, 8, 7, 6, 5, 4, 3, 2, 1, 0] } = true := by decide

/-- Oven 3 COKING, with car QA at a spot of its half and the oven's node ONLINE. -/
def pushable : State :=
  let s := ovenAs 3 (fun o => { o with phase := .coking }) eight
  { s with
    ground := s.ground.setNode 3 { NodeLine.created with online := true }
    plant := s.plant.modCar .a fun r => { r with position := some 1, span := some (1, 1) } }

/-- By force from the panel; and the force flag on SUP. -/
theorem witness_PushNowIssuesATicket :
    working pushable ∧ mayChange pushable .pnl 3 ∧ holdsOven pushable 3 ∧
      takes pushable .pnl 0 (.pushNow 3 true) pushable.opened ∧ ¬(Port.pnl = .sup ∧ true = true) ∧
      (∀ t ∈ pushable.plant.tickets, t.state ≠ .faultHeld) ∧ pushable.plant.tickets.length < 2 ∧
      pushCar pushable.ground pushable.plant .pnl 3 true = some .a ∧ mayChange pushable .sup 3 ∧
      takes pushable .sup 0 (.pushNow 3 true) pushable.opened :=
  ⟨⟨rfl, rfl⟩, ⟨rfl, nofun⟩, ⟨by decide, by decide +kernel⟩, rfl, nofun, by decide, by decide, rfl,
    ⟨rfl, by decide⟩, rfl⟩

/-- A ticket in FAULT_HELD; two tickets; and an oven in a phase that no PUSH NOW takes. -/
theorem witness_PushNowIssuesATicket_refused :
    let a := ticket3 .faultHeld Waits.none
    let held : State := holding a .pushFault eight
    let full : State := { eight with plant := { eight.plant with
      tickets := [ticket3 .isolating Waits.none, newTicket eight.ground 2 4 .plan .b] } }
    (working held ∧ mayChange held .sup 8 ∧ holdsOven held 8 ∧ takes held .sup 0 (.pushNow 8 false) held.opened ∧
      ¬(Port.sup = .sup ∧ false = true) ∧ a ∈ held.plant.tickets ∧ a.state = .faultHeld) ∧
    (working full ∧ mayChange full .sup 8 ∧ holdsOven full 8 ∧ takes full .sup 0 (.pushNow 8 false) full.opened ∧
      (∀ t ∈ full.plant.tickets, t.state ≠ .faultHeld) ∧ 2 ≤ full.plant.tickets.length) ∧
    (working eight ∧ mayChange eight .sup 8 ∧ holdsOven eight 8 ∧ takes eight .sup 0 (.pushNow 8 false) eight.opened ∧
      (∀ t ∈ eight.plant.tickets, t.state ≠ .faultHeld) ∧ eight.plant.tickets.length < 2 ∧
      pushCar eight.ground eight.plant .sup 8 false = none) :=
  ⟨⟨⟨rfl, rfl⟩, ⟨rfl, by decide⟩, ⟨by decide, by decide +kernel⟩, rfl, nofun, by decide +kernel, rfl⟩,
    ⟨⟨rfl, rfl⟩, ⟨rfl, by decide⟩, ⟨by decide, by decide +kernel⟩, rfl, by decide +kernel, by decide +kernel⟩,
    ⟨rfl, rfl⟩, ⟨rfl, by decide⟩, ⟨by decide, by decide +kernel⟩, rfl, by decide +kernel, by decide +kernel, by decide +kernel⟩

/-- The scheduler RUNNING on a battery whose oven 3 is READY, its car at hand, and whose other ovens are UNKNOWN. -/
def schedulable : State :=
  let s := ovenAs 3 (fun o => { o with phase := .ready }) pushable
  { s with ground := { s.ground with schedRunning := true } }

/-- The head entry eligible; then, without entries: the cursor oven eligible, passed over, waited for, joining the list and
meeting it full. -/
theorem witness_EvaluationIssuesATicket :
    let g := schedulable.ground
    let p := schedulable.plant
    let listed (k : Nat) : Plant :=
      { p with catchup := (List.range k).map fun i => { oven := i + 40, reason := .held, joined := 0 } }
    let held (p : Plant) : Plant := p.modOven 1 fun o => { o with phase := .ready, hold := true }
    let out (p : Plant) : Plant := p.modOven 1 fun o => { o with service := .outOfService }
    let one : CatchupEntry := { oven := 3, reason := .held, joined := 0 }
    evaluationActs g p = true ∧ evaluationActs eight.ground eight.plant = false ∧
      ({ p with catchup := [one] } : Plant).catchup = [] ++ one :: [] ∧
      eligibleCar g p .ready true 3 = some .a ∧ (∀ x ∈ p.catchup, eligibleCar g p .ready true x.oven = none) ∧
      g.order.length = g.count ∧ p.cursor < g.count ∧ g.order[0]? = some 1 ∧ g.order[2]? = some 3 ∧
      (eligibleCar g (out p) .ready true 1 = none ∧ passReason g (out p) true 1 = some .passOut) ∧
      (eligibleCar g p .ready true 1 = none ∧ passReason g p true 1 = some .wait) ∧
      (eligibleCar g (held (listed 7)) .ready true 1 = none ∧ passReason g (held (listed 7)) true 1 = some .held ∧
        (held (listed 7)).catchup.length < 8 ∧ g.order[1]? = some 6 ∧ passReason g (held (listed 7)) true 6 = some .wait ∧
        eligibleCar g (held (listed 7)) .ready true 6 = none ∧ ∀ e ∈ (held (listed 7)).catchup, e.oven ≠ 1) ∧
      8 ≤ (held (listed 8)).catchup.length := by
  decide +kernel

/-- Oven 3's node answering a poll that carried ISOLATE, at the tolerance, while its ticket waits for it. -/
theorem witness_IsolationLeadsToUndooring :
    let a := ticket3 .isolating { Waits.none with offtake := .waiting .isolate }
    let h := ovenAs 3 (fun o => { o with valve := { o.valve with mode := .isolate, position := some 0 } }) (holding a .ticketed eight)
    let x : Poll := { address := 3, carried := .oven .isolate (some 0), group := 1, place := 3, ovens := 8 }
    let g : Ground := h.ground.setNode 3 { NodeLine.created with online := true }
    let s : State := { h with ground := { g with poll := some x } }
    isTicket s a ∧ calm s ∧ a.state = .isolating ∧ a.isolated = false ∧ s.ground.poll = some x ∧ x.address = a.oven ∧
      isPlantNode a.oven = false ∧ x.carried = .oven .isolate (some 0) ∧ (s.ground.node a.oven).online = true ∧
      (s.plant.oven a.oven).valve.mode = .isolate ∧ (s.plant.oven a.oven).valve.confirmed = false ∧
      min 1000 s.ground.params.isoTol ≤ s.ground.params.isoTol ∧ holdsOven s a.oven :=
  ⟨⟨rfl, rfl⟩, rfl, rfl, rfl, rfl, rfl, rfl, rfl, by decide +kernel, by decide +kernel, by decide +kernel, by decide, by decide,
    by decide +kernel⟩

/-- An isolated ticket with PM and GC at its oven, its car there and on its way, in both run states; and with GC OFFLINE. -/
theorem witness_IsolationLeadsToUndooring_offer :
    let a : Ticket := { ticket3 .isolating Waits.none with isolated := true }
    let h := holding a .ticketed (machineAt .pm 3 (machineAt .gc 3 eight))
    let at3 : Plant := h.plant.modCar .a fun r => { r with state := .atOven }
    let paused : Ground := { h.ground with runState := .paused }
    let alone : State := holding a .ticketed (machineAt .pm 3 eight)
    (at3.claimPm = .free ∧ at3.claimGc = .free ∧ at3.tickets.find? (mayAlign at3) = some a ∧
      at3.ticket? a.number = some a ∧ h.ground.pm.online = true ∧ h.ground.gc.online = true ∧ h.ground.running = true ∧
      (alignWaits h.ground at3 a).empty = true ∧ 1 ≤ a.oven ∧ a.oven ≤ at3.ovens.length ∧
      (at3.oven a.oven).phase = .ticketed) ∧
    (h.plant.tickets.find? (mayAlign h.plant) = some a ∧ (alignWaits h.ground h.plant a).empty = false ∧
      paused.running = false) ∧
    (a.extractSent = false ∧ alone.ground.pm.online = true ∧ alone.ground.gc.online = false) ∧
    (eight.ground.pm.online = false ∧ ∀ t ∈ eight.plant.tickets, mayAlign eight.plant t = false) := by
  decide +kernel

/-- The ticket of number 1 in ALIGNING, with PM's claim; no ticket of the largest number; one in UNDOORING. -/
theorem witness_TicketCancelRetiresTheTicket :
    let a := ticket3 .aligning Waits.none
    let s : State :=
      let s := holding a .ticketed eight
      { s with plant := { s.plant with claimPm := .ticket 1, claimGc := .ticket 1 } }
    let u := ticket3 .undooring Waits.none
    let v : State := holding u .opening eight
    (working s ∧ 1 ≠ 0 ∧ takes s .sup 0 (.ticketCancel 1) s.opened ∧ s.plant.ticket? 1 = some a ∧ a.state.early = true ∧
      ¬(Port.sup = .sup ∧ s.ground.inRange a.oven = true) ∧ holdsOven s a.oven ∧ (s.plant.oven a.oven).phase = .ticketed ∧
      s.plant.claimPm = .ticket 1) ∧
    (takes s .sup 0 (.ticketCancel maxU32) s.opened ∧ s.plant.ticket? maxU32 = none) ∧
    working v ∧ takes v .sup 0 (.ticketCancel 1) v.opened ∧ v.plant.ticket? 1 = some u ∧ u.state.early = false ∧
      ¬(Port.sup = .sup ∧ v.ground.inRange u.oven = true) :=
  ⟨⟨⟨rfl, rfl⟩, by decide, rfl, rfl, rfl, by decide, ⟨by decide, by decide +kernel⟩, by decide +kernel, rfl⟩,
    ⟨rfl, by decide⟩, ⟨rfl, rfl⟩, rfl, rfl, rfl, by decide⟩

/-- A FAULT_HELD ticket, its oven in PUSH_FAULT; and one in CLOSING. -/
theorem witness_ReleaseRetiresTheHeldTicket :
    let a := ticket3 .faultHeld Waits.none
    let s : State := holding a .pushFault eight
    let c := ticket3 .closing Waits.none
    let v : State := holding c .closing eight
    (working s ∧ 1 ≠ 0 ∧ takes s .pnl 0 (.release 1 (some .clearedFull)) s.opened ∧ s.plant.ticket? 1 = some a ∧
      ¬(Port.pnl = .sup ∧ s.ground.inRange a.oven = true) ∧ a.state = .faultHeld ∧ holdsDoors s a.oven ∧
      holdsOven s a.oven ∧ (s.plant.oven a.oven).phase = .pushFault ∧ s.plant.ask = none ∧
      takes s .pnl 0 (.release 1 (some .clearedEmpty)) s.opened) ∧
    working v ∧ takes v .pnl 0 (.release 1 (some .clearedEmpty)) v.opened ∧ v.plant.ticket? 1 = some c ∧
      c.state ≠ .faultHeld :=
  ⟨⟨⟨rfl, rfl⟩, by decide, rfl, rfl, nofun, rfl, ⟨by decide, by decide +kernel⟩, ⟨by decide, by decide +kernel⟩,
    by decide +kernel, rfl, rfl⟩, ⟨rfl, rfl⟩, rfl, rfl, nofun⟩

theorem witness_LogReadAnswersTheRing :
    started awake ∧ calm awake ∧ takes awake .sup 0 (.logRead 63) awake.opened ∧ 63 ≤ 63 ∧
      takes awake .sup 0 (.logRead 64) awake.opened ∧ 63 < 64 ∧ 62 < 63 :=
  ⟨rfl, rfl, rfl, by decide, rfl, by decide, by decide⟩

/-- Doors PRESSED on an EMPTY oven, UNKNOWN, PRESSED on an oven not to be opened, REMOVED, and HUNG. -/
theorem witness_DoorDonesWriteTheDoor :
    let s : State := doorsAs 8 .removed (doorsAs 2 .pressed (ovenAs 1 (fun o => { o with phase := .empty }) (doorsAs 1 .pressed eight)))
    let h := (heard s .pm).plant
    started s ∧ (Machine.pm = .pm ∨ Machine.pm = .gc) ∧
      ((s.ground.door 1 .ps).state ≠ .unknown ∧ (s.ground.door 1 .ps).state ≠ .removed ∧ mayExtract h 1 = true) ∧
      ((s.ground.door 3 .ps).state = .unknown ∧ mayExtract h 2 = false) ∧ (s.ground.door 8 .ps).state = .removed ∧
      (s.ground.door 2 .ps).state ≠ .removed ∧ h.ticketOf? 1 = none ∧ ∀ a, h.ask = some a → a.oven ≠ 1 := by
  refine ⟨rfl, .inl rfl, ⟨by decide +kernel, by decide +kernel, by decide +kernel⟩, ⟨by decide +kernel, by decide +kernel⟩,
    by decide +kernel, by decide +kernel, by decide +kernel, ?_⟩
  intro a h
  cases h.symm.trans (by decide +kernel : (heard _ Machine.pm).plant.ask = none)

/-- GC's EXTRACT outstanding alone, the car at the spot. -/
theorem witness_DoorDonesWriteTheDoor_last :
    let a : Ticket := { ticket3 .undooring { Waits.none with gc := .waiting (.step .extract) } with extractSent := true }
    let h : State := machineAt .gc 3 (holding a .opening eight)
    let s : State := { h with plant := h.plant.modCar .a fun r => { r with state := .atOven } }
    started s ∧ isTicket s a ∧ a.oven = 3 ∧ a.state = .undooring ∧ a.suspended = false ∧
      (s.ground.mirror .gc).online = true ∧ a.waits.machine .gc = .waiting (.step .extract) ∧
      (a.waits.setMachine .gc .complete).empty = true ∧ s.plant.ask = none ∧
      shown (fun t => t.plant.sent) (exec (.extractDone .gc 3) s) =
        some [(.gc, .step .guideLock 3), (.qa, .step .receive 3)] :=
  ⟨rfl, ⟨rfl, rfl⟩, rfl, rfl, rfl, rfl, rfl, rfl, rfl, by decide +kernel⟩

/-- Forces on both bounds of the band and one past each; a door whose CLOSING asked for the press; one at its last try; a door
that takes no press. -/
theorem witness_PressDoneJudgesTheDoor :
    let c := ticket3 .closing { Waits.none with pm := .waiting (.step .press), gc := .waiting (.step .press) }
    let s : State := holding c .closing (doorsAs 3 .hung (doorsAs 8 .pressFault (doorsAs 1 .defect eight)))
    let s : State := { s with plant := { s.plant with closingPresses := [(.pm, 3), (.gc, 3)] } }
    let q := s.ground.params
    started s ∧ (Machine.gc = .pm ∨ Machine.gc = .gc) ∧ (s.ground.door 3 .cs).state = .hung ∧
      (s.ground.door 8 .cs).state = .pressFault ∧ (s.ground.door 1 .cs).state = .defect ∧
      (q.pressLo ≤ min 400 80 ∧ min 400 80 ≤ q.pressHi) ∧ (q.pressLo ≤ min 400 160 ∧ min 400 160 ≤ q.pressHi) ∧
      ¬(q.pressLo ≤ min 400 79 ∧ min 400 79 ≤ q.pressHi) ∧ ¬(q.pressLo ≤ min 400 161 ∧ min 400 161 ≤ q.pressHi) ∧
      answersClosingPress (heard s .gc).plant 3 .cs = true ∧ answersClosingPress (heard s .gc).plant 8 .cs = false :=
  ⟨rfl, .inr rfl, by decide +kernel, by decide +kernel, by decide +kernel, by decide, by decide, by decide, by decide,
    by decide +kernel, by decide +kernel⟩

/-- A ticket in GUIDING that waits for GC and the car; one in CLOSING whose both sides are at their first command. -/
theorem witness_DonesAreRecordedByTheTicket :
    let a := ticket3 .guiding { Waits.none with gc := .waiting (.step .guideLock), car := .waiting (.step .receive) }
    let s : State := machineAt .gc 3 (holding a .opening eight)
    let c := ticket3 .closing { Waits.none with pm := .waiting (.step .ramReturn), gc := .waiting (.step .guideRelease) }
    let v : State := machineAt .pm 3 (machineAt .gc 3 (holding c .closing eight))
    (started s ∧ calm s ∧ isTicket s a ∧ a.waits.machine .gc = .waiting (.step .guideLock) ∧
      (s.ground.mirror .gc).online = true ∧ (a.waits.setMachine .gc (waitAfter a .guideLock)).empty = false) ∧
    (started v ∧ calm v ∧ isTicket v c ∧ c.waits.machine .gc = .waiting (.step .guideRelease) ∧
      (v.ground.mirror .gc).online = true ∧ (c.waits.setMachine .gc (waitAfter c .guideRelease)).empty = false ∧
      c.waits.machine .pm = .waiting (.step .ramReturn) ∧ (v.ground.mirror .pm).online = true ∧
      (c.waits.setMachine .pm (waitAfter c .ramReturn)).empty = false) ∧ Machine.pm ≠ .gc :=
  ⟨⟨rfl, rfl, ⟨rfl, rfl⟩, rfl, rfl, rfl⟩, ⟨rfl, rfl, ⟨rfl, rfl⟩, rfl, rfl, rfl, rfl, rfl, rfl⟩, nofun⟩

/-- A ticket in GUIDING with GC's GUIDE LOCK outstanding alone. -/
def lockLeft : Ticket := ticket3 .guiding { Waits.none with gc := .waiting (.step .guideLock) }

/-- A ticket in GUIDING with the car's RECEIVE outstanding alone. -/
def receiveLeft : Ticket := ticket3 .guiding { Waits.none with car := .waiting (.step .receive) }

/-- GC ONLINE, the ticket's car at the spot, and a last push start. -/
def guided (t : Ticket) (last : Option Time) : State :=
  let h : State := machineAt .gc 3 (holding t .opening eight)
  { h with plant := ({ h.plant with lastPushStart := last } : Plant).modCar .a fun r => { r with state := .atOven } }

/-- No push started yet, the ticket running or suspended; and the last push start 479 s ago, with PUSH_GAP at 480 s. -/
theorem witness_DonesAreRecordedByTheTicket_last :
    let b : Ticket := { lockLeft with suspended := true }
    (started (guided lockLeft none) ∧ calm (guided lockLeft none) ∧ isTicket (guided lockLeft none) lockLeft ∧
      lockLeft.state = .guiding ∧ ((guided lockLeft none).ground.mirror .gc).online = true ∧
      lockLeft.waits.gc = .waiting (.step .guideLock) ∧ ({ lockLeft.waits with gc := .complete } : Waits).empty = true ∧
      (guided lockLeft none).plant.lastPushStart = none ∧ lockLeft.suspended = false) ∧
    (isTicket (guided b none) b ∧ b.suspended = true) ∧
    (guided lockLeft (some 521)).plant.lastPushStart = some 521 ∧
    (1000 : Time) < 521 + (eight.ground.params.pushGap : Int) :=
  ⟨⟨rfl, rfl, ⟨rfl, rfl⟩, rfl, rfl, rfl, rfl, rfl, rfl⟩, ⟨⟨rfl, rfl⟩, rfl⟩, rfl, by decide +kernel⟩

/-- RECEIVE the one completion outstanding. -/
theorem witness_CarsGoThroughTheirCycle_last :
    let s : State := guided receiveLeft (some 521)
    started s ∧ (s.plant.car .a).state = .atOven ∧ (s.plant.car .a).bound = some 1 ∧ s.plant.ticket? 1 = some receiveLeft ∧
      receiveLeft.oven = 3 ∧ receiveLeft.state = .guiding ∧ receiveLeft.waits.car = .waiting (.step .receive) ∧
      ({ receiveLeft.waits with car := .complete } : Waits).empty = true ∧ s.plant.lastPushStart = some 521 :=
  ⟨rfl, rfl, rfl, rfl, rfl, rfl, rfl, rfl, rfl⟩

/-- R72: the pacing is met PUSH_GAP after the last push start, and a second earlier it is waited for. -/
theorem test_guideLock_pacing :
    shown (fun t => (t.plant.ticket? 1).map fun x => x.state) (exec (.guideLockDone .gc 3) (guided lockLeft (some 520))) =
      some (some .pushing) ∧
    shown (fun t => (t.plant.ticket? 1).map fun x => x.pacingWait)
        (exec (.receiveDone .qa 3) (guided receiveLeft (some 521))) = some (some (some 1001)) :=
  ⟨by decide +kernel, by decide +kernel⟩

/-- The last completion of PUSHING, and one with the car still to report itself loaded; loads on HARD_LOAD and above. -/
theorem witness_RamAdvanceDoneJudgesTheLoad :
    let a := ticket3 .pushing { Waits.none with pm := .waiting (.step .ramAdvance) }
    let b := ticket3 .pushing { Waits.none with pm := .waiting (.step .ramAdvance), car := .waiting .load }
    let s (t : Ticket) : State := machineAt .pm 3 (holding t .pushing eight)
    (started (s a) ∧ isTicket (s a) a ∧ holdsOven (s a) 3 ∧ (s a).ground.pm.online = true ∧
      a.waits.pm = .waiting (.step .ramAdvance) ∧ a.state = .pushing ∧ a.suspended = false ∧ a.waits.offtake = .complete ∧
      a.waits.gc = .complete ∧ a.waits.car = .complete ∧ ((s a).plant.oven 3).phase = .pushing ∧
      (s a).ground.params.hardLoad < 1401 ∧ ¬(s a).ground.params.hardLoad < 1400) ∧
    (isTicket (s b) b ∧ holdsOven (s b) 3 ∧ b.waits.pm = .waiting (.step .ramAdvance) ∧ b.state = .pushing ∧
      b.waits.car ≠ .complete) :=
  ⟨⟨rfl, ⟨rfl, rfl⟩, ⟨by decide, by decide +kernel⟩, rfl, rfl, rfl, rfl, rfl, rfl, rfl, by decide +kernel, by decide,
    by decide⟩, ⟨rfl, rfl⟩, ⟨by decide, by decide +kernel⟩, rfl, rfl, nofun⟩

/-- GC's press outstanding alone, with the oven in CLOSING and the car still bound. -/
theorem witness_ClosingRetiresTheTicket :
    let a := ticket3 .closing { Waits.none with gc := .waiting (.step .press) }
    let s : State := machineAt .gc 3 (holding a .closing eight)
    started s ∧ isTicket s a ∧ a.state = .closing ∧ a.suspended = false ∧ (Machine.gc = .pm ∨ Machine.gc = .gc) ∧
      (s.ground.mirror .gc).online = true ∧ a.waits.machine .gc = .waiting (.step .press) ∧
      (a.waits.setMachine .gc .complete).empty = true ∧ (∀ x, s.plant.ask = some x → x.oven ≠ a.oven) ∧
      holdsOven s a.oven ∧ (s.plant.oven a.oven).phase = .closing ∧ a.car = some .a ∧ calm s :=
  ⟨rfl, ⟨rfl, rfl⟩, rfl, rfl, .inr rfl, rfl, rfl, rfl, nofun, ⟨by decide, by decide +kernel⟩, by decide +kernel, rfl, rfl⟩

/-- A pacing wait due at the clock's time. -/
theorem witness_PacingWaitBeginsThePush :
    let a : Ticket := { ticket3 .guiding Waits.none with pacingWait := some 1000 }
    let s : State := holding a .opening eight
    isTicket s a ∧ holdsOven s a.oven ∧ a.state = .guiding ∧ a.suspended = false ∧ a.pacingWait = some 1000 ∧
      (1000 : Time) ≤ s.ground.clock ∧ (s.plant.oven a.oven).phase = .opening :=
  ⟨⟨rfl, rfl⟩, ⟨by decide, by decide +kernel⟩, rfl, rfl, rfl, by decide, by decide +kernel⟩

/-- A step timer due in ALIGNING under the claims, the oven accruing in TICKETED; and in ISOLATING without them. -/
theorem witness_StepTimerAbortsTheTicket_early :
    let a : Ticket := { ticket3 .aligning Waits.none with timer := some 1000 }
    let b : Ticket := { ticket3 .isolating Waits.none with timer := some 1000 }
    let h : State := ovenAs 3 (fun o => { o with accrual := some { since := 900, rate := 587 } }) (holding a .ticketed eight)
    let s : State := { h with plant := { h.plant with claimPm := .ticket 1, claimGc := .ticket 1 } }
    let v : State := holding b .ticketed eight
    (isTicket s a ∧ a.timer = some 1000 ∧ (1000 : Time) ≤ s.ground.clock ∧ a.state ≠ .faultHeld ∧ a.extractSent = false ∧
      holdsOven s a.oven ∧ (s.plant.oven a.oven).phase = .ticketed ∧
      (s.plant.oven a.oven).accrual = some { since := 900, rate := 587 } ∧ a.car = some .a ∧
      s.plant.claimPm = .ticket a.number) ∧
    (isTicket v b ∧ b.timer = some 1000 ∧ b.extractSent = false ∧ v.plant.claimPm ≠ .ticket b.number) :=
  ⟨⟨⟨rfl, rfl⟩, rfl, by decide, nofun, rfl, ⟨by decide, by decide +kernel⟩, by decide +kernel, by decide +kernel, rfl, rfl⟩,
    ⟨rfl, rfl⟩, rfl, rfl, by decide⟩

/-- A step timer due at the clock's time, before EXTRACT and after. -/
theorem witness_StepTimerAbortsTheTicket :
    let a : Ticket := { ticket3 .aligning Waits.none with timer := some 1000 }
    let b : Ticket := { ticket3 .undooring Waits.none with timer := some 1000, extractSent := true }
    let s : State := holding a .ticketed eight
    let v : State := holding b .opening eight
    (isTicket s a ∧ a.timer = some 1000 ∧ (1000 : Time) ≤ s.ground.clock ∧ a.state ≠ .faultHeld ∧ a.extractSent = false) ∧
    (isTicket v b ∧ b.timer = some 1000 ∧ (1000 : Time) ≤ v.ground.clock ∧ b.state ≠ .faultHeld ∧ b.extractSent = true ∧
      holdsOven v b.oven ∧ (v.plant.oven b.oven).phase = .opening) :=
  ⟨⟨⟨rfl, rfl⟩, rfl, by decide, nofun, rfl⟩, ⟨rfl, rfl⟩, rfl, by decide, nofun, rfl, ⟨by decide, by decide +kernel⟩,
    by decide +kernel⟩

/-- Every timer due at the clock's time. -/
theorem witness_DueTimersReportOnce :
    let r : CarRecord := { CarRecord.created with hot := some 1000, quench := some 1000 }
    let o : State :=
      ovenAs 3 (fun o => { o with overdue := some 1000, dwell := some 1000, emptySince := some (-1) }) eight
    let s : State := { o with plant := { o.plant with carA := r, pacing := some 1000 } }
    calm s ∧ (s.plant.oven 3).overdue = some 1000 ∧ (s.plant.oven 3).dwell = some 1000 ∧
      (s.plant.oven 3).emptySince = some (-1) ∧ (s.plant.car .a).hot = some 1000 ∧ (s.plant.car .a).quench = some 1000 ∧
      s.plant.pacing = some 1000 ∧ (1000 : Time) ≤ s.ground.clock :=
  ⟨rfl, by decide +kernel, by decide +kernel, by decide +kernel, rfl, rfl, rfl, by decide⟩

/-- A readiness expiry due at the clock's time. -/
theorem witness_ReadinessExpiryTestsTheOven :
    let s : State := ovenAs 1 (fun o => { o with readiness := some 40000 }) coking17
    holdsOven s 1 ∧ (s.plant.oven 1).phase = .coking ∧ (s.plant.oven 1).readiness = some 40000 ∧
      (40000 : Time) ≤ s.ground.clock ∧ (s.plant.oven 1).accrual = some { since := 10000, rate := 587 } :=
  ⟨⟨by decide, by decide +kernel⟩, by decide +kernel, by decide +kernel, by decide, by decide +kernel⟩

/-- A job's timer and the charge timer, due at the clock's time. -/
theorem witness_WorkTimersEndTheWork :
    let j : Job := { oven := 3, state := .pressing, suspended := false, command := .step .press, timer := some 1000 }
    let o : State := ovenAs 3 (fun o => { o with phase := .charging }) eight
    let s : State :=
      { o with plant := { o.plant with psSide := { ServiceSide.idle with job := some j }, charge := some charge3 } }
    (s.plant.side .ps).job = some j ∧ j.timer = some 1000 ∧ (1000 : Time) ≤ s.ground.clock ∧
      s.plant.charge = some charge3 ∧ charge3.timer = some 1000 ∧ holdsOven s charge3.oven ∧
      (s.plant.oven charge3.oven).phase = .charging :=
  ⟨rfl, rfl, by decide, rfl, rfl, ⟨by decide, by decide +kernel⟩, by decide +kernel⟩

/-- Oven 3 EMPTY with both doors PRESSED, its valve in ISOLATE, the main and its node ONLINE, CC and PM at it. -/
def chargeable : State :=
  let s := ovenAs 3 (fun o => { o with phase := .empty, valve := { o.valve with mode := .isolate } }) (doorsAs 3 .pressed eight)
  let on : NodeLine := { NodeLine.created with online := true }
  machineAt .cc 3 (machineAt .pm 3 { s with ground := (s.ground.setNode 0 on).setNode 3 on })

/-- An ask with nothing in the way and PM at another oven. -/
theorem witness_ChargeAskIsAnswered_preparing :
    let s : State := machineAt .pm 4 chargeable
    started s ∧ s.plant.ask = none ∧ askAnswer (heard s .cc).ground (heard s .cc).plant 3 = .clear ∧
      (heard s .cc).ground.atSpot .pm 3 = false := ⟨rfl, rfl, by decide +kernel, by decide +kernel⟩

/-- An ask that is answered NO, one that waits for the run state, and one that begins the charge. -/
theorem witness_ChargeAskIsAnswered :
    let w : State := { chargeable with ground := { chargeable.ground with runState := .paused } }
    (started eight ∧ eight.plant.ask = none ∧ calm eight ∧
      askAnswer (heard eight .cc).ground (heard eight .cc).plant 9 = .no .range) ∧
    (started w ∧ w.plant.ask = none ∧ calm w ∧ askAnswer (heard w .cc).ground (heard w .cc).plant 3 = .wait .runState) ∧
    (started chargeable ∧ chargeable.plant.ask = none ∧
      askAnswer (heard chargeable .cc).ground (heard chargeable .cc).plant 3 = .clear ∧
      (heard chargeable .cc).ground.atSpot .pm 3 = true ∧ holdsOven chargeable 3 ∧
      (chargeable.plant.oven 3).valve.mode = .isolate) :=
  ⟨⟨rfl, rfl, rfl, by decide +kernel⟩, ⟨rfl, rfl, rfl, by decide +kernel⟩, rfl, rfl, by decide +kernel, by decide +kernel,
    ⟨by decide, by decide +kernel⟩, by decide +kernel⟩

/-- No charge; a charge with neither flag; one that lacks CHARGE END, its LEVEL DONE repeated; one that lacks LEVEL DONE, its
CHARGE END repeated. -/
theorem witness_ChargeEndsWithBothFlags :
    let o : State := machineAt .pm 3 (ovenAs 3 (fun o => { o with phase := .charging }) eight)
    let s (c : Charge) : State := { o with plant := { o.plant with charge := some c } }
    let l : Charge := { charge3 with level := some .done }
    let e : Charge := { charge3 with ccEnd := true, mass := some 320 }
    (started o ∧ (∀ c, o.plant.charge = some c → c.oven ≠ 3) ∧ calm o) ∧
    (started (s charge3) ∧ calm (s charge3) ∧ (s charge3).plant.charge = some charge3 ∧ charge3.oven = 3 ∧
      charge3.ccEnd = false ∧ charge3.level = none ∧ (s charge3).ground.pm.online = true) ∧
    (started (s l) ∧ (s l).plant.charge = some l ∧ l.oven = 3 ∧ holdsOven (s l) 3 ∧ ((s l).plant.oven 3).phase = .charging ∧
      l.ccEnd = false ∧ l.level ≠ none ∧ calm (s l) ∧ (s l).ground.pm.online = true) ∧
    (started (s e) ∧ (s e).plant.charge = some e ∧ e.oven = 3 ∧ holdsOven (s e) 3 ∧ ((s e).plant.oven 3).phase = .charging ∧
      e.ccEnd = true ∧ e.level = none ∧ (s e).ground.pm.online = true ∧ calm (s e)) :=
  ⟨⟨rfl, nofun, rfl⟩, ⟨rfl, rfl, rfl, rfl, rfl, rfl, rfl⟩,
    ⟨rfl, rfl, rfl, ⟨by decide, by decide +kernel⟩, by decide +kernel, rfl, nofun, rfl, rfl⟩, rfl, rfl, rfl,
    ⟨by decide, by decide +kernel⟩, by decide +kernel, rfl, rfl, rfl, rfl⟩

/-- The last oven. -/
theorem witness_CreditTargetIsReckonedFromTheMass : 1 ≤ 8 ∧ 8 ≤ eight.plant.ovens.length := by decide

/-- A car that is not bound, a bound one, and one in FAULT whose position is not known. -/
theorem witness_CarServiceTakesCarsOutAndIn :
    let q : State :=
      { eight with
        plant := { eight.plant with
          carA := { CarRecord.created with state := .fault, fault := some .offline }
          carB := { CarRecord.created with bound := some 1 } } }
    let s : State := machineAt .qa 1 q
    (working eight ∧ takes eight .sup 0 (.carService (some .a) (some .outOfService)) eight.opened ∧
      (eight.plant.car .a).bound = none ∧ calm eight ∧
      takes eight .sup 0 (.carService (some .a) (some .inService)) eight.opened ∧ (eight.plant.car .a).state ≠ .fault) ∧
    (working s ∧ takes s .sup 0 (.carService (some .b) (some .outOfService)) s.opened ∧ (s.plant.car .b).bound ≠ none) ∧
    (takes s .sup 0 (.carService (some .a) (some .inService)) s.opened ∧ (s.plant.car .a).state = .fault ∧
      (s.ground.mirror (carMachine .a)).online = true ∧ s.plant.grant ≠ some .a ∧
      (∀ x, (s.plant.car .a).position = some x → ordered s.ground s.plant .a x = true) ∧ (s.plant.car .a).position = none) :=
  ⟨⟨⟨rfl, rfl⟩, rfl, rfl, rfl, rfl, nofun⟩, ⟨⟨rfl, rfl⟩, rfl, nofun⟩, rfl, rfl, rfl, nofun, nofun, rfl⟩

/-- A loaded QA in FAULT at position 3, ONLINE, which may run to its tower, may not while PAUSED, and stands there already; one
whose link is OFFLINE, one with the grant, and one at QB's place. -/
theorem witness_CarServiceTakesCarsOutAndIn_fault :
    let q (x : Nat) : Plant :=
      { eight.plant with
        carA := { CarRecord.created with state := .fault, fault := some .overrun, position := some x, loaded := true }
        carB := { CarRecord.created with position := some 6, span := some (6, 6) } }
    let s (x : Nat) : State := machineAt .qa 1 { eight with plant := q x }
    let run (g : Ground) (x : Nat) : Bool := g.running && !(q x).trackHold && clearStretch g (q x) .a (min x 1) (max x 1)
    let granted : Plant := { q 3 with grant := some .a }
    working (s 3) ∧ takes (s 3) .sup 0 (.carService (some .a) (some .inService)) (s 3).opened ∧
      ((s 3).plant.car .a).state = .fault ∧ ((s 3).ground.mirror (carMachine .a)).online = true ∧
      (s 3).plant.grant ≠ some .a ∧ ((s 3).plant.car .a).position = some 3 ∧ ((s 3).plant.car .a).loaded = true ∧
      ordered (s 3).ground (s 3).plant .a 3 = true ∧ towerSpot eight.ground .a = 1 ∧ run (s 3).ground 3 = true ∧
      run { (s 3).ground with runState := .paused } 3 = false ∧ run (s 1).ground 1 = true ∧
      ((s 1).plant.car .a).moving = false ∧ (eight.ground.mirror (carMachine .a)).online = false ∧
      granted.grant = some .a ∧ ((s 6).plant.car .a).position = some 6 ∧
      ordered (s 6).ground (s 6).plant .a 6 = false :=
  ⟨⟨rfl, rfl⟩, rfl, rfl, rfl, nofun, rfl, rfl, rfl, rfl, rfl, rfl, rfl, rfl, rfl, rfl, rfl, rfl⟩

/-- A bound car at its oven in GUIDING; a car DUMPING that is not bound; a drain timer due at the clock's time. -/
theorem witness_CarsGoThroughTheirCycle :
    let a := ticket3 .guiding Waits.none
    let b : State := holding a .opening eight
    let s : State := { b with plant := b.plant.modCar .a fun r => { r with state := .atOven } }
    let d : State := { eight with plant := eight.plant.modCar .b fun r => { r with state := .dumping } }
    let e : State := { eight with plant := eight.plant.modCar .b fun r => { r with state := .draining, drain := some 1000 } }
    (started s ∧ (s.plant.car .a).state = .atOven ∧ (s.plant.car .a).bound = some 1 ∧ s.plant.ticket? 1 = some a ∧
      a.oven = 3 ∧ a.state = .guiding) ∧
    (started d ∧ (d.plant.car .b).state = .dumping ∧ (d.plant.car .b).bound = none) ∧
    (e.plant.car .b).drain = some 1000 ∧ (1000 : Time) ≤ e.ground.clock :=
  ⟨⟨rfl, rfl, rfl, rfl, rfl, rfl⟩, ⟨rfl, rfl, rfl⟩, rfl, by decide⟩

/-- QA one spot from its tower with the water free, and held by QB; its tower confirming ON in WATER_WAIT, OFF in QUENCHING, and
reporting neither. -/
theorem witness_WaterArbiterGrantsOneCar :
    let r : CarRecord := { CarRecord.created with
      position := some 2, state := .runToTower, span := some (1, 2), target := some { position := 1, granted := true } }
    let on : NodeLine := { NodeLine.created with online := true }
    let poll : Poll := { address := 120, carried := .tower true, group := 1, place := 9, ovens := 8 }
    let s (st : CarState) (grant : Option Car) (spray : Bool) : State :=
      { eight with
        ground := { eight.ground with towerNodeA := on, poll := some poll }
        plant := { eight.plant with carA := { r with state := st }, grant := grant, sprayA := spray } }
    (started (s .runToTower none false) ∧ (s .runToTower none false).ground.configured = true ∧
      towerSpot eight.ground .a = 1 ∧ r.position ≠ none ∧ r.span = some (1, 2) ∧ 1 ≤ 1 ∧ 1 ≤ 2 ∧
      r.target = some { position := 1, granted := true } ∧ (s .runToTower none false).plant.grant = none ∧
      (s .runToTower none false).plant.waiting = [] ∧ (s .runToTower (some .b) false).plant.grant ≠ none ∧
      Car.a ∉ (s .runToTower (some .b) false).plant.waiting) ∧
    (poll.address = 120 ∧ ((s .waterWait (some .a) true).ground.towerNode .a).online = true ∧
      (s .waterWait (some .a) true).plant.grant = some .a ∧ (s .waterWait (some .a) true).plant.spray .a = true ∧
      ((s .waterWait (some .a) true).plant.car .a).state = .waterWait) ∧
    ((s .quenching (some .a) false).plant.grant = some .a ∧ (s .quenching (some .a) false).plant.spray .a = false ∧
      ((s .quenching (some .a) false).plant.car .a).state = .quenching) ∧
    false ≠ (s .waterWait (some .a) true).plant.spray .a :=
  ⟨⟨rfl, rfl, rfl, nofun, rfl, by decide, by decide, rfl, rfl, rfl, nofun, nofun⟩, ⟨rfl, rfl, rfl, rfl, rfl⟩, ⟨rfl, rfl, rfl⟩,
    nofun⟩

/-- CC ONLINE with no ask; PM ONLINE without a claim, at a new position and at its old one; a car one spot outside its span. -/
theorem witness_PositionReportsReachMirrorsAndCars :
    let p : State := machineAt .pm 3 eight
    let s : State := { eight with plant := eight.plant.modCar .b fun r => { r with position := some 7, span := some (5, 7) } }
    let c : State := machineAt .cc 3 eight
    (started c ∧ calm c ∧ (c.ground.mirror .cc).online = true ∧
      (((Machine.cc = .pm ∨ Machine.cc = .gc) ∧ c.plant.claim .cc = .free) ∨ (Machine.cc = .cc ∧ c.plant.ask = none))) ∧
    (started p ∧ calm p ∧ (p.ground.mirror .pm).online = true ∧ (Machine.pm = .pm ∨ Machine.pm = .gc) ∧
      p.plant.claim .pm = .free ∧ (p.ground.mirror .pm).position = some 3 ∧ (p.ground.mirror .pm).moving = false ∧
      (p.ground.mirror .pm).position ≠ some 4) ∧
    (started s ∧ machineCar .qb = some .b ∧ s.ground.configured = true ∧ (s.plant.car .b).position ≠ none ∧
      (s.plant.car .b).state ≠ .fault ∧ inSpan 4 (s.plant.car .b).span = false ∧
      inSpan 8 (s.plant.car .b).span = false) :=
  ⟨⟨rfl, rfl, rfl, .inr ⟨rfl, rfl⟩⟩, ⟨rfl, rfl, rfl, .inl rfl, rfl, rfl, rfl, by decide⟩, rfl, rfl, rfl, nofun, nofun, rfl, rfl⟩

/-- A car in RECEIVING at its oven's spot, its ticket in PUSHING with PM's part done, and with it outstanding, reporting
itself moving: loaded for the first time, and not loaded. -/
theorem witness_PositionReportsReachMirrorsAndCars_moving :
    let a : Ticket := { ticket3 .pushing { Waits.none with car := .waiting .load } with extractSent := true }
    let b : Ticket := { a with waits := { a.waits with pm := .waiting (.step .ramAdvance) } }
    let s (t : Ticket) : State :=
      let h : State := holding t .pushing eight
      { h with plant := h.plant.modCar .a fun r =>
        { r with position := some (ovenSpot 3), span := some (ovenSpot 3, ovenSpot 3), state := .receiving } }
    let seen (t : Ticket) (loaded : Bool) : Option (Option TicketState) :=
      shown (fun x => (x.plant.ticket? 1).map fun y => y.state) (exec (.machinePos .qa (ovenSpot 3) true loaded) (s t))
    (started (s a) ∧ machineCar .qa = some .a ∧ (s a).ground.configured = true ∧ calm (s a) ∧ isTicket (s a) a ∧
      ((s a).plant.car .a).bound = some a.number ∧ a.extractSent = true ∧ a.state = .pushing ∧
      ((s a).plant.car .a).position ≠ none ∧ ((s a).plant.car .a).state ≠ .fault ∧
      inSpan (ovenSpot 3) ((s a).plant.car .a).span = true ∧ isTicket (s b) b) ∧
    seen a true = some (some .closing) ∧ seen a false = some (some .faultHeld) ∧ seen b true = some (some .faultHeld) :=
  ⟨⟨rfl, rfl, rfl, rfl, ⟨rfl, rfl⟩, rfl, rfl, rfl, nofun, nofun, rfl, ⟨rfl, rfl⟩⟩,
    by decide +kernel, by decide +kernel, by decide +kernel⟩

/-- The silence of a car and of CC; of GC under a service job; and of PM under a ticket, before EXTRACT and after. -/
theorem witness_FaultsAndSilenceAreRecorded_loss :
    let j : Job := { oven := 3, state := .moving, suspended := false, command := .move, timer := some 1600 }
    let e : State := machineAt .gc 3 eight
    let g : State := { e with plant := { e.plant with claimGc := .service, csSide := { e.plant.csSide with job := some j } } }
    let a : Ticket := ticket3 .aligning Waits.none
    let b : Ticket := { ticket3 .undooring Waits.none with extractSent := true }
    let v (t : Ticket) : State :=
      let h : State := machineAt .pm 3 (holding t .ticketed eight)
      { h with plant := { h.plant with claimPm := .ticket 1, claimGc := .ticket 1 } }
    (∀ m, m = .qa ∨ m = .cc → ((machineAt m 3 eight).ground.mirror m).silence = some 1000) ∧
    (machineCar .qa = some .a ∧ (machineAt .qa 3 eight).ground.configured = true ∧
      ((machineAt .qa 3 eight).plant.car .a).state ≠ .fault) ∧
    ((g.ground.mirror .gc).silence = some 1000 ∧ g.plant.claim .gc = .service ∧
      (g.plant.side (machineSide .gc)).job = some j) ∧
    (((v a).ground.mirror .pm).silence = some 1000 ∧ isTicket (v a) a ∧ (v a).plant.claim .pm = .ticket a.number ∧
      a.state.claims = true ∧ a.extractSent = false) ∧
    (((v b).ground.mirror .pm).silence = some 1000 ∧ isTicket (v b) b ∧ (v b).plant.claim .pm = .ticket b.number ∧
      b.state.claims = true ∧ b.extractSent = true) := by
  refine ⟨?_, ⟨rfl, rfl, nofun⟩, ⟨rfl, rfl, rfl⟩, ⟨rfl, ⟨rfl, rfl⟩, rfl, rfl, rfl⟩, rfl, ⟨rfl, rfl⟩, rfl, rfl, rfl⟩
  rintro m (rfl | rfl) <;> rfl

/-- GC ONLINE without a claim; a configured car; a silence timer due at the clock's time. -/
theorem witness_FaultsAndSilenceAreRecorded :
    let s : State := machineAt .gc 3 eight
    started s ∧ calm s ∧ (s.ground.mirror .gc).online = true ∧ machineCar .gc = none ∧ s.plant.claim .gc = .free ∧
      machineCar .qa = some .a ∧ s.ground.configured = true ∧ (s.plant.car .a).state ≠ .fault ∧
      (s.ground.mirror .gc).silence = some 1000 ∧ (1000 : Time) ≤ s.ground.clock :=
  ⟨rfl, rfl, rfl, rfl, rfl, rfl, rfl, nofun, rfl, by decide⟩

/-- A reply with no poll in progress; one of another class; the reply of a regulating oven; regulator steps just within and just
past the deadband, and to both bounds; an ONLINE node at its third miss, and a LOST one. -/
theorem witness_OfftakeExchangesEnd :
    let poll : Poll := { address := 8, carried := .oven .regulate (some 400), group := 1, place := 8, ovens := 8 }
    let o : State := ovenAs 8 (fun o => { o with valve := { o.valve with mode := .regulate, position := some 400 } }) eight
    let s (r : NodeLine) : State := { o with ground := { o.ground.setNode 8 r with poll := some poll } }
    let on : NodeLine := { NodeLine.created with online := true, miss := 2 }
    (calm eight ∧ eight.ground.poll = none) ∧ replyFits 8 (.tower true false) = false ∧
    ((s on).ground.poll = some poll ∧ poll.address = 8 ∧ replyFits 8 (.valve 2001 400 false) = true ∧
      isPlantNode 8 = false ∧ ((s on).ground.node 8).online = true ∧ calm (s on) ∧ holdsOven (s on) 8 ∧
      poll.carried = .oven .regulate (some 400) ∧ ((s on).plant.oven 8).valve.mode = .regulate ∧
      ((s on).plant.oven 8).valve.position = some 400) ∧
    (((105 : Int) - 100).natAbs ≤ 5 ∧ 5 < ((106 : Int) - 100).natAbs ∧ 1000 ≤ 1000 ∧
      (50 : Int) ≤ 400 + ((142 - 100) * 8 : Int).tdiv 64 ∧ 400 + ((142 - 100) * 8 : Int).tdiv 64 ≤ (1000 : Int)) ∧
    ((s NodeLine.created).ground.node 8).online = false :=
  ⟨⟨rfl, rfl⟩, rfl,
    ⟨rfl, rfl, rfl, rfl, by decide +kernel, rfl, ⟨by decide, by decide +kernel⟩, rfl, by decide +kernel, by decide +kernel⟩,
    by decide, by decide +kernel⟩

/-- The main's reply with its commanded position absent and present, and a faulted one. -/
theorem witness_OfftakeExchangesEnd_main :
    let poll : Poll := { address := 0, carried := .main none, group := 1, place := 0, ovens := 8 }
    let s (x : Option Nat) : State :=
      { eight with
        ground := { eight.ground with poll := some poll, mainNode := { NodeLine.created with online := true } }
        plant := { eight.plant with mainPosition := x } }
    ∀ x, (s x).ground.poll = some poll ∧ poll.address = 0 ∧ replyFits 0 (.valve (-2001) 1001 true) = true ∧
      isPlantNode 0 = true ∧ ((s x).ground.node 0).online = true ∧ calm (s x) ∧ (s x).plant.mainPosition = x :=
  fun _ => ⟨rfl, rfl, rfl, rfl, rfl, rfl, rfl⟩

/-- The bounds of a range that other parameters give, and one with a sign. -/
theorem witness_ParametersAreReadAndSet_values :
    valueFits .issueLead (.number 480) = true ∧ valueInRange defaultParams .issueLead (.number 480) = true ∧
      valueFits .tMax (.number 50400) = true ∧ valueInRange defaultParams .tMax (.number 50400) = true ∧
      valueFits .pFloor (.number (-200)) = true ∧ valueInRange defaultParams .pFloor (.number (-200)) = true := by decide

/-- PARAM GET; a value of another form; one past the range; one on it, of a parameter that is read later and of one that is
not; the largest OVEN_COUNT. -/
theorem witness_ParametersAreReadAndSet :
    started awake ∧ calm awake ∧ takes awake .sup 0 (.paramGet (some .pushGap)) awake.opened ∧
      (takes awake .sup 0 (.paramSet (some .policy) (.number 0)) awake.opened ∧ valueFits .policy (.number 0) = false) ∧
      (takes awake .sup 0 (.paramSet (some .tRam) (.number 601)) awake.opened ∧ valueFits .tRam (.number 601) = true ∧
        firstRefusal (settingChecks awake .tRam (.number 601)) = some (.refused .range .field)) ∧
      (takes awake .sup 0 (.paramSet (some .tRam) (.number 600)) awake.opened ∧
        firstRefusal (settingChecks awake .tRam (.number 600)) = none ∧ ParamId.tRam ≠ .ovenCount ∧
        readLater .tRam = true) ∧
      (takes awake .pnl 0 (.paramSet (some .ovenCount) (.number (96 : Nat))) awake.opened ∧
        firstRefusal (settingChecks awake .ovenCount (.number (96 : Nat))) = none) :=
  ⟨rfl, rfl, rfl, ⟨rfl, rfl⟩, ⟨rfl, rfl, by decide +kernel⟩, ⟨rfl, by decide +kernel, nofun, rfl⟩, rfl, by decide +kernel⟩

/-- The level held and the highest; a lower one with and without the key; a level above 3; a protected parameter; masks. -/
theorem witness_ProtectionLevelIsKept :
    let s : State := { awake with ground := { awake.ground with protection := 1 } }
    let k : State := { s with ground := { s.ground with keyLine := true } }
    started s ∧ calm s ∧ takes s .sup 0 (.protectSet 3) s.opened ∧ 3 ≤ 3 ∧ s.ground.protection ≤ 3 ∧
      (takes k .sup 0 (.protectSet 0) k.opened ∧ k.ground.keyLine = true) ∧
      (takes s .sup 0 (.protectSet 0) s.opened ∧ 0 < s.ground.protection ∧ s.ground.keyLine = false) ∧
      (takes s .sup 0 (.protectSet 4) s.opened ∧ 3 < 4) ∧
      (valueFits .ovenCount (.number 8) = true ∧ takes s .sup 0 (.paramSet (some .ovenCount) (.number 8)) s.opened ∧
        protectedAt s.ground.protection (paramGroup .ovenCount) = true) ∧
      (15 ≤ 15 ∧ takes s .sup 0 (.maskSet 15) s.opened) :=
  ⟨rfl, rfl, rfl, by decide, by decide, ⟨rfl, rfl⟩, ⟨rfl, by decide, rfl⟩, ⟨rfl, by decide⟩, ⟨rfl, rfl, rfl⟩, by decide, rfl⟩

/-- A save with the store BLANK, one while busy, one with it ABSENT; an erase on each port and with the key; the operations in
progress. -/
theorem witness_StoreOperationsBeginAndEnd :
    let b : State := { awake with ground := { awake.ground with store := .blank, keyLine := true } }
    let s : State := { b with ground := { b.ground with storeOp := some (.save image96) } }
    let e : State := { b with ground := { b.ground with storeOp := some .erase } }
    let c : State := { b with plant := { b.plant with charge := some charge3 } }
    let a : State := { b with ground := { b.ground with store := .absent } }
    (takes s .pnl 0 .storeErase s.opened ∧ s.ground.keyLine = true ∧ takes c .pnl 0 .storeErase c.opened ∧
      (c.plant.tickets ≠ [] ∨ c.plant.charge ≠ none) ∧ takes a .pnl 0 .storeErase a.opened ∧ a.ground.store = .absent ∧
      a.ground.keyLine = true ∧ a.ground.storeOp = none ∧ a.plant.tickets = [] ∧ a.plant.charge = none) ∧
    (started b ∧ calm b ∧ takes b .sup 0 .storeSave b.opened ∧ b.ground.storeOp = none ∧ b.ground.store ≠ .absent) ∧
    (started s ∧ calm s ∧ takes s .sup 0 .storeSave s.opened ∧ s.ground.storeOp ≠ none) ∧
    (started awake ∧ calm awake ∧ takes awake .sup 0 .storeSave awake.opened ∧ awake.ground.storeOp = none ∧
      awake.ground.store = .absent) ∧
    (takes b .sup 0 .storeErase b.opened ∧ takes awake .pnl 0 .storeErase awake.opened ∧ awake.ground.keyLine = false ∧
      takes b .pnl 0 .storeErase b.opened ∧ b.ground.keyLine = true ∧ b.plant.tickets = [] ∧ b.plant.charge = none) ∧
    s.ground.storeOp = some (.save image96) ∧ calm e ∧ e.ground.storeOp = some .erase :=
  ⟨⟨rfl, rfl, rfl, .inr nofun, rfl, rfl, rfl, rfl, rfl, rfl⟩, ⟨rfl, rfl, rfl, rfl, nofun⟩, ⟨rfl, rfl, rfl, nofun⟩,
    ⟨rfl, rfl, rfl, rfl, rfl⟩, ⟨rfl, rfl, rfl, rfl, rfl, rfl, rfl⟩, rfl, rfl, rfl⟩

/-- A verified image with the working OVEN_COUNT; a store that is busy; one that is not VERIFIED. -/
theorem witness_StoreLoadTakesTheImage :
    let im : Image := { params := { eight.ground.params with pushGap := 3600, supMask := 15 }, level := 3 }
    let s : State := { eight with ground := { eight.ground with store := .verified, verified := some im } }
    let b : State := { s with ground := { s.ground with storeOp := some .erase } }
    (started s ∧ takes s .sup 0 .storeLoad s.opened ∧ s.ground.storeOp = none ∧ s.ground.protection = 0 ∧
      s.plant.tickets = [] ∧ s.plant.charge = none ∧ s.ground.store = .verified ∧ s.ground.verified = some im ∧
      paramsOk im.params = true ∧ im.params.ovenCount = s.ground.params.ovenCount ∧
      tMinTooHigh s.ground s.plant im.params.tMin = false) ∧
    (takes b .sup 0 .storeLoad b.opened ∧ b.ground.storeOp ≠ none) ∧
    (started eight ∧ takes eight .sup 0 .storeLoad eight.opened ∧ eight.ground.storeOp = none ∧
      eight.ground.protection = 0 ∧ eight.plant.tickets = [] ∧ eight.plant.charge = none ∧ eight.ground.store ≠ .verified) :=
  ⟨⟨rfl, rfl, rfl, rfl, rfl, rfl, rfl, rfl, by decide +kernel, rfl, by decide +kernel⟩, ⟨rfl, nofun⟩, rfl, rfl, rfl, rfl, rfl, rfl,
    nofun⟩

end Sys2Proof.Tests
end

section
/-! The parameter sets that pass R182, and the credit target reckoned from one (R28). -/

namespace Sys2Proof.Machine

/-! ## Parameter sets within their ranges and relations (R182) -/

theorem mem_allParams (id : ParamId) : id ∈ allParams := by cases id <;> decide

theorem valueInRange_of_paramsOk {q : Params} {id : ParamId} {v : ParamValue} (h : paramsOk q = true)
    (hv : paramValue q id = some v) : valueInRange q id v = true := by
  simp only [paramsOk, Bool.and_eq_true, List.all_eq_true] at h
  obtain ⟨⟨hrange, -⟩, -⟩ := h
  simpa [hv] using hrange id (mem_allParams id)

theorem numberRange_of_paramsOk {q : Params} {id : ParamId} {v : Int} (h : paramsOk q = true)
    (hv : paramValue q id = some (.number v)) : (numberRange q id).1 ≤ v ∧ v ≤ (numberRange q id).2 := by
  simpa [valueInRange] using valueInRange_of_paramsOk h hv

theorem relationsHold_of_paramsOk {q : Params} (h : paramsOk q = true) : relationsHold q = true := by
  simp only [paramsOk, Bool.and_eq_true] at h
  obtain ⟨⟨-, hrel⟩, -⟩ := h
  exact hrel

theorem relationsHold_mass {q : Params} (h : relationsHold q = true) : q.mMin ≤ q.mNom ∧ q.mNom ≤ q.mMax := by
  simp only [relationsHold, Bool.and_eq_true, decide_eq_true_eq] at h
  obtain ⟨⟨⟨⟨hmass, -⟩, -⟩, -⟩, -⟩ := h
  exact hmass

/-! ## The credit target (R28) -/

theorem setTarget_oven_same {p : Plant} {n : Nat} (h : 1 ≤ n ∧ n ≤ p.ovens.length) (g : Ground) (mass : Nat) :
    (setTarget g n mass p).oven n =
      { p.oven n with
        mass := clampMass g.params mass
        target := creditTarget g.params (clampMass g.params mass) (p.oven n).trim } :=
  Plant.modOven_oven_same h _

/-- The smallest C_BASE and mass with the largest M_NOM scale to at least 2, and 800 per mille of that is
at least 1. -/
theorem one_le_unclampedTarget {cBase mNom mass trim : Nat} (hc : 1000000 ≤ cBase) (h0 : 0 < mNom) (hn : mNom ≤ 600)
    (hm : 50 ≤ mass) (ht : 800 ≤ trim) : 1 ≤ cBase * mass / mNom * trim / 1000 := by
  have hprod : 1000000 * 50 ≤ cBase * mass := Nat.mul_le_mul hc hm
  have hscaled : 2 ≤ cBase * mass / mNom := (Nat.le_div_iff_mul_le h0).2 (by omega)
  have htrimmed : 2 * 800 ≤ cBase * mass / mNom * trim := Nat.mul_le_mul hscaled ht
  omega

theorem one_le_unclampedTarget_of_paramsOk {q : Params} {mass trim : Nat} (h : paramsOk q = true) (hm : q.mMin ≤ mass)
    (ht : 800 ≤ trim) : 1 ≤ q.cBase * mass / q.mNom * trim / 1000 := by
  obtain ⟨hc, -⟩ := numberRange_of_paramsOk h (id := .cBase) rfl
  obtain ⟨hn, hn'⟩ := numberRange_of_paramsOk h (id := .mNom) rfl
  obtain ⟨hlo, -⟩ := numberRange_of_paramsOk h (id := .mMin) rfl
  simp only [numberRange] at hc hn hn' hlo
  exact one_le_unclampedTarget (by omega) (by omega) (by omega) (by omega) ht

/-- Settles O50: the update of the named oven by `setTarget`, the ranges read off the table, and the smallest target that
they leave. -/
theorem creditTargetIsReckonedFromTheMass : Obligations.CreditTargetIsReckonedFromTheMass := by
  unfold Obligations.CreditTargetIsReckonedFromTheMass
  refine ⟨?clamped, fun _ => ⟨rfl, rfl, rfl, rfl⟩, fun _ h => relationsHold_mass (relationsHold_of_paramsOk h), by decide,
    fun _ _ _ h hm ht => one_le_unclampedTarget_of_paramsOk h hm ht, rfl, rfl, rfl, rfl⟩
  case clamped =>
    intro g n mass p h1 hn
    rw [setTarget_oven_same ⟨h1, hn⟩]
    exact ⟨rfl, rfl⟩

end Sys2Proof.Machine
end

section
/-! The push log: what LOG READ answers from it, and what a new record does to the records held (R89, R90). -/

namespace Sys2Proof.Machine

open Sys2Proof.Safety

/-! ## A request taken: what it leaves as it was -/

theorem started_of_takes {s s₀ : State} {port : Port} {tag : Byte} {r : Request} (h : takes s port tag r s₀)
    (hs : started s) : started s₀ := by
  obtain ⟨hground, -⟩ := State.takeRequest_ground h
  rwa [started, hground]

theorem calm_of_takes {s s₀ : State} {port : Port} {tag : Byte} {r : Request} (h : takes s port tag r s₀)
    (hc : calm s) : calm s₀ := (State.takeRequest_agenda h).trans hc

theorem log_of_takes {s s₀ : State} {port : Port} {tag : Byte} {r : Request} (h : takes s port tag r s₀) :
    s₀.plant.log = s.plant.log := by
  rcases State.takeRequest_eq_some.1 h with ⟨-, rfl⟩ | ⟨-, -, rfl⟩
  · rfl
  · exact Plant.modPort_log ..

/-! ## LOG READ (R90) -/

/-- The checks of LOG READ on a machine past STARTING come down to the range of the index. -/
theorem firstRefusal_logRead {s : State} (h : started s) (index : Nat) :
    firstRefusal [whileStarting s, badField (63 < index)] =
      if 63 < index then some (.refused .range .field) else none := by
  have hstarting : s.ground.starting = false := h
  simp [whileStarting, badField, hstarting]

theorem exec_logRead (port : Port) (tag : Byte) (index : Nat) (s : State) :
    exec (.logRead port tag index) s = execLogRead port tag index s := rfl

theorem execLogRead_accepted {s s₀ : State} {port : Port} {tag : Byte} {index : Nat} (hs : started s) (hc : calm s)
    (ht : takes s port tag (.logRead index) s₀) (h : index ≤ 63) :
    execLogRead port tag index s =
      .next (s₀.answer port tag (.ok (.log s.plant.log.length s.plant.log[index]?))) := by
  have hpass : firstRefusal [whileStarting s₀, badField (63 < index)] = none :=
    (firstRefusal_logRead (started_of_takes ht hs) index).trans (if_neg (Nat.not_lt.2 h))
  rw [execLogRead, State.serve_accepted ht hpass, State.settled_of_calm (calm_of_takes ht hc), log_of_takes ht]

theorem execLogRead_refused {s s₀ : State} {port : Port} {tag : Byte} {index : Nat} (hs : started s)
    (ht : takes s port tag (.logRead index) s₀) (h : 63 < index) :
    execLogRead port tag index s = .next (s₀.answer port tag (.refused .range .field)) := by
  have hfail : firstRefusal [whileStarting s₀, badField (63 < index)] = some (.refused .range .field) :=
    (firstRefusal_logRead (started_of_takes ht hs) index).trans (if_pos h)
  rw [execLogRead, State.serve_refused ht hfail]

/-! ## The records held after a retirement (R89) -/

theorem writeLog_newest (r : LogRecord) (p : Plant) : (writeLog r p).log[0]? = some r := rfl

/-- The 64th record is the one that may fall out: every index below it reads one further on. -/
theorem writeLog_older (r : LogRecord) (p : Plant) {k : Nat} (h : k < 63) :
    (writeLog r p).log[k + 1]? = p.log[k]? := by
  rw [writeLog_log, List.getElem?_take_of_lt (by omega : k + 1 < 64), List.getElem?_cons_succ]

/-- Settles O37: the two outcomes of `execLogRead` by the range of the index, and the ring after `writeLog`. -/
theorem logReadAnswersTheRing : Obligations.LogReadAnswersTheRing := by
  unfold Obligations.LogReadAnswersTheRing
  refine ⟨fun s s₀ port tag index hs hc ht => ?read, fun p r => ⟨writeLog_newest r p, fun _ => writeLog_older r p⟩⟩
  case read =>
    rw [exec_logRead]
    exact ⟨execLogRead_accepted hs hc ht, execLogRead_refused hs ht⟩

end Sys2Proof.Machine
end

section
/-! SUPPORT. The masks of the two ports (R175, R176): notices, records sent and follow-up events leave them as they stand, and
so does every operation of the plant, whatever blocks it runs through. One equation for each operation, as in Laws/Frames. -/

namespace Sys2Proof.Machine

/-! ## The masks of a plant -/

/-- The masks of SUP and PNL. -/
def PlantCycle.masks (c : PlantCycle) : Nat × Nat := (c.sup.mask, c.pnl.mask)

/-- The masks of SUP and PNL. -/
def Plant.masks (p : Plant) : Nat × Nat := p.toPlantCycle.masks

/-- The half of a plant in which no port stands does not matter. -/
@[simp] theorem Plant.masks_mk (c : PlantCycle) (w : PlantWork) : (Plant.mk c w).masks = c.masks := rfl

@[simp] theorem Plant.masks_toPlantCycle (p : Plant) : p.toPlantCycle.masks = p.masks := rfl

/-- The fields beside the two ports do not matter. -/
@[simp] theorem PlantCycle.masks_mk (sup pnl : PortState) (ovens : List Oven) (cursor : Nat) (catchup : List CatchupEntry)
    (latch : Bool) (last pacing : Option Time) (tickets : List Ticket) (next : Nat) (log : List LogRecord) :
    (PlantCycle.mk sup pnl ovens cursor catchup latch last pacing tickets next log).masks = (sup.mask, pnl.mask) := rfl

@[simp] theorem Plant.mask_pair (p : Plant) : (p.sup.mask, p.pnl.mask) = p.masks := rfl

theorem Plant.masks_eq_iff {p : Plant} {m k : Nat} : p.masks = (m, k) ↔ p.sup.mask = m ∧ p.pnl.mask = k := Prod.ext_iff

/-! ## Traffic -/

@[simp] theorem PortState.pump_mask (x : PortState) : x.pump.mask = x.mask := by
  obtain ⟨-, hmask, -⟩ := x.pump_frame
  exact hmask

@[simp] theorem PortState.offer_mask (x : PortState) (n : Notice) : (x.offer n).mask = x.mask := by
  obtain ⟨-, hmask⟩ := x.offer_frame n
  exact hmask

@[simp] theorem PortState.answer_mask (x : PortState) (tag : Byte) (r : Reply) : (x.answer tag r).mask = x.mask :=
  PortState.pump_mask _

@[simp] theorem raise_masks (g : Ground) (b : NoticeBody) (p : Plant) : (raise g b p).masks = p.masks := by
  simp [raise]

@[simp] theorem send_masks (m : Machine) (r : ToMachine) (p : Plant) : (send m r p).masks = p.masks := rfl
@[simp] theorem forgetPresses_masks (m : Machine) (n : Nat) (p : Plant) : (forgetPresses m n p).masks = p.masks := rfl
@[simp] theorem start_masks (t : Task) (p : Plant) : (start t p).masks = p.masks := rfl
@[simp] theorem startAll_masks (ts : List Task) (p : Plant) : (startAll ts p).masks = p.masks := rfl

/-- Operations applied in turn leave the masks when each of them does. -/
theorem foldl_masks {α : Type} (f : Plant → α → Plant) (hf : ∀ p a, (f p a).masks = p.masks) (l : List α)
    (p : Plant) : (l.foldl f p).masks = p.masks := by
  induction l generalizing p with
  | nil => rfl
  | cons a l ih => rw [List.foldl_cons, ih, hf]

@[simp] theorem sendStops_masks (ms : List Machine) (p : Plant) : (sendStops ms p).masks = p.masks :=
  foldl_masks (fun p m => send m .stop p) (fun _ _ => rfl) ms p

/-! ## Records and claims -/

@[simp] theorem Plant.modOven_masks (p : Plant) (n : Nat) (f : Oven → Oven) : (p.modOven n f).masks = p.masks := rfl
@[simp] theorem Plant.modValve_masks (p : Plant) (n : Nat) (f : Valve → Valve) : (p.modValve n f).masks = p.masks := rfl
@[simp] theorem Plant.modTicket_masks (p : Plant) (num : Nat) (f : Ticket → Ticket) :
    (p.modTicket num f).masks = p.masks := rfl

@[simp] theorem Plant.modSide_masks (p : Plant) (side : Side) (f : ServiceSide → ServiceSide) :
    (p.modSide side f).masks = p.masks := by
  cases side <;> rfl

@[simp] theorem Plant.modCar_masks (p : Plant) (c : Car) (f : CarRecord → CarRecord) : (p.modCar c f).masks = p.masks := by
  cases c <;> rfl

@[simp] theorem Plant.setSpray_masks (p : Plant) (c : Car) (on : Bool) : (p.setSpray c on).masks = p.masks := by
  cases c <;> rfl

@[simp] theorem setClaim_masks (g : Ground) (m : Machine) (c : Claim) (p : Plant) : (setClaim g m c p).masks = p.masks := by
  unfold setClaim
  split
  · rfl
  · cases m <;> simp

@[simp] theorem releaseClaims_masks (g : Ground) (ms : List Machine) (offered : Bool) (p : Plant) :
    (releaseClaims g ms offered p).masks = p.masks := by
  have hfree : (ms.foldl (fun p m => setClaim g m .free p) p).masks = p.masks :=
    foldl_masks _ (fun q m => setClaim_masks g m .free q) ms p
  unfold releaseClaims
  split <;> simp [hfree]

/-! ## Ovens: the credit and offtake units -/

@[simp] theorem accrue_masks (g : Ground) (n : Nat) (p : Plant) : (accrue g n p).masks = p.masks := rfl
@[simp] theorem setTarget_masks (g : Ground) (n mass : Nat) (p : Plant) : (setTarget g n mass p).masks = p.masks := rfl

@[simp] theorem resetReadiness_masks (g : Ground) (n : Nat) (p : Plant) : (resetReadiness g n p).masks = p.masks := by
  unfold resetReadiness
  dsimp only
  split
  · split <;> rfl
  · rfl

@[simp] theorem recomputeOven_masks (g : Ground) (n : Nat) (p : Plant) : (recomputeOven g n p).masks = p.masks := by
  unfold recomputeOven
  split <;> simp

@[simp] theorem beginAccrual_masks (g : Ground) (n : Nat) (p : Plant) : (beginAccrual g n p).masks = p.masks := by
  simp [beginAccrual]

@[simp] theorem setOverdue_masks (g : Ground) (n : Nat) (p : Plant) : (setOverdue g n p).masks = p.masks := by
  unfold setOverdue
  dsimp only
  split
  · split <;> rfl
  · rfl

@[simp] theorem setDwell_masks (g : Ground) (n : Nat) (p : Plant) : (setDwell g n p).masks = p.masks := by
  unfold setDwell
  dsimp only
  split
  · split <;> rfl
  · rfl

@[simp] theorem overdueReached_masks (g : Ground) (n : Nat) (p : Plant) : (overdueReached g n p).masks = p.masks := by
  unfold overdueReached
  dsimp only
  split
  · rfl
  · split <;> simp

@[simp] theorem dwellReached_masks (g : Ground) (n : Nat) (p : Plant) : (dwellReached g n p).masks = p.masks := by
  unfold dwellReached
  dsimp only
  split
  · split <;> simp
  · rfl

@[simp] theorem commandIsolate_masks (n : Nat) (p : Plant) : (commandIsolate n p).masks = p.masks := by
  unfold commandIsolate
  split <;> rfl

@[simp] theorem commandAspirate_masks (n : Nat) (p : Plant) : (commandAspirate n p).masks = p.masks := by
  unfold commandAspirate
  split <;> rfl

@[simp] theorem commandRegulate_masks (g : Ground) (n : Nat) (p : Plant) : (commandRegulate g n p).masks = p.masks := by
  unfold commandRegulate
  split <;> rfl

@[simp] theorem isolateForTicket_masks (g : Ground) (n num : Nat) (p : Plant) :
    (isolateForTicket g n num p).masks = p.masks := by
  unfold isolateForTicket
  dsimp only
  split <;> simp

/-! ## Service lists -/

@[simp] theorem joinList_masks (g : Ground) (n : Nat) (side : Side) (p : Plant) : (joinList g n side p).masks = p.masks := by
  unfold joinList
  dsimp only
  split
  · rfl
  · split
    · split <;> simp
    · simp

@[simp] theorem refill_masks (g : Ground) (side : Side) (p : Plant) : (refill g side p).masks = p.masks := by
  unfold refill
  dsimp only
  split <;> simp

@[simp] theorem leaveList_masks (g : Ground) (n : Nat) (side : Side) (p : Plant) : (leaveList g n side p).masks = p.masks := by
  unfold leaveList
  split <;> simp

@[simp] theorem rejudge_masks (g : Ground) (n : Nat) (side : Side) (p : Plant) : (rejudge g n side p).masks = p.masks := by
  unfold rejudge
  split <;> simp

@[simp] theorem rejudgeBoth_masks (g : Ground) (n : Nat) (p : Plant) : (rejudgeBoth g n p).masks = p.masks := by
  simp [rejudgeBoth]

@[simp] theorem dropUnqualified_masks (g : Ground) (n : Nat) (p : Plant) : (dropUnqualified g n p).masks = p.masks := by
  unfold dropUnqualified
  dsimp only
  split <;> split <;> simp

@[simp] theorem regroup_masks (n : Nat) (p : Plant) : (regroup n p).masks = p.masks := by
  simp [regroup, regroupSide]

@[simp] theorem takeHead_masks (g : Ground) (side : Side) (j : Job) (p : Plant) : (takeHead g side j p).masks = p.masks := by
  simp [takeHead]

/-! ## Phases -/

@[simp] theorem phaseInforms_masks (g : Ground) (n : Nat) (old new : Phase) (p : Plant) :
    (phaseInforms g n old new p).masks = p.masks := by
  simp [phaseInforms, apply_ite Plant.masks]

@[simp] theorem changePhase_masks (g : Ground) (n : Nat) (new : Phase) (cause : Cause) (p : Plant) :
    (changePhase g n new cause p).masks = p.masks := by
  unfold changePhase
  dsimp only
  split <;> simp

@[simp] theorem becomeReady_masks (g : Ground) (n : Nat) (cause : Cause) (p : Plant) :
    (becomeReady g n cause p).masks = p.masks := by
  simp [becomeReady]

@[simp] theorem returnOven_masks (g : Ground) (n : Nat) (cause : Cause) (p : Plant) :
    (returnOven g n cause p).masks = p.masks := by
  simp [returnOven, apply_ite Plant.masks]

@[simp] theorem readinessReached_masks (g : Ground) (n : Nat) (p : Plant) : (readinessReached g n p).masks = p.masks := by
  unfold readinessReached
  dsimp only
  split
  · split
    · rfl
    · split <;> simp
  · rfl

/-! ## The track -/

@[simp] theorem setCarState_masks (g : Ground) (c : Car) (new : CarState) (p : Plant) :
    (setCarState g c new p).masks = p.masks := by
  unfold setCarState
  dsimp only
  split
  · rfl
  · split <;> simp

@[simp] theorem lookForGrant_masks (g : Ground) (p : Plant) : (lookForGrant g p).masks = p.masks := by
  unfold lookForGrant
  split
  · rfl
  · split <;> simp

@[simp] theorem requestWater_masks (g : Ground) (c : Car) (p : Plant) : (requestWater g c p).masks = p.masks := by
  simp [requestWater, apply_ite Plant.masks]

@[simp] theorem arrive_masks (g : Ground) (c : Car) (x : Nat) (p : Plant) : (arrive g c x p).masks = p.masks := by
  unfold arrive
  dsimp only
  split
  · split <;> simp
  · simp
  · split <;> simp
  · simp

@[simp] theorem requestTarget_masks (g : Ground) (c : Car) (x : Nat) (p : Plant) :
    (requestTarget g c x p).masks = p.masks := by
  unfold requestTarget
  dsimp only
  split
  · simp
  · split
    · split <;> simp
    · simp

@[simp] theorem recheckTarget_masks (g : Ground) (c : Car) (p : Plant) : (recheckTarget g c p).masks = p.masks := by
  unfold recheckTarget
  split <;> simp

@[simp] theorem runToTower_masks (g : Ground) (c : Car) (p : Plant) : (runToTower g c p).masks = p.masks := by
  simp [runToTower]

@[simp] theorem setHot_masks (g : Ground) (c : Car) (p : Plant) : (setHot g c p).masks = p.masks := by
  simp [setHot]

@[simp] theorem startRun_masks (g : Ground) (c : Car) (n : Nat) (p : Plant) : (startRun g c n p).masks = p.masks := by
  unfold startRun
  dsimp only
  split
  · simp
  · split <;> simp

@[simp] theorem bindCar_masks (g : Ground) (c : Car) (num n : Nat) (p : Plant) : (bindCar g c num n p).masks = p.masks := by
  unfold bindCar
  dsimp only
  split <;> simp

@[simp] theorem unbindCar_masks (g : Ground) (c : Car) (faultHeld : Bool) (p : Plant) :
    (unbindCar g c faultHeld p).masks = p.masks := by
  unfold unbindCar
  dsimp only
  split
  case h_4 =>
    split
    · simp
    · split <;> simp
  all_goals simp [apply_ite Plant.masks]

@[simp] theorem letCarGo_masks (g : Ground) (c : Car) (p : Plant) : (letCarGo g c p).masks = p.masks := by
  unfold letCarGo
  split <;> simp

@[simp] theorem sendReceive_masks (c : Car) (n : Nat) (p : Plant) : (sendReceive c n p).masks = p.masks := by
  unfold sendReceive
  split <;> simp

@[simp] theorem drainReached_masks (g : Ground) (c : Car) (p : Plant) : (drainReached g c p).masks = p.masks := by
  unfold drainReached
  split
  · rfl
  · split <;> simp

@[simp] theorem restartCar_masks (c : Car) (p : Plant) : (restartCar c p).masks = p.masks := by
  simp [restartCar]

/-! ## The push sequencer -/

@[simp] theorem setPacing_masks (g : Ground) (p : Plant) : (setPacing g p).masks = p.masks := by
  unfold setPacing
  dsimp only
  split
  · rfl
  · split <;> rfl

@[simp] theorem announceWindow_masks (wasOpen : Bool) (g : Ground) (p : Plant) :
    (announceWindow wasOpen g p).masks = p.masks := by
  unfold announceWindow
  split <;> rfl

@[simp] theorem enterStep_masks (g : Ground) (num : Nat) (st : TicketState) (w : Waits) (p : Plant) :
    (enterStep g num st w p).masks = p.masks := by
  unfold enterStep
  split <;> simp

@[simp] theorem writeLog_masks (r : LogRecord) (p : Plant) : (writeLog r p).masks = p.masks := rfl
@[simp] theorem dropTicket_masks (num : Nat) (p : Plant) : (dropTicket num p).masks = p.masks := rfl

@[simp] theorem endBinding_masks (g : Ground) (t : Ticket) (faultHeld : Bool) (p : Plant) :
    (endBinding g t faultHeld p).masks = p.masks := by
  unfold endBinding
  split <;> simp

@[simp] theorem dropCatchup_masks (n : Nat) (p : Plant) : (dropCatchup n p).masks = p.masks := by
  unfold dropCatchup
  split <;> rfl

@[simp] theorem insertHead_masks (g : Ground) (n : Nat) (p : Plant) : (insertHead g n p).masks = p.masks := by
  unfold insertHead
  split
  · rfl
  · split
    · rfl
    · dsimp only
      split
      · split <;> simp
      · simp

@[simp] theorem retireEarly_masks (g : Ground) (num : Nat) (how : EarlyEnd) (reason : AbortReason) (p : Plant) :
    (retireEarly g num how reason p).masks = p.masks := by
  unfold retireEarly
  split
  · rfl
  · simp [apply_ite Plant.masks]

@[simp] theorem holdTicket_masks (g : Ground) (num : Nat) (reason : AbortReason) (p : Plant) :
    (holdTicket g num reason p).masks = p.masks := by
  unfold holdTicket
  split <;> simp

@[simp] theorem abortTicket_masks (g : Ground) (num : Nat) (reason : AbortReason) (p : Plant) :
    (abortTicket g num reason p).masks = p.masks := by
  unfold abortTicket
  split
  · rfl
  · simp [apply_ite Plant.masks]

@[simp] theorem completeTicket_masks (g : Ground) (num : Nat) (p : Plant) : (completeTicket g num p).masks = p.masks := by
  unfold completeTicket
  split <;> simp

@[simp] theorem enterUndooring_masks (g : Ground) (num : Nat) (t : Ticket) (p : Plant) :
    (enterUndooring g num t p).masks = p.masks := by
  simp [enterUndooring]

@[simp] theorem enterGuiding_masks (g : Ground) (num : Nat) (t : Ticket) (p : Plant) :
    (enterGuiding g num t p).masks = p.masks := by
  unfold enterGuiding
  dsimp only
  split <;> simp

@[simp] theorem enterPushing_masks (g : Ground) (num : Nat) (t : Ticket) (p : Plant) :
    (enterPushing g num t p).masks = p.masks := by
  simp [enterPushing]

@[simp] theorem enterClosing_masks (g : Ground) (num : Nat) (t : Ticket) (p : Plant) :
    (enterClosing g num t p).masks = p.masks := by
  unfold enterClosing
  dsimp only
  split <;> simp

@[simp] theorem guidingDone_masks (g : Ground) (num : Nat) (t : Ticket) (p : Plant) :
    (guidingDone g num t p).masks = p.masks := by
  simp [guidingDone, apply_ite Plant.masks]

@[simp] theorem tryAdvance_masks (g : Ground) (num : Nat) (p : Plant) : (tryAdvance g num p).masks = p.masks := by
  unfold tryAdvance
  split
  · rfl
  · split
    · rfl
    · split
      · simp [apply_ite Plant.masks]
      · split <;> simp

@[simp] theorem checkAligning_masks (g : Ground) (num : Nat) (p : Plant) : (checkAligning g num p).masks = p.masks := by
  unfold checkAligning
  split
  · rfl
  · split <;> simp

@[simp] theorem sendMoves_masks (w : Waits) (n : Nat) (p : Plant) : (sendMoves w n p).masks = p.masks := by
  simp [sendMoves, apply_ite Plant.masks]

@[simp] theorem enterAligning_masks (g : Ground) (num : Nat) (p : Plant) : (enterAligning g num p).masks = p.masks := by
  unfold enterAligning
  split
  · rfl
  · simp [apply_ite Plant.masks]

@[simp] theorem offerToTickets_masks (g : Ground) (p : Plant) : (offerToTickets g p).masks = p.masks := by
  unfold offerToTickets
  split
  · split <;> simp
  · rfl

@[simp] theorem carDone_masks (g : Ground) (c : Car) (cmd : Cmd) (p : Plant) : (carDone g c cmd p).masks = p.masks := by
  unfold carDone
  split
  · rfl
  · split
    · rfl
    · split <;> simp

@[simp] theorem carReported_masks (g : Ground) (c : Car) (p : Plant) : (carReported g c p).masks = p.masks := by
  unfold carReported
  split
  · rfl
  · split
    · rfl
    · split
      case h_1 => simp
      case h_5 => rfl
      all_goals split <;> simp

@[simp] theorem carFaulted_masks (g : Ground) (c : Car) (num : Nat) (reason : CarFault) (p : Plant) :
    (carFaulted g c num reason p).masks = p.masks := by
  unfold carFaulted
  split
  · rfl
  · split <;> simp

/-! ## The schedule unit -/

@[simp] theorem advanceCursor_masks (g : Ground) (p : Plant) : (advanceCursor g p).masks = p.masks := rfl

@[simp] theorem issueTicket_masks (g : Ground) (kind : TicketKind) (n : Nat) (c : Car) (p : Plant) :
    (issueTicket g kind n c p).masks = p.masks := by
  simp [issueTicket, apply_ite Plant.masks]

@[simp] theorem listAtTail_masks (g : Ground) (n : Nat) (reason : PassReason) (p : Plant) :
    (listAtTail g n reason p).masks = p.masks := by
  simp [listAtTail]

@[simp] theorem catchupFull_masks (g : Ground) (n : Nat) (reason : PassReason) (p : Plant) :
    (catchupFull g n reason p).masks = p.masks := by
  simp [catchupFull, apply_ite Plant.masks]

@[simp] theorem cursorStep_masks (g : Ground) (k : Nat) (p : Plant) : (cursorStep g k p).masks = p.masks := by
  induction k generalizing p with
  | zero => rfl
  | succ k ih =>
    unfold cursorStep
    split
    · rfl
    · split
      · simp
      · rfl
      · rfl
      · simp [ih]
      · simp [apply_ite Plant.masks, ih]

@[simp] theorem evaluate_masks (g : Ground) (p : Plant) : (evaluate g p).masks = p.masks := by
  unfold evaluate
  split
  · split <;> simp
  · rfl

@[simp] theorem pacingReached_masks (g : Ground) (p : Plant) : (pacingReached g p).masks = p.masks := by
  unfold pacingReached
  split
  · rfl
  · split <;> rfl

/-! ## The charge unit -/

@[simp] theorem beginCharge_masks (g : Ground) (n : Nat) (p : Plant) : (beginCharge g n p).masks = p.masks := by
  simp [beginCharge]

@[simp] theorem tellWait_masks (a : Ask) (reason : ChargeReason) (p : Plant) : (tellWait a reason p).masks = p.masks := by
  unfold tellWait
  split <;> rfl

@[simp] theorem dropAsk_masks (g : Ground) (p : Plant) : (dropAsk g p).masks = p.masks := by
  unfold dropAsk
  split
  · rfl
  · simp [apply_ite Plant.masks]

@[simp] theorem prepareAsk_masks (g : Ground) (a : Ask) (p : Plant) : (prepareAsk g a p).masks = p.masks := by
  simp [prepareAsk, apply_ite Plant.masks]

@[simp] theorem recheckAsk_masks (g : Ground) (p : Plant) : (recheckAsk g p).masks = p.masks := by
  unfold recheckAsk
  split
  · rfl
  · split <;> simp

@[simp] theorem restartAsk_masks (g : Ground) (p : Plant) : (restartAsk g p).masks = p.masks := by
  unfold restartAsk
  split
  · rfl
  · simp [apply_ite Plant.masks]

/-! ## Service jobs -/

@[simp] theorem sendJob_masks (side : Side) (n : Nat) (c : Cmd) (p : Plant) : (sendJob side n c p).masks = p.masks := by
  unfold sendJob
  split <;> rfl

@[simp] theorem startJob_masks (g : Ground) (side : Side) (n : Nat) (p : Plant) : (startJob g side n p).masks = p.masks := by
  simp [startJob]

@[simp] theorem testJob_masks (g : Ground) (side : Side) (p : Plant) : (testJob g side p).masks = p.masks := by
  unfold testJob
  split <;> simp

@[simp] theorem restartJob_masks (g : Ground) (side : Side) (p : Plant) : (restartJob g side p).masks = p.masks := by
  unfold restartJob
  split <;> simp

/-! ## Follow-up events -/

/-- No follow-up event changes a mask. -/
theorem runTask_masks (g : Ground) (t : Task) (p : Plant) : (runTask g t p).masks = p.masks := by
  cases t <;> simp [runTask]

theorem settle_masks (g : Ground) (k : Nat) (p : Plant) : (settle g k p).masks = p.masks :=
  settle_induction (I := fun q => q.masks = p.masks) g (fun _ _ h => h) (fun t q h => (runTask_masks g t q).trans h) k p rfl

@[simp] theorem State.settled_masks (s : State) : s.settled.plant.masks = s.plant.masks := settle_masks _ _ _

end Sys2Proof.Machine
end

section
/-! The masks of the ports: MASK SET, PARAM SET of the two mask parameters, warm restart, and the notices judged by a mask
(R175, R176, R179). -/

namespace Sys2Proof.Machine

open Sys2Proof.Safety

/-! ## MASK SET -/

/-- The checks of a request with nothing but a field to be judged come down to that field on a machine past STARTING. -/
theorem firstRefusal_badField {s : State} (h : started s) (b : Bool) :
    firstRefusal [whileStarting s, badField b] = if b then some (.refused .range .field) else none := by
  have hstarting : s.ground.starting = false := h
  simp [whileStarting, badField, hstarting]

theorem exec_maskSet (port : Port) (tag : Byte) (level : Nat) (s : State) :
    exec (.maskSet port tag level) s = execMaskSet port tag level s := rfl

theorem execMaskSet_accepted {s s₀ : State} {port : Port} {tag : Byte} {level : Nat} (hs : started s) (hc : calm s)
    (ht : takes s port tag (.maskSet level) s₀) (h : level ≤ 15) :
    execMaskSet port tag level s =
      .next ((s₀.modPort port fun x => { x with mask := level }).answer port tag (.ok (.mask level))) := by
  have hpass : firstRefusal [whileStarting s₀, badField (15 < level)] = none :=
    (firstRefusal_badField (started_of_takes ht hs) _).trans (if_neg (by simpa using h))
  have hcalm : (s₀.modPort port fun x => { x with mask := level }).plant.agenda = [] :=
    (Plant.modPort_agenda ..).trans (calm_of_takes ht hc)
  rw [execMaskSet, State.serve_accepted ht hpass, State.settled_of_calm hcalm]

theorem execMaskSet_refused {s s₀ : State} {port : Port} {tag : Byte} {level : Nat} (hs : started s)
    (ht : takes s port tag (.maskSet level) s₀) (h : 15 < level) :
    execMaskSet port tag level s = .next (s₀.answer port tag (.refused .range .field)) := by
  have hfail : firstRefusal [whileStarting s₀, badField (15 < level)] = some (.refused .range .field) :=
    (firstRefusal_badField (started_of_takes ht hs) _).trans (if_pos (by simpa using h))
  rw [execMaskSet, State.serve_refused ht hfail]

/-! ## PARAM SET of SUP_MASK and PNL_MASK -/

/-- The parameter of a port's mask. -/
def maskParam : Port → ParamId
  | .sup => .supMask
  | .pnl => .pnlMask

/-- The set with the parameter of a port's mask changed. -/
def setMaskParam (q : Params) (level : Nat) : Port → Params
  | .sup => { q with supMask := level }
  | .pnl => { q with pnlMask := level }

/-- The state in which a port's mask and its parameter have a level. -/
def State.setMask (s : State) (level : Nat) (port : Port) : State :=
  ({ s with ground := { s.ground with params := setMaskParam s.ground.params level port } } : State).modPort port fun x =>
    { x with mask := level }

theorem State.setMask_agenda (s : State) (level : Nat) (port : Port) :
    (s.setMask level port).plant.agenda = s.plant.agenda := Plant.modPort_agenda ..

@[simp] theorem setParam_maskParam (q : Params) (port : Port) (level : Nat) :
    setParam q (maskParam port) (.number level) = setMaskParam q level port := by
  cases port <;> rfl

/-- A protection level below 3 protects no mask parameter (R184). -/
theorem protectedAt_maskParam {n : Nat} (h : n < 3) (port : Port) : protectedAt n (paramGroup (maskParam port)) = false := by
  have hgroup : paramGroup (maskParam port) = .l := by cases port <;> rfl
  rw [hgroup]
  match n, h with
  | 0, _ => rfl
  | 1, _ => rfl
  | 2, _ => rfl

theorem valueInRange_maskParam (q : Params) (port : Port) {level : Nat} (h : level ≤ 15) :
    valueInRange q (maskParam port) (.number level) = true := by
  cases port <;> simp [valueInRange, numberRange, maskParam] <;> omega

/-- No relation of R182 names a mask. -/
@[simp] theorem relationsHold_setMaskParam (q : Params) (level : Nat) (port : Port) :
    relationsHold (setMaskParam q level port) = relationsHold q := by
  cases port <;> rfl

/-- A level in range passes every check of PARAM SET while the parameters are not protected (R182, R184). -/
theorem settingChecks_maskParam {s : State} (hp : s.ground.protection < 3) (hr : relationsHold s.ground.params = true)
    {level : Nat} (h : level ≤ 15) (port : Port) :
    firstRefusal (settingChecks s (maskParam port) (.number level)) = none := by
  have hclass : paramClass (maskParam port) = .live := by cases port <;> rfl
  have hsplit : maskParam port ≠ .carSplit := by cases port <;> decide
  have htMin : tMinRefused s.ground s.plant (maskParam port) (.number level) = false := by cases port <;> rfl
  simp [settingChecks, protectedAt_maskParam hp, valueInRange_maskParam _ port h, hclass, hsplit, htMin, hr]

/-- The new value is handed on to the port at once (R176). -/
theorem applySetting_maskParam (s : State) (level : Nat) (port : Port) :
    applySetting (maskParam port) (.number level) s = (s.setMask level port, .value (some (.number level))) := by
  cases port <;> rfl

theorem exec_paramSet (port : Port) (tag : Byte) (id : Option ParamId) (v : ParamValue) (s : State) :
    exec (.paramSet port tag id v) s = execParamSet port tag id v s := rfl

theorem execParamSet_maskParam {s s₀ : State} {port : Port} {tag : Byte} {level : Nat} {masked : Port} (hs : started s)
    (hc : calm s) (h : level ≤ 15) (hp : s.ground.protection < 3) (hr : relationsHold s.ground.params = true)
    (ht : takes s port tag (.paramSet (some (maskParam masked)) (.number level)) s₀) :
    execParamSet port tag (some (maskParam masked)) (.number level) s =
      .next ((s₀.setMask level masked).answer port tag (.ok (.value (some (.number level))))) := by
  obtain ⟨hground, -⟩ := State.takeRequest_ground ht
  have hstarting : s₀.ground.starting = false := started_of_takes ht hs
  have hsetting : firstRefusal (settingChecks s₀ (maskParam masked) (.number level)) = none :=
    settingChecks_maskParam (by rw [hground]; exact hp) (by rw [hground]; exact hr) h masked
  have hfits : valueFits (maskParam masked) (.number level) = true := by cases masked <;> rfl
  have hpass : firstRefusal ([whileStarting s₀, badField (!valueFits (maskParam masked) (.number level))] ++
      settingChecks s₀ (maskParam masked) (.number level)) = none := by
    simp [whileStarting, badField, hstarting, hfits, hsetting]
  have hcalm : (s₀.setMask level masked).plant.agenda = [] :=
    (State.setMask_agenda ..).trans (calm_of_takes ht hc)
  rw [execParamSet, State.serve_accepted ht hpass, Option.getD_some, applySetting_maskParam, State.settled_of_calm hcalm]

/-! ## Warm restart -/

@[simp] theorem State.answer_masks (s : State) (port : Port) (tag : Byte) (r : Reply) :
    (s.answer port tag r).plant.masks = s.plant.masks := by
  cases port <;> simp [State.answer, Plant.modPort]

theorem State.restartPorts_masks (s : State) :
    s.restartPorts.plant.masks = (s.ground.params.supMask, s.ground.params.pnlMask) := rfl

@[simp] theorem State.setRunState_masks (s : State) (new : RunState) (cause : RunCause) :
    (s.setRunState new cause).plant.masks = s.plant.masks := by
  unfold State.setRunState
  dsimp only
  split <;> simp

@[simp] theorem State.restartMachines_masks (s : State) : s.restartMachines.plant.masks = s.plant.masks := by
  unfold State.restartMachines
  split <;> simp [stopAll]

@[simp] theorem State.stopSchedule_masks (s : State) : s.stopSchedule.plant.masks = s.plant.masks := by
  simp [State.stopSchedule]

@[simp] theorem restartTickets_masks (g : Ground) (p : Plant) : (restartTickets g p).masks = p.masks :=
  foldl_masks _ (fun q num => retireEarly_masks g num .restart .restart q) _ p

@[simp] theorem restartWork_masks (g : Ground) (p : Plant) : (restartWork g p).masks = p.masks := by
  simp [restartWork]

/-- The ports take their masks first, and no block that follows changes them (R179). -/
theorem restart_masks (s : State) :
    (restart s).1.plant.masks = (s.ground.params.supMask, s.ground.params.pnlMask) :=
  calc (restart s).1.plant.masks = s.restartPorts.plant.masks := by simp [restart]
    _ = (s.ground.params.supMask, s.ground.params.pnlMask) := s.restartPorts_masks

theorem tickets_of_takes {s s₀ : State} {port : Port} {tag : Byte} {r : Request} (h : takes s port tag r s₀) :
    s₀.plant.tickets = s.plant.tickets := by
  rcases State.takeRequest_eq_some.1 h with ⟨-, rfl⟩ | ⟨-, -, rfl⟩
  · rfl
  · exact Plant.modPort_tickets ..

theorem charge_of_takes {s s₀ : State} {port : Port} {tag : Byte} {r : Request} (h : takes s port tag r s₀) :
    s₀.plant.charge = s.plant.charge := by
  rcases State.takeRequest_eq_some.1 h with ⟨-, rfl⟩ | ⟨-, -, rfl⟩
  · rfl
  · exact Plant.modPort_charge ..

theorem exec_restart (port : Port) (tag : Byte) (s : State) : exec (.restart port tag) s = execRestart port tag s := rfl

/-- A RESTART that no ticket and no charge stands in the way of is carried out (R178). -/
theorem execRestart_accepted {s s₀ : State} {port : Port} {tag : Byte} (hs : started s) (ht : takes s port tag .restart s₀)
    (hw : workingPush s.plant = false) (hf : ∀ t ∈ s.plant.tickets, t.state ≠ .faultHeld) (hc : s.plant.charge = none) :
    execRestart port tag s = .next ((restart s₀).1.settled.answer port tag (.ok (restart s₀).2)) := by
  have hstarting : s₀.ground.starting = false := started_of_takes ht hs
  have hworking : workingPush s₀.plant = false := by rwa [workingPush, tickets_of_takes ht]
  have hpass : firstRefusal
      [ whileStarting s₀,
        ⟨workingPush s₀.plant, .state, .workingPush⟩,
        ⟨s₀.plant.tickets.any fun t => t.state = .faultHeld, .state, .faultHeld⟩,
        ⟨s₀.plant.charge.isSome, .state, .chargeRecord⟩ ] = none := by
    simpa [whileStarting, hstarting, hworking, tickets_of_takes ht, charge_of_takes ht, hc] using hf
  rw [execRestart, State.serve_accepted ht hpass]

/-- Both masks after an accepted RESTART, once its follow-up events have been taken and its reply made ready. -/
theorem restart_settled_answer_masks (s : State) (port : Port) (tag : Byte) (r : Reply) :
    ((restart s).1.settled.answer port tag r).plant.masks = (s.ground.params.supMask, s.ground.params.pnlMask) := by
  rw [State.answer_masks, State.settled_masks, restart_masks]

/-! ## Notices judged by a mask (R175) -/

theorem PortState.offer_masked {x : PortState} {n : Notice} (h : n.level < x.mask) : x.offer n = x := if_pos h

theorem PortState.offer_queued {x : PortState} {n : Notice} (h : x.mask ≤ n.level) (hroom : x.queue.length < 32) :
    x.offer n = ({ x with queue := x.queue ++ [n] } : PortState).pump := by
  rw [PortState.offer, if_neg (Nat.not_lt.2 h), if_pos hroom]

/-- A notice raised is offered to each port. -/
theorem State.raise_port (s : State) (b : NoticeBody) (port : Port) :
    (s.raise b).plant.port port =
      (s.plant.port port).offer { level := b.level, time := s.ground.clock, body := b } := by
  cases port <;> rfl

/-- Settles O20: the outcomes of `execMaskSet` by the range of the level, the setting handed on to the port, the masks that a
restart gives and its blocks leave, and the judgement of a notice by `PortState.offer`. -/
theorem masksAreSet : Obligations.MasksAreSet := by
  unfold Obligations.MasksAreSet
  refine ⟨?maskSet, ?paramSet, ?restart, ?raised⟩
  case maskSet =>
    intro s s₀ port tag level hs hc ht
    rw [exec_maskSet]
    exact ⟨execMaskSet_accepted hs hc ht, execMaskSet_refused hs ht⟩
  case paramSet =>
    intro s s₀ port tag level hs hc hlevel hp
    simp only [exec_paramSet]
    exact ⟨fun ht hr => execParamSet_maskParam (masked := .sup) hs hc hlevel hp hr ht,
      fun ht hr => execParamSet_maskParam (masked := .pnl) hs hc hlevel hp hr ht⟩
  case restart =>
    intro s s₀ port tag hs ht hw hf hc
    obtain ⟨hground, -⟩ := State.takeRequest_ground ht
    refine ⟨_, (exec_restart port tag s).trans (execRestart_accepted hs ht hw hf hc), Plant.masks_eq_iff.1 ?_⟩
    rw [restart_settled_answer_masks, hground, State.opened_ground]
  case raised =>
    intro s b port
    rw [State.raise_port]
    exact ⟨fun h => PortState.offer_masked h, fun h hroom => PortState.offer_queued h hroom⟩

end Sys2Proof.Machine
end

section
/-! The protection level: the groups it protects, PROTECT SET, the refusal of a protected parameter, and what keeps or sets the
level (R184). -/

namespace Sys2Proof.Machine

open Sys2Proof.Safety

/-! ## The groups protected -/

theorem protectedAt_one_iff (gr : ParamGroup) : protectedAt 1 gr = true ↔ gr = .g := by
  cases gr <;> decide

theorem protectedAt_two_iff (gr : ParamGroup) : protectedAt 2 gr = true ↔ gr = .g ∨ gr = .p ∨ gr = .c := by
  cases gr <;> decide

/-! ## PROTECT SET -/

/-- The state in which the protection level has a value. -/
def State.setProtection (s : State) (level : Nat) : State :=
  { s with ground := { s.ground with protection := level } }

theorem State.setProtection_agenda (s : State) (level : Nat) :
    (s.setProtection level).plant.agenda = s.plant.agenda := rfl

theorem exec_protectSet (port : Port) (tag : Byte) (level : Nat) (s : State) :
    exec (.protectSet port tag level) s = execProtectSet port tag level s := rfl

section
variable {s s₀ : State} {port : Port} {tag : Byte} {level : Nat}

/-- What the checks of PROTECT SET find as the request is taken, said of the state before: the range of the level is judged
before the key. -/
theorem firstRefusal_protectSet (hs : started s) (ht : takes s port tag (.protectSet level) s₀) :
    firstRefusal
      [ whileStarting s₀, badField (3 < level), ⟨level < s₀.ground.protection && !s₀.ground.keyLine, .locked, .keyLine⟩ ] =
      if 3 < level then some (.refused .range .field)
      else if level < s.ground.protection ∧ s.ground.keyLine = false then some (.refused .locked .keyLine)
      else none := by
  obtain ⟨hground, -⟩ := State.takeRequest_ground ht
  have hstarting : s.ground.starting = false := hs
  simp [whileStarting, badField, hground, hstarting]

theorem execProtectSet_accepted (hs : started s) (hc : calm s) (ht : takes s port tag (.protectSet level) s₀)
    (h : level ≤ 3) (hkey : s.ground.protection ≤ level ∨ s.ground.keyLine = true) :
    execProtectSet port tag level s =
      .next ((s₀.setProtection level).answer port tag (.ok (.protection level))) := by
  have hallowed : ¬(level < s.ground.protection ∧ s.ground.keyLine = false) := by
    rintro ⟨hlower, hoff⟩
    rcases hkey with hlevel | hon
    · omega
    · simp [hon] at hoff
  have hpass := firstRefusal_protectSet hs ht
  rw [if_neg (Nat.not_lt.2 h), if_neg hallowed] at hpass
  have hcalm : (s₀.setProtection level).plant.agenda = [] :=
    (s₀.setProtection_agenda level).trans (calm_of_takes ht hc)
  rw [execProtectSet, State.serve_accepted ht hpass, ← State.setProtection, State.settled_of_calm hcalm]

theorem execProtectSet_locked (hs : started s) (ht : takes s port tag (.protectSet level) s₀)
    (hlower : level < s.ground.protection) (h : level ≤ 3) (hkey : s.ground.keyLine = false) :
    execProtectSet port tag level s = .next (s₀.answer port tag (.refused .locked .keyLine)) := by
  have hfail := firstRefusal_protectSet hs ht
  rw [if_neg (Nat.not_lt.2 h), if_pos ⟨hlower, hkey⟩] at hfail
  rw [execProtectSet, State.serve_refused ht hfail]

theorem execProtectSet_range (hs : started s) (ht : takes s port tag (.protectSet level) s₀) (h : 3 < level) :
    execProtectSet port tag level s = .next (s₀.answer port tag (.refused .range .field)) := by
  have hfail := firstRefusal_protectSet hs ht
  rw [if_pos h] at hfail
  rw [execProtectSet, State.serve_refused ht hfail]

end

/-! ## What the level refuses and what it does not -/

/-- Protection is the first check of a value of its parameter's form (R182). -/
theorem firstRefusal_settingChecks_protected {s : State} {id : ParamId} (v : ParamValue)
    (h : protectedAt s.ground.protection (paramGroup id) = true) :
    firstRefusal (settingChecks s id v) = some (.refused .locked .group) := by
  simp [settingChecks, h]

theorem execParamSet_protected {s s₀ : State} {port : Port} {tag : Byte} {id : ParamId} {v : ParamValue} (hs : started s)
    (hfits : valueFits id v = true) (ht : takes s port tag (.paramSet (some id) v) s₀)
    (h : protectedAt s.ground.protection (paramGroup id) = true) :
    execParamSet port tag (some id) v s = .next (s₀.answer port tag (.refused .locked .group)) := by
  obtain ⟨hground, -⟩ := State.takeRequest_ground ht
  have hstarting : s₀.ground.starting = false := started_of_takes ht hs
  have hprotected : protectedAt s₀.ground.protection (paramGroup id) = true := by rwa [hground]
  have hfail : firstRefusal ([whileStarting s₀, badField ((some id).isNone || !valueFits id v)] ++ settingChecks s₀ id v) =
      some (.refused .locked .group) := by
    simp [whileStarting, badField, hstarting, hfits, firstRefusal_settingChecks_protected v hprotected]
  rw [execParamSet, State.serve_refused ht hfail]

/-- MASK SET is carried out at every protection level, whatever follow-up events wait. -/
theorem execMaskSet_settled {s s₀ : State} {port : Port} {tag : Byte} {level : Nat} (hs : started s)
    (ht : takes s port tag (.maskSet level) s₀) (h : level ≤ 15) :
    execMaskSet port tag level s =
      .next ((s₀.modPort port fun x => { x with mask := level }).settled.answer port tag (.ok (.mask level))) := by
  have hpass : firstRefusal [whileStarting s₀, badField (15 < level)] = none :=
    (firstRefusal_badField (started_of_takes ht hs) _).trans (if_neg (by simpa using h))
  rw [execMaskSet, State.serve_accepted ht hpass]

/-! ## Warm restart -/

@[simp] theorem State.setRunState_ground (s : State) (new : RunState) (cause : RunCause) :
    (s.setRunState new cause).ground = { s.ground with runState := new } := by
  unfold State.setRunState
  dsimp only
  split <;> rfl

@[simp] theorem State.restartPorts_ground (s : State) : s.restartPorts.ground = s.ground := rfl

@[simp] theorem State.restartMachines_ground (s : State) :
    s.restartMachines.ground =
      { s.ground with runState := if s.ground.running then .paused else s.ground.runState } := by
  unfold State.restartMachines
  split <;> simp

@[simp] theorem State.stopSchedule_ground (s : State) :
    s.stopSchedule.ground = { s.ground with schedRunning := false } := rfl

/-- Of the ground a warm restart changes only the run state and the scheduler's (R170, R179). -/
theorem restart_ground (s : State) :
    (restart s).1.ground =
      { s.ground with
        runState := if s.ground.running then .paused else s.ground.runState
        schedRunning := false } := by
  have hlast : (restart s).1.ground = s.restartPorts.restartMachines.stopSchedule.ground := rfl
  rw [hlast, State.stopSchedule_ground, State.restartMachines_ground, State.restartPorts_ground]

theorem restart_protection (s : State) : (restart s).1.ground.protection = s.ground.protection := by
  rw [restart_ground]

/-- Settles O58: the groups level by level, the outcomes of `execProtectSet` in the order of its checks, the check of PARAM SET
that the level fails, MASK SET's checks, which do not name it, and the ground after a restart. -/
theorem protectionLevelIsKept : Obligations.ProtectionLevelIsKept := by
  unfold Obligations.ProtectionLevelIsKept
  refine ⟨?groups, ?protectSet, ?paramSet, ?maskSet, fun s => ⟨restart_protection s, rfl, rfl⟩,
    fun g store im => ?storeRead⟩
  case groups => exact fun gr => ⟨rfl, protectedAt_one_iff gr, protectedAt_two_iff gr, rfl⟩
  case protectSet =>
    intro s s₀ port tag level hs hc ht
    rw [exec_protectSet]
    exact ⟨execProtectSet_accepted hs hc ht, execProtectSet_locked hs ht, execProtectSet_range hs ht⟩
  case paramSet =>
    intro s s₀ port tag id v hs hfits ht h
    rw [exec_paramSet]
    exact execParamSet_protected hs hfits ht h
  case maskSet =>
    intro s s₀ port tag level hs h ht
    exact ⟨_, (exec_maskSet port tag level s).trans (execMaskSet_settled hs ht h)⟩
  case storeRead => cases im <;> rfl

end Sys2Proof.Machine
end

section
/-! SUPPORT. What an operation of the plant may write. `Writes k p q` says of a plant `q` that it is the plant `p` but for the
kinds of state that `k` names and the traffic, and that the traffic only grows; `Keeps k p q` says besides that the bounds of the
lists and the safety of the track are kept. Both compose, so that what a composite operation may write follows from its parts. -/

namespace Sys2Proof.Machine

open Sys2Proof.Safety

/-! ## Kinds of state -/

/-- The parts of a plant that operations write apart from the traffic; `.ovens` is the ovens' table as a whole, `.oven n` one
oven of it, `.phases` the phases of its ovens, and `.list` a side's service list with its latch. -/
inductive Kind where
  | ovens
  | oven (n : Nat)
  | phases
  | list (side : Side)
  | job (side : Side)
  | car (c : Car)
  | water
  | claim (m : Machine)
  | tickets
  | counter
  | log
  | cursor
  | catchup
  | latch
  | pacing
  | charge
  | ask
  | main
  deriving DecidableEq

/-- The kinds of state an operation may write. -/
abbrev Kinds := Kind → Bool

/-- Every kind. -/
def Kinds.all : Kinds := fun _ => true

/-- All kinds of a list may be written. -/
def Kinds.has (k : Kinds) (l : List Kind) : Prop := ∀ x ∈ l, k x = true

theorem Kinds.has_cons {k : Kinds} {x : Kind} {l : List Kind} : k.has (x :: l) ↔ k x = true ∧ k.has l := by
  simp [Kinds.has]

@[simp] theorem Kinds.has_nil {k : Kinds} : k.has [] := by simp [Kinds.has]

@[simp] theorem Kinds.all_has (l : List Kind) : Kinds.all.has l := fun _ _ => rfl

/-- The kinds of a list. -/
def Kinds.of (l : List Kind) : Kinds := fun x => decide (x ∈ l)

theorem Kinds.of_has {l l' : List Kind} (h : l' ⊆ l) : (Kinds.of l).has l' := fun _ hx => decide_eq_true (h hx)

theorem Kinds.of_eq_false {l : List Kind} {x : Kind} (h : x ∉ l) : Kinds.of l x = false := decide_eq_false h

/-- Fewer kinds of the same. -/
theorem Kinds.has.sub {k : Kinds} {l l' : List Kind} (h : k.has l) (hs : l' ⊆ l) : k.has l' := fun x hx => h x (hs hx)

/-- A kind that may be written is none of those that may not. -/
theorem Kinds.clash {k : Kinds} {x : Kind} {P : Prop} (h : k x = true) (h' : k x = false) : P := by
  rw [h] at h'
  cases h'

/-! ## Conditions on a plant -/

/-- Both ports are within their bounds (R172, R175). -/
def Plant.PortsBounded (p : Plant) : Prop := portBounded p.sup ∧ portBounded p.pnl

/-- The lists are within their bounds (R47, R64, R89, R99). -/
def Plant.ListsBounded (p : Plant) : Prop :=
  p.tickets.length ≤ 2 ∧ p.catchup.length ≤ 8 ∧ p.psSide.list.length ≤ 16 ∧ p.csSide.list.length ≤ 16 ∧ p.log.length ≤ 64

/-- The cars' spans lie apart (R147, R150). -/
def Plant.SpansApart (p : Plant) : Prop :=
  CarSound p.carA ∧ CarSound p.carB ∧
    ∀ l h l' h', p.carA.span = some (l, h) → p.carB.span = some (l', h') → h < l'

/-- A QUENCHING car holds the grant (R157, R158). -/
def Plant.WaterHeld (p : Plant) : Prop := ∀ c, (p.car c).state = .quenching → p.grant = some c

theorem portsBounded_iff (s : State) : portsBounded s ↔ s.plant.PortsBounded := Iff.rfl
theorem listsBounded_iff (s : State) : listsBounded s ↔ s.plant.ListsBounded := Iff.rfl
theorem spansApart_iff (s : State) : spansApart s ↔ s.plant.SpansApart := Iff.rfl
theorem waterHeld_iff (s : State) : waterHeld s ↔ s.plant.WaterHeld := Iff.rfl

/-- Follow-up events stand in the order of their ranks (log 3). -/
def Ranked (l : List Task) : Prop := l.Pairwise fun a b => a.rank ≤ b.rank

/-! ## Frames -/

/-- The plant `q` is `p` but for the kinds named by `k` and the traffic; records sent and follow-up events started are only
added, and the ports stay within their bounds. -/
structure Writes (k : Kinds) (p q : Plant) : Prop where
  length : q.ovens.length = p.ovens.length := by rfl
  table : k .ovens = false → q.ovens = p.ovens := by exact fun _ => rfl
  oven : ∀ n, k (.oven n) = false → q.oven n = p.oven n := by exact fun _ _ => rfl
  phase : k .phases = false → ∀ n, (q.oven n).phase = (p.oven n).phase := by exact fun _ _ => rfl
  list : ∀ side, k (.list side) = false →
    (q.side side).list = (p.side side).list ∧ (q.side side).latch = (p.side side).latch := by
      exact fun side _ => by cases side <;> exact ⟨rfl, rfl⟩
  job : ∀ side, k (.job side) = false → (q.side side).job = (p.side side).job := by
    exact fun side _ => by cases side <;> rfl
  car : ∀ c, k (.car c) = false → q.car c = p.car c := by exact fun c _ => by cases c <;> rfl
  grant : k .water = false → q.grant = p.grant := by exact fun _ => rfl
  waiting : k .water = false → q.waiting = p.waiting := by exact fun _ => rfl
  spray : k .water = false → ∀ c, q.spray c = p.spray c := by exact fun _ c => by cases c <;> rfl
  trackHold : k .water = false → q.trackHold = p.trackHold := by exact fun _ => rfl
  claim : ∀ m, k (.claim m) = false → q.claim m = p.claim m := by exact fun m _ => by cases m <;> rfl
  tickets : k .tickets = false → q.tickets = p.tickets := by exact fun _ => rfl
  counter : k .counter = false → q.nextTicket = p.nextTicket := by exact fun _ => rfl
  log : k .log = false → q.log = p.log := by exact fun _ => rfl
  cursor : k .cursor = false → q.cursor = p.cursor := by exact fun _ => rfl
  catchup : k .catchup = false → q.catchup = p.catchup := by exact fun _ => rfl
  latch : k .latch = false → q.catchLatch = p.catchLatch := by exact fun _ => rfl
  lastPush : k .pacing = false → q.lastPushStart = p.lastPushStart := by exact fun _ => rfl
  pacing : k .pacing = false → q.pacing = p.pacing := by exact fun _ => rfl
  charge : k .charge = false → q.charge = p.charge := by exact fun _ => rfl
  ask : k .ask = false → q.ask = p.ask := by exact fun _ => rfl
  mainPosition : k .main = false → q.mainPosition = p.mainPosition := by exact fun _ => rfl
  mainSetPoint : k .main = false → q.mainSetPoint = p.mainSetPoint := by exact fun _ => rfl
  sent : p.sent <+: q.sent := by exact List.prefix_refl _
  agenda : p.agenda ⊆ q.agenda := by exact List.Subset.refl _
  ranked : Ranked p.agenda → Ranked q.agenda := by exact id
  ports : p.PortsBounded → q.PortsBounded := by exact id

theorem Writes.refl (k : Kinds) (p : Plant) : Writes k p p where

theorem Writes.trans {k : Kinds} {p q r : Plant} (h : Writes k p q) (h' : Writes k q r) : Writes k p r where
  length := h'.length.trans h.length
  table x := (h'.table x).trans (h.table x)
  oven n x := (h'.oven n x).trans (h.oven n x)
  phase x n := (h'.phase x n).trans (h.phase x n)
  list side x := ⟨(h'.list side x).1.trans (h.list side x).1, (h'.list side x).2.trans (h.list side x).2⟩
  job side x := (h'.job side x).trans (h.job side x)
  car c x := (h'.car c x).trans (h.car c x)
  grant x := (h'.grant x).trans (h.grant x)
  waiting x := (h'.waiting x).trans (h.waiting x)
  spray x c := (h'.spray x c).trans (h.spray x c)
  trackHold x := (h'.trackHold x).trans (h.trackHold x)
  claim m x := (h'.claim m x).trans (h.claim m x)
  tickets x := (h'.tickets x).trans (h.tickets x)
  counter x := (h'.counter x).trans (h.counter x)
  log x := (h'.log x).trans (h.log x)
  cursor x := (h'.cursor x).trans (h.cursor x)
  catchup x := (h'.catchup x).trans (h.catchup x)
  latch x := (h'.latch x).trans (h.latch x)
  lastPush x := (h'.lastPush x).trans (h.lastPush x)
  pacing x := (h'.pacing x).trans (h.pacing x)
  charge x := (h'.charge x).trans (h.charge x)
  ask x := (h'.ask x).trans (h.ask x)
  mainPosition x := (h'.mainPosition x).trans (h.mainPosition x)
  mainSetPoint x := (h'.mainSetPoint x).trans (h.mainSetPoint x)
  sent := h.sent.trans h'.sent
  agenda := List.Subset.trans h.agenda h'.agenda
  ranked x := h'.ranked (h.ranked x)
  ports x := h'.ports (h.ports x)

/-- What may write fewer kinds may write more. -/
theorem Writes.mono {k k' : Kinds} {p q : Plant} (h : Writes k p q) (hk : ∀ x, k x = true → k' x = true) : Writes k' p q := by
  have off : ∀ {x}, k' x = false → k x = false := fun {x} hx => by
    cases hkx : k x with
    | false => rfl
    | true => exact Kinds.clash (hk x hkx) hx
  exact
    { h with
      table := fun x => h.table (off x)
      oven := fun n x => h.oven n (off x)
      phase := fun x => h.phase (off x)
      list := fun side x => h.list side (off x)
      job := fun side x => h.job side (off x)
      car := fun c x => h.car c (off x)
      grant := fun x => h.grant (off x)
      waiting := fun x => h.waiting (off x)
      spray := fun x => h.spray (off x)
      trackHold := fun x => h.trackHold (off x)
      claim := fun m x => h.claim m (off x)
      tickets := fun x => h.tickets (off x)
      counter := fun x => h.counter (off x)
      log := fun x => h.log (off x)
      cursor := fun x => h.cursor (off x)
      catchup := fun x => h.catchup (off x)
      latch := fun x => h.latch (off x)
      lastPush := fun x => h.lastPush (off x)
      pacing := fun x => h.pacing (off x)
      charge := fun x => h.charge (off x)
      ask := fun x => h.ask (off x)
      mainPosition := fun x => h.mainPosition (off x)
      mainSetPoint := fun x => h.mainSetPoint (off x) }

/-- The plant with the kinds named by `k`, and the traffic, taken from `d`. -/
def Kinds.fill (k : Kinds) (d p : Plant) : Plant where
  sup := d.sup
  pnl := d.pnl
  ovens := cond (k .ovens) d.ovens p.ovens
  cursor := cond (k .cursor) d.cursor p.cursor
  catchup := cond (k .catchup) d.catchup p.catchup
  catchLatch := cond (k .latch) d.catchLatch p.catchLatch
  lastPushStart := cond (k .pacing) d.lastPushStart p.lastPushStart
  pacing := cond (k .pacing) d.pacing p.pacing
  tickets := cond (k .tickets) d.tickets p.tickets
  nextTicket := cond (k .counter) d.nextTicket p.nextTicket
  log := cond (k .log) d.log p.log
  psSide := cond (k (.list .ps) || k (.job .ps)) d.psSide p.psSide
  csSide := cond (k (.list .cs) || k (.job .cs)) d.csSide p.csSide
  charge := cond (k .charge) d.charge p.charge
  ask := cond (k .ask) d.ask p.ask
  mainPosition := cond (k .main) d.mainPosition p.mainPosition
  mainSetPoint := cond (k .main) d.mainSetPoint p.mainSetPoint
  sprayA := cond (k .water) d.sprayA p.sprayA
  sprayB := cond (k .water) d.sprayB p.sprayB
  carA := cond (k (.car .a)) d.carA p.carA
  carB := cond (k (.car .b)) d.carB p.carB
  grant := cond (k .water) d.grant p.grant
  waiting := cond (k .water) d.waiting p.waiting
  trackHold := cond (k .water) d.trackHold p.trackHold
  claimPm := cond (k (.claim .pm)) d.claimPm p.claimPm
  claimGc := cond (k (.claim .gc)) d.claimGc p.claimGc
  sent := d.sent
  closingPresses := d.closingPresses
  agenda := d.agenda

theorem eq_cond {α : Type} {b : Bool} {x y : α} (h : b = false → x = y) : x = cond b x y := by
  cases b
  · exact h rfl
  · rfl

theorem ServiceSide.eq_of {d e : ServiceSide} (hl : d.list = e.list ∧ d.latch = e.latch) (hj : d.job = e.job) : d = e := by
  obtain ⟨list, latch, job⟩ := d
  obtain ⟨list', latch', job'⟩ := e
  obtain ⟨rfl, rfl⟩ := hl
  cases hj
  rfl

/-- A frame as one equation. -/
theorem Writes.fill {k : Kinds} {p q : Plant} (h : Writes k p q) : q = k.fill q p := by
  have side : ∀ side, (k (.list side) || k (.job side)) = false → q.side side = p.side side := fun side hk => by
    rw [Bool.or_eq_false_iff] at hk
    exact ServiceSide.eq_of (h.list side hk.1) (h.job side hk.2)
  have e : ∀ r : Plant, q = r ↔ q.toPlantCycle = r.toPlantCycle ∧ q.toPlantWork = r.toPlantWork := fun r => by
    cases q
    cases r
    simp
  rw [e]
  constructor
  · rw [PlantCycle.mk.injEq]
    exact ⟨rfl, rfl, eq_cond h.table, eq_cond h.cursor, eq_cond h.catchup, eq_cond h.latch, eq_cond h.lastPush,
      eq_cond h.pacing, eq_cond h.tickets, eq_cond h.counter, eq_cond h.log⟩
  · rw [PlantWork.mk.injEq]
    exact ⟨eq_cond (side .ps), eq_cond (side .cs), eq_cond h.charge, eq_cond h.ask, eq_cond h.mainPosition,
      eq_cond h.mainSetPoint, eq_cond fun x => h.spray x .a, eq_cond fun x => h.spray x .b, eq_cond (h.car .a),
      eq_cond (h.car .b), eq_cond h.grant, eq_cond h.waiting, eq_cond h.trackHold, eq_cond (h.claim .pm),
      eq_cond (h.claim .gc), rfl, rfl, rfl⟩

/-! ## Operations that keep the bounds and the safety of the track -/

/-- A frame, with the lists kept within their bounds, the cars' spans apart and the water with the car that quenches. -/
structure Keeps (k : Kinds) (p q : Plant) : Prop extends Writes k p q where
  lists : p.ListsBounded → q.ListsBounded := by exact id
  spans : p.SpansApart → q.SpansApart := by exact id
  water : p.WaterHeld → q.WaterHeld := by exact id

theorem Keeps.refl (k : Kinds) (p : Plant) : Keeps k p p where

theorem Keeps.trans {k : Kinds} {p q r : Plant} (h : Keeps k p q) (h' : Keeps k q r) : Keeps k p r where
  toWrites := h.toWrites.trans h'.toWrites
  lists x := h'.lists (h.lists x)
  spans x := h'.spans (h.spans x)
  water x := h'.water (h.water x)

theorem Keeps.mono {k k' : Kinds} {p q : Plant} (h : Keeps k p q) (hk : ∀ x, k x = true → k' x = true) : Keeps k' p q where
  toWrites := h.toWrites.mono hk
  lists := h.lists
  spans := h.spans
  water := h.water

theorem Keeps.ite {k : Kinds} {p q r : Plant} {c : Prop} [Decidable c] (h : c → Keeps k p q) (h' : ¬c → Keeps k p r) :
    Keeps k p (if c then q else r) := by
  split
  · rename_i hc
    exact h hc
  · rename_i hc
    exact h' hc

/-- Operations applied in turn keep what each of them keeps. -/
theorem Keeps.foldl {k : Kinds} {α : Type} {f : Plant → α → Plant} (l : List α) (hf : ∀ a ∈ l, ∀ q, Keeps k q (f q a))
    (p : Plant) : Keeps k p (l.foldl f p) := by
  induction l generalizing p with
  | nil => exact .refl k p
  | cons a l ih =>
    exact (hf a (List.mem_cons_self ..) p).trans (ih (fun b hb => hf b (List.mem_cons_of_mem a hb)) (f p a))

/-! ## Traffic -/

theorem portBounded_offer {x : PortState} (n : Notice) (h : portBounded x) : portBounded (x.offer n) := by
  obtain ⟨hold, queue⟩ := h
  exact ⟨by rw [(x.offer_frame n).1]; exact hold, PortState.offer_queue_length n queue⟩

theorem raise_keeps (k : Kinds) (g : Ground) (b : NoticeBody) (p : Plant) : Keeps k p (raise g b p) where
  ports h := ⟨portBounded_offer _ h.1, portBounded_offer _ h.2⟩

theorem send_keeps (k : Kinds) (m : Machine) (r : ToMachine) (p : Plant) : Keeps k p (send m r p) where
  sent := List.prefix_append ..

theorem sendStops_keeps (k : Kinds) (ms : List Machine) (p : Plant) : Keeps k p (sendStops ms p) :=
  .foldl ms (fun m _ q => send_keeps k m .stop q) p

theorem start_keeps (k : Kinds) (t : Task) (p : Plant) : Keeps k p (start t p) where
  agenda x hx := (insertTask_perm t p.agenda).mem_iff.2 (List.mem_cons_of_mem t hx)
  ranked := insertTask_sorted t

theorem startAll_eq (ts : List Task) (p : Plant) : startAll ts p = ts.foldl (fun q t => start t q) p := by
  induction ts generalizing p with
  | nil => rfl
  | cons t ts ih => rw [List.foldl_cons, ← ih]; rfl

theorem startAll_keeps (k : Kinds) (ts : List Task) (p : Plant) : Keeps k p (startAll ts p) := by
  rw [startAll_eq]
  exact .foldl ts (fun t _ q => start_keeps k t q) p

theorem forgetPresses_keeps (k : Kinds) (m : Machine) (n : Nat) (p : Plant) : Keeps k p (forgetPresses m n p) where

theorem pressAnswered_keeps (k : Kinds) (m : Machine) (n : Nat) (p : Plant) : Keeps k p (pressAnswered m n p) where

theorem sendStep_keeps (k : Kinds) (m : Machine) (op : Op) (n : Nat) (p : Plant) : Keeps k p (sendStep m op n p) := by
  unfold sendStep
  dsimp only
  split
  · exact { send_keeps k m (.step op n) p with }
  · exact send_keeps k m (.step op n) p

/-! ## Claims -/

theorem setClaim_keeps {k : Kinds} {m : Machine} (h : k (.claim m) = true) (g : Ground) (c : Claim) (p : Plant) :
    Keeps k p (setClaim g m c p) := by
  unfold setClaim
  split
  · exact .refl k p
  · refine Keeps.trans ?_ (raise_keeps k g _ _)
    cases m with
    | pm => exact { claim := fun m hm => by cases m with
      | pm => exact Kinds.clash h hm
      | _ => rfl }
    | gc => exact { claim := fun m hm => by cases m with
      | gc => exact Kinds.clash h hm
      | _ => rfl }
    | _ => exact .refl k p

theorem releaseClaims_keeps {k : Kinds} {ms : List Machine} (h : ∀ m ∈ ms, k (.claim m) = true) (g : Ground)
    (offered : Bool) (p : Plant) : Keeps k p (releaseClaims g ms offered p) := by
  have free : Keeps k p (ms.foldl (fun p m => setClaim g m .free p) p) :=
    .foldl ms (fun m hm q => setClaim_keeps (h m hm) g .free q) p
  exact .ite (fun _ => free.trans (startAll_keeps k _ _)) fun _ => free

end Sys2Proof.Machine
end

section
/-! SUPPORT. What the credit, offtake, door and charge units' shared operations may write (`Keeps`): the oven they name, the
service lists of a side, and, at a phase change, both. -/

namespace Sys2Proof.Machine

open Sys2Proof.Safety

/-! ## Ovens: the credit and offtake units -/

/-- What an operation on one oven's record writes. -/
abbrev Kind.ofOven (n : Nat) : List Kind := [.ovens, .oven n]

/-- What a phase change of an oven writes. -/
abbrev Kind.ofPhase (n : Nat) : List Kind := [.ovens, .oven n, .phases, .list .ps, .list .cs]

theorem Kinds.has.ovenOfPhase {k : Kinds} {n : Nat} (h : k.has (Kind.ofPhase n)) : k.has (Kind.ofOven n) := h.sub (by simp)

section
variable {k : Kinds} {n : Nat}

/-- An oven's record is written, its phase included. -/
theorem modOven_keeps_phases (h : k.has [.ovens, .oven n, .phases]) (f : Oven → Oven) (p : Plant) :
    Keeps k p (p.modOven n f) where
  length := Plant.modOven_length p n f
  table x := Kinds.clash (h _ (by simp)) x
  oven m x := Plant.modOven_oven_ne p (by rintro rfl; exact Kinds.clash (h (.oven m) (by simp)) x) f
  phase x := Kinds.clash (h _ (by simp)) x

/-- A change that leaves the phase of every oven leaves it in the table. -/
theorem modOven_phase {f : Oven → Oven} (hf : ∀ o, (f o).phase = o.phase) (p : Plant) (m : Nat) :
    ((p.modOven n f).oven m).phase = (p.oven m).phase := by
  unfold Plant.modOven Plant.oven
  dsimp only
  rw [numbered_updateNumbered]
  split
  · cases numbered p.ovens m with
    | none => rfl
    | some o => exact hf o
  · rfl

/-- An oven's record is written but for its phase. -/
theorem modOven_keeps (h : k.has (Kind.ofOven n)) {f : Oven → Oven} (hf : ∀ o, (f o).phase = o.phase) (p : Plant) :
    Keeps k p (p.modOven n f) where
  length := Plant.modOven_length p n f
  table x := Kinds.clash (h _ (by simp)) x
  oven m x := Plant.modOven_oven_ne p (by rintro rfl; exact Kinds.clash (h (.oven m) (by simp)) x) f
  phase _ := modOven_phase hf p

theorem modValve_keeps (h : k.has (Kind.ofOven n)) (f : Valve → Valve) (p : Plant) : Keeps k p (p.modValve n f) :=
  modOven_keeps h (by exact fun _ => rfl) p

theorem accrueOven_phase (now : Time) (o : Oven) : (accrueOven now o).phase = o.phase := by
  unfold accrueOven
  split <;> rfl

theorem accrue_keeps (h : k.has (Kind.ofOven n)) (g : Ground) (p : Plant) : Keeps k p (accrue g n p) :=
  modOven_keeps h (accrueOven_phase g.clock) p

theorem setTarget_keeps (h : k.has (Kind.ofOven n)) (g : Ground) (mass : Nat) (p : Plant) : Keeps k p (setTarget g n mass p) :=
  modOven_keeps h (by exact fun _ => rfl) p

theorem resetReadiness_keeps (h : k.has (Kind.ofOven n)) (g : Ground) (p : Plant) : Keeps k p (resetReadiness g n p) := by
  unfold resetReadiness
  dsimp only
  split
  · exact .ite (fun _ => (modOven_keeps h (by exact fun _ => rfl) p).trans (start_keeps ..))
      fun _ => modOven_keeps h (by exact fun _ => rfl) p
  · exact modOven_keeps h (by exact fun _ => rfl) p

theorem recomputeOven_keeps (h : k.has (Kind.ofOven n)) (g : Ground) (p : Plant) : Keeps k p (recomputeOven g n p) := by
  unfold recomputeOven
  split
  · exact .refl k p
  · exact (modOven_keeps h (by exact fun _ => rfl) p).trans (resetReadiness_keeps h g _)

theorem accrualEvent_keeps (h : k.has (Kind.ofOven n)) (g : Ground) (p : Plant) : Keeps k p (accrualEvent g n p) :=
  (accrue_keeps h g p).trans (recomputeOven_keeps h g _)

theorem beginAccrual_keeps (h : k.has (Kind.ofOven n)) (g : Ground) (p : Plant) : Keeps k p (beginAccrual g n p) :=
  (modOven_keeps h (by exact fun _ => rfl) p).trans (recomputeOven_keeps h g _)

theorem setOverdue_keeps (h : k.has (Kind.ofOven n)) (g : Ground) (p : Plant) : Keeps k p (setOverdue g n p) := by
  unfold setOverdue
  exact .ite
    (fun _ => .ite (fun _ => (modOven_keeps h (by exact fun _ => rfl) p).trans (start_keeps ..))
      fun _ => modOven_keeps h (by exact fun _ => rfl) p)
    fun _ => .refl k p

theorem setDwell_keeps (h : k.has (Kind.ofOven n)) (g : Ground) (p : Plant) : Keeps k p (setDwell g n p) := by
  unfold setDwell
  dsimp only
  split
  · exact .ite (fun _ => (modOven_keeps h (by exact fun _ => rfl) p).trans (start_keeps ..))
      fun _ => modOven_keeps h (by exact fun _ => rfl) p
  · exact .refl k p

theorem overdueReached_keeps (h : k.has (Kind.ofOven n)) (g : Ground) (p : Plant) : Keeps k p (overdueReached g n p) := by
  unfold overdueReached
  dsimp only
  split
  · exact .refl k p
  · exact .ite (fun _ => .refl k p) fun _ => (modOven_keeps h (by exact fun _ => rfl) p).trans (raise_keeps ..)

theorem dwellReached_keeps (h : k.has (Kind.ofOven n)) (g : Ground) (p : Plant) : Keeps k p (dwellReached g n p) := by
  unfold dwellReached
  dsimp only
  split
  · exact .ite (fun _ => .refl k p) fun _ => (modOven_keeps h (by exact fun _ => rfl) p).trans (raise_keeps ..)
  · exact .refl k p

theorem judgeLoad_keeps (h : k.has (Kind.ofOven n)) (g : Ground) (load : Nat) (p : Plant) : Keeps k p (judgeLoad g n load p) :=
  .ite (fun _ => (modOven_keeps h (by exact fun _ => rfl) p).trans (raise_keeps ..)) fun _ => modOven_keeps h (by exact fun _ => rfl) p

theorem commandIsolate_keeps (h : k.has (Kind.ofOven n)) (p : Plant) : Keeps k p (commandIsolate n p) := by
  unfold commandIsolate
  split
  case h_4 => exact .refl k p
  all_goals exact modValve_keeps h _ p

theorem commandAspirate_keeps (h : k.has (Kind.ofOven n)) (p : Plant) : Keeps k p (commandAspirate n p) := by
  unfold commandAspirate
  split
  · exact modValve_keeps h _ p
  · exact .refl k p

theorem commandRegulate_keeps (h : k.has (Kind.ofOven n)) (g : Ground) (p : Plant) : Keeps k p (commandRegulate g n p) := by
  unfold commandRegulate
  split
  · exact .refl k p
  · exact modValve_keeps h _ p

theorem isolateForTicket_keeps (h : k.has (Kind.ofOven n)) (g : Ground) (num : Nat) (p : Plant) :
    Keeps k p (isolateForTicket g n num p) :=
  .ite (fun _ => (commandIsolate_keeps h p).trans (raise_keeps ..)) fun _ => commandIsolate_keeps h p

end

/-! ## Service lists -/

section
variable {k : Kinds} {side : Side}

/-- A side of the door unit is written, its list within its bound. -/
theorem modSide_keeps {p : Plant} {f : ServiceSide → ServiceSide}
    (hl : k (.list side) = true ∨ (f (p.side side)).list = (p.side side).list ∧ (f (p.side side)).latch = (p.side side).latch)
    (hj : k (.job side) = true ∨ (f (p.side side)).job = (p.side side).job)
    (hb : (p.side side).list.length ≤ 16 → (f (p.side side)).list.length ≤ 16) : Keeps k p (p.modSide side f) := by
  cases side with
  | ps => exact
    { list := fun side x => by
        cases side with
        | ps => exact hl.elim (fun h => Kinds.clash h x) id
        | cs => exact ⟨rfl, rfl⟩
      job := fun side x => by
        cases side with
        | ps => exact hj.elim (fun h => Kinds.clash h x) id
        | cs => rfl
      lists := fun ⟨ht, hc, hp, hcs, hlog⟩ => ⟨ht, hc, hb hp, hcs, hlog⟩ }
  | cs => exact
    { list := fun side x => by
        cases side with
        | cs => exact hl.elim (fun h => Kinds.clash h x) id
        | ps => exact ⟨rfl, rfl⟩
      job := fun side x => by
        cases side with
        | cs => exact hj.elim (fun h => Kinds.clash h x) id
        | ps => rfl
      lists := fun ⟨ht, hc, hp, hcs, hlog⟩ => ⟨ht, hc, hp, hb hcs, hlog⟩ }

/-- A side's list is written, its job left. -/
theorem modSide_keeps_list (h : k (.list side) = true) {p : Plant} {f : ServiceSide → ServiceSide}
    (hj : (f (p.side side)).job = (p.side side).job)
    (hb : (p.side side).list.length ≤ 16 → (f (p.side side)).list.length ≤ 16) : Keeps k p (p.modSide side f) :=
  modSide_keeps (.inl h) (.inr hj) hb

/-- A side's job is written, its list left. -/
theorem modSide_keeps_job (h : k (.job side) = true) {p : Plant} {f : ServiceSide → ServiceSide}
    (hl : (f (p.side side)).list = (p.side side).list ∧ (f (p.side side)).latch = (p.side side).latch) :
    Keeps k p (p.modSide side f) :=
  modSide_keeps (.inr hl) (.inl h) (by rw [hl.1]; exact id)

theorem length_afterEmptyGroup (p : Plant) (l : List ServiceEntry) (e : ServiceEntry) :
    (afterEmptyGroup p l e).length = l.length + 1 := by
  have h := (List.filter_append_perm (inEmptyGroup p) l).length_eq
  simp only [List.length_append] at h
  simp only [afterEmptyGroup, List.length_append, List.length_cons, List.length_nil]
  omega

theorem length_placeEntry (p : Plant) (l : List ServiceEntry) (e : ServiceEntry) :
    (placeEntry p l e).length = l.length + 1 := by
  unfold placeEntry
  split
  · exact length_afterEmptyGroup p l e
  · simp

theorem joinList_keeps (h : k (.list side) = true) (g : Ground) (n : Nat) (p : Plant) : Keeps k p (joinList g n side p) := by
  have full : Keeps k p (p.modSide side fun d => { d with latch := true }) := modSide_keeps_list h rfl id
  unfold joinList
  refine .ite (fun _ => .refl k p) fun _ => .ite (fun _ => .ite (fun _ => full) fun _ => full.trans (raise_keeps ..))
    fun hroom => Keeps.trans (modSide_keeps_list h (by exact rfl) fun _ => ?_) (start_keeps ..)
  rw [length_placeEntry]
  omega

theorem refill_keeps (h : k (.list side) = true) (g : Ground) (p : Plant) : Keeps k p (refill g side p) := by
  have clear : Keeps k p (p.modSide side fun d => { d with latch := false }) := modSide_keeps_list h rfl id
  unfold refill
  dsimp only
  split
  · exact clear.trans (joinList_keeps h g _ _)
  · exact clear

theorem leaveList_keeps (h : k (.list side) = true) (g : Ground) (n : Nat) (p : Plant) : Keeps k p (leaveList g n side p) :=
  .ite
    (fun _ => Keeps.trans
      (modSide_keeps_list h (by exact rfl) fun hb => Nat.le_trans (List.length_filter_le ..) hb) (refill_keeps h g _))
    fun _ => .refl k p

theorem rejudge_keeps (h : k (.list side) = true) (g : Ground) (n : Nat) (p : Plant) : Keeps k p (rejudge g n side p) :=
  .ite (fun _ => joinList_keeps h g n p) fun _ => leaveList_keeps h g n p

theorem takeHead_keeps (h : k.has [.list side, .job side]) (g : Ground) (j : Job) (p : Plant) :
    Keeps k p (takeHead g side j p) :=
  Keeps.trans (modSide_keeps (.inl (h _ (by simp))) (.inl (h _ (by simp))) fun hb => by simp; omega)
    (refill_keeps (h _ (by simp)) g _)

theorem length_regroupSide {p : Plant} {n : Nat} {e : ServiceEntry} {l : List ServiceEntry}
    (h : (l.find? fun e => e.oven = n) = some e) :
    (afterEmptyGroup p (l.filter fun x => x.oven ≠ n) e).length ≤ l.length := by
  have he : e.oven = n := by simpa using List.find?_some h
  have hlt : (l.filter fun x => x.oven ≠ n).length < l.length :=
    List.length_filter_lt_length_iff_exists.2 ⟨e, List.mem_of_find?_eq_some h, by simp [he]⟩
  rw [length_afterEmptyGroup]
  omega

theorem regroupSide_keeps (h : k (.list side) = true) (n : Nat) (p : Plant) : Keeps k p (regroupSide n side p) := by
  refine modSide_keeps_list h ?_ ?_
  · split <;> rfl
  · intro hb
    split
    · exact hb
    · rename_i e he
      exact Nat.le_trans (length_regroupSide he) hb

end

section
variable {k : Kinds} {n : Nat}

theorem rejudgeBoth_keeps (h : k.has [.list .ps, .list .cs]) (g : Ground) (p : Plant) : Keeps k p (rejudgeBoth g n p) :=
  (rejudge_keeps (h _ (by simp)) g n p).trans (rejudge_keeps (h _ (by simp)) g n _)

theorem dropUnqualified_keeps (h : k.has [.list .ps, .list .cs]) (g : Ground) (p : Plant) :
    Keeps k p (dropUnqualified g n p) := by
  unfold dropUnqualified
  exact Keeps.trans (.ite (fun _ => .refl k p) fun _ => leaveList_keeps (h _ (by simp)) g n p)
    (.ite (fun _ => .refl k _) fun _ => leaveList_keeps (h _ (by simp)) g n _)

theorem regroup_keeps (h : k.has [.list .ps, .list .cs]) (p : Plant) : Keeps k p (regroup n p) :=
  (regroupSide_keeps (h _ (by simp)) n p).trans (regroupSide_keeps (h _ (by simp)) n _)

/-! ## Phases -/

theorem phaseInforms_keeps (h : k.has (Kind.ofPhase n)) (g : Ground) (old new : Phase) (p : Plant) :
    Keeps k p (phaseInforms g n old new p) := by
  have ho := h.ovenOfPhase
  have hs : k.has [.list .ps, .list .cs] := h.sub (by simp)
  unfold phaseInforms
  exact (Keeps.ite (fun _ => regroup_keeps hs p) fun _ => .refl k p).trans <|
    (Keeps.ite (fun _ => setDwell_keeps ho g _) fun _ => .refl k _).trans <|
    (Keeps.ite (fun _ => recomputeOven_keeps ho g _) fun _ => .refl k _).trans <|
    (Keeps.ite (fun _ => rejudgeBoth_keeps hs g _) fun _ => .refl k _).trans <|
    (Keeps.ite (fun _ => dropUnqualified_keeps hs g _) fun _ => .refl k _).trans <|
    Keeps.ite (fun _ => start_keeps ..) fun _ => .refl k _

theorem changePhase_keeps (h : k.has (Kind.ofPhase n)) (g : Ground) (new : Phase) (cause : Cause) (p : Plant) :
    Keeps k p (changePhase g n new cause p) :=
  .ite
    (fun _ => (accrue_keeps h.ovenOfPhase g p).trans <| (modOven_keeps_phases (h.sub (by simp)) _ _).trans <|
      (raise_keeps ..).trans (phaseInforms_keeps h g _ new _))
    fun _ => .refl k p

theorem becomeReady_keeps (h : k.has (Kind.ofPhase n)) (g : Ground) (cause : Cause) (p : Plant) :
    Keeps k p (becomeReady g n cause p) := (changePhase_keeps h g .ready cause p).trans (raise_keeps ..)

theorem returnOven_keeps (h : k.has (Kind.ofPhase n)) (g : Ground) (cause : Cause) (p : Plant) :
    Keeps k p (returnOven g n cause p) := by
  have ho := h.ovenOfPhase
  exact (accrue_keeps ho g p).trans <|
    (Keeps.ite (fun _ => becomeReady_keeps h g cause _) fun _ => changePhase_keeps h g .coking cause _).trans <|
    (beginAccrual_keeps ho g _).trans (setOverdue_keeps ho g _)

theorem readinessReached_keeps (h : k.has (Kind.ofPhase n)) (g : Ground) (p : Plant) : Keeps k p (readinessReached g n p) := by
  have ho := h.ovenOfPhase
  unfold readinessReached
  dsimp only
  split
  · refine .ite (fun _ => .refl k p) fun _ => (accrue_keeps ho g p).trans <| .ite ?_ fun _ => recomputeOven_keeps ho g _
    exact fun _ => (becomeReady_keeps h g _ _).trans (recomputeOven_keeps ho g _)
  · exact .refl k p

end

end Sys2Proof.Machine
end

section
/-! SUPPORT. The track unit's operations: the record they leave of a car, what they may write, and that the cars' spans stay apart
(R147, R150 to R152) and the water with the car that quenches (R157, R158). -/

namespace Sys2Proof.Machine

open Sys2Proof.Safety

/-! ## Cars -/

@[simp] theorem otherCar_ne (c : Car) : otherCar c ≠ c := by cases c <;> decide
@[simp] theorem ne_otherCar (c : Car) : c ≠ otherCar c := by cases c <;> decide
@[simp] theorem otherCar_otherCar (c : Car) : otherCar (otherCar c) = c := by cases c <;> rfl

theorem eq_otherCar {c d : Car} (h : d ≠ c) : d = otherCar c := by cases c <;> cases d <;> first | rfl | exact absurd rfl h

theorem modCar_car (p : Plant) (c d : Car) (f : CarRecord → CarRecord) :
    (p.modCar c f).car d = if d = c then f (p.car c) else p.car d := by
  cases c <;> cases d <;> rfl

@[simp] theorem modCar_car_same (p : Plant) (c : Car) (f : CarRecord → CarRecord) : (p.modCar c f).car c = f (p.car c) := by
  cases c <;> rfl

@[simp] theorem modCar_car_other (p : Plant) (c : Car) (f : CarRecord → CarRecord) :
    (p.modCar c f).car (otherCar c) = p.car (otherCar c) := by
  cases c <;> rfl

@[simp] theorem raise_car (g : Ground) (b : NoticeBody) (p : Plant) (c : Car) : (raise g b p).car c = p.car c := by
  cases c <;> rfl

@[simp] theorem send_car (m : Machine) (r : ToMachine) (p : Plant) (c : Car) : (send m r p).car c = p.car c := by
  cases c <;> rfl

@[simp] theorem start_car (t : Task) (p : Plant) (c : Car) : (start t p).car c = p.car c := by
  cases c <;> rfl

@[simp] theorem setSpray_car (p : Plant) (c d : Car) (on : Bool) : (p.setSpray c on).car d = p.car d := by
  cases c <;> cases d <;> rfl

/-- A change of state writes the state. -/
theorem setCarState_car (g : Ground) (c : Car) (new : CarState) (p : Plant) (d : Car) :
    (setCarState g c new p).car d = (p.modCar c fun r => { r with state := new }).car d := by
  unfold setCarState
  dsimp only
  split
  · rename_i h
    rw [modCar_car]
    split
    · rename_i hd
      rw [hd, ← h]
    · rfl
  · split <;> simp

@[simp] theorem setCarState_car_same (g : Ground) (c : Car) (new : CarState) (p : Plant) :
    (setCarState g c new p).car c = { p.car c with state := new } := by
  rw [setCarState_car, modCar_car_same]

@[simp] theorem setCarState_car_other (g : Ground) (c : Car) (new : CarState) (p : Plant) :
    (setCarState g c new p).car (otherCar c) = p.car (otherCar c) := by
  rw [setCarState_car, modCar_car_other]

@[simp] theorem lookForGrant_car (g : Ground) (p : Plant) (c : Car) : (lookForGrant g p).car c = p.car c := by
  unfold lookForGrant
  split
  · rfl
  · split
    · rfl
    · rw [setSpray_car]
      cases c <;> rfl

@[simp] theorem requestWater_car (g : Ground) (c : Car) (p : Plant) (d : Car) : (requestWater g c p).car d = p.car d := by
  unfold requestWater
  rw [lookForGrant_car]
  split
  · rfl
  · cases d <;> rfl

@[simp] theorem sendStops_car (ms : List Machine) (p : Plant) (c : Car) : (sendStops ms p).car c = p.car c :=
  (sendStops_keeps (fun _ => false) ms p).car c rfl

/-! ## What the track's operations may write -/

section
variable {k : Kinds} {c : Car}

theorem modCar_writes (h : k (.car c) = true) (f : CarRecord → CarRecord) (p : Plant) : Writes k p (p.modCar c f) := by
  cases c with
  | a => exact
    { car := fun d x => by
        cases d with
        | a => exact Kinds.clash h x
        | b => rfl }
  | b => exact
    { car := fun d x => by
        cases d with
        | a => rfl
        | b => exact Kinds.clash h x }

theorem setSpray_writes (h : k .water = true) (c : Car) (on : Bool) (p : Plant) : Writes k p (p.setSpray c on) := by
  cases c <;> exact { spray := fun x => Kinds.clash h x }

/-- The arbiter's fields are written. -/
theorem water_writes (h : k .water = true) (p : Plant) (grant : Option Car) (waiting : List Car) (hold : Bool) :
    Writes k p { p with grant := grant, waiting := waiting, trackHold := hold } where
  grant x := Kinds.clash h x
  waiting x := Kinds.clash h x
  trackHold x := Kinds.clash h x

theorem setCarState_writes (h : k (.car c) = true) (g : Ground) (new : CarState) (p : Plant) :
    Writes k p (setCarState g c new p) := by
  have hc : ∀ b, Writes k p (raise g b (p.modCar c fun r => { r with state := new })) := fun b =>
    (modCar_writes h _ p).trans (raise_keeps ..).toWrites
  unfold setCarState
  dsimp only
  split
  · exact .refl k p
  · split
    · exact (hc _).trans (start_keeps ..).toWrites
    · exact hc _

theorem lookForGrant_writes (h : k .water = true) (g : Ground) (p : Plant) : Writes k p (lookForGrant g p) := by
  unfold lookForGrant
  split
  · exact .refl k p
  · split
    · exact .refl k p
    · exact (water_writes h p _ _ p.trackHold).trans (setSpray_writes h _ _ _)

theorem requestWater_writes (h : k .water = true) (g : Ground) (c : Car) (p : Plant) : Writes k p (requestWater g c p) := by
  unfold requestWater
  split
  · exact lookForGrant_writes h g p
  · exact (water_writes h p p.grant _ p.trackHold).trans (lookForGrant_writes h g _)

/-- What an operation on one car and the water writes. -/
abbrev Kind.ofCar (c : Car) : List Kind := [.car c, .water]

theorem arrive_writes (h : k.has (Kind.ofCar c)) (g : Ground) (x : Nat) (p : Plant) : Writes k p (arrive g c x p) := by
  have hc : k (.car c) = true := h _ (by simp)
  have hw : k .water = true := h _ (by simp)
  unfold arrive
  dsimp only
  refine (modCar_writes hc (fun r => { r with target := none, span := some (x, x) }) p).trans ?_
  split
  · split
    · exact (setCarState_writes hc g _ _).trans (start_keeps ..).toWrites
    · exact setCarState_writes hc g _ _
  · exact (setCarState_writes hc g _ _).trans (requestWater_writes hw g c _)
  · split
    · exact (setCarState_writes hc g _ _).trans (send_keeps ..).toWrites
    · exact setCarState_writes hc g _ _
  · exact .refl k _

theorem requestTarget_writes (h : k.has (Kind.ofCar c)) (g : Ground) (x : Nat) (p : Plant) :
    Writes k p (requestTarget g c x p) := by
  have hc : k (.car c) = true := h _ (by simp)
  unfold requestTarget
  dsimp only
  split
  · exact modCar_writes hc _ p
  · split
    · split
      · exact (modCar_writes hc _ p).trans (arrive_writes h g x _)
      · exact (modCar_writes hc _ p).trans (send_keeps ..).toWrites
    · exact modCar_writes hc _ p

theorem faultCar_writes (h : k.has (Kind.ofCar c)) (g : Ground) (reason : CarFault) (p : Plant) :
    Writes k p (faultCar g c reason p) := by
  have hc : k (.car c) = true := h _ (by simp)
  have hw : k .water = true := h _ (by simp)
  have stops : Writes k p
      (if (reason = .overrun || reason = .order : Bool) then sendStops [.qa, .qb] { p with trackHold := true }
      else send (carMachine c) .stop p) := by
    split
    · exact (water_writes hw p p.grant p.waiting true).trans (sendStops_keeps ..).toWrites
    · exact (send_keeps ..).toWrites
  have sprays : ∀ (b : Bool) (q : Plant), Writes k q (if b then q.setSpray c false else q) := fun b q => by
    split
    · exact setSpray_writes hw c false q
    · exact .refl k q
  have told : ∀ (o : Option Nat) (q : Plant), Writes k q
      (match o with
      | some num => start (.carFaulted c num reason) q
      | none => q) := fun o q => by
    cases o with
    | none => exact .refl k q
    | some num => exact (start_keeps ..).toWrites
  unfold faultCar
  dsimp only
  split
  · exact (raise_keeps ..).toWrites
  · exact stops.trans <| (modCar_writes hc _ _).trans <| (water_writes hw _ _ _ _).trans <| (sprays _ _).trans <|
      (setCarState_writes hc g _ _).trans <| (raise_keeps ..).toWrites.trans <| told _ _

end

/-! ## The cars' spans -/

/-- A car's span lies on its own side of the other car's (R147, R150). -/
def Apart : Car → Option (Nat × Nat) → Option (Nat × Nat) → Prop
  | .a, s, o => ∀ l h l' h', s = some (l, h) → o = some (l', h') → h < l'
  | .b, s, o => ∀ l h l' h', s = some (l, h) → o = some (l', h') → h' < l

theorem Plant.spansApart_iff (p : Plant) (c : Car) :
    p.SpansApart ↔ CarSound (p.car c) ∧ CarSound (p.car (otherCar c)) ∧ Apart c (p.car c).span (p.car (otherCar c)).span := by
  cases c with
  | a => exact Iff.rfl
  | b =>
    constructor
    · rintro ⟨ha, hb, hab⟩
      exact ⟨hb, ha, fun l h l' h' e e' => hab l' h' l h e' e⟩
    · rintro ⟨hb, ha, hab⟩
      exact ⟨ha, hb, fun l h l' h' e e' => hab l' h' l h e' e⟩

theorem Apart.none (c : Car) (o : Option (Nat × Nat)) : Apart c none o := by
  cases c <;> intro l h l' h' e <;> cases e

/-- A span within another is apart from whatever that one is. -/
theorem Apart.shrink {c : Car} {l h l' h' : Nat} {o : Option (Nat × Nat)} (ha : Apart c (some (l, h)) o) (hl : l ≤ l')
    (hh : h' ≤ h) : Apart c (some (l', h')) o := by
  cases c with
  | a =>
    rintro a b a' b' e e'
    cases e
    have := ha l h a' b' rfl e'
    omega
  | b =>
    rintro a b a' b' e e'
    cases e
    have := ha l h a' b' rfl e'
    omega

/-- A stretch clear of the other car's span is apart from it. -/
theorem Apart.of_clearOfSpan {c : Car} {lo hi : Nat} {o : Option (Nat × Nat)} (h : clearOfSpan c lo hi o = true) :
    Apart c (some (lo, hi)) o := by
  cases c with
  | a =>
    rintro a b a' b' e rfl
    cases e
    simp only [clearOfSpan, onOwnSide, Bool.and_eq_true, decide_eq_true_eq] at h
    exact h.1
  | b =>
    rintro a b a' b' e rfl
    cases e
    simp only [clearOfSpan, onOwnSide, Bool.and_eq_true, decide_eq_true_eq] at h
    exact h.2

theorem Apart.of_clearStretch {g : Ground} {p : Plant} {c : Car} {lo hi : Nat} (h : clearStretch g p c lo hi = true) :
    Apart c (some (lo, hi)) (p.car (otherCar c)).span := by
  unfold clearStretch at h
  rw [Bool.and_eq_true] at h
  exact .of_clearOfSpan h.1

theorem Apart.of_ordered {g : Ground} {p : Plant} {c : Car} {x : Nat} (h : ordered g p c x = true) :
    Apart c (some (x, x)) (p.car (otherCar c)).span := by
  unfold ordered at h
  simp only [Bool.and_eq_true] at h
  exact .of_clearOfSpan h.1.2

/-- The spans depend on the cars alone. -/
theorem Plant.SpansApart.congr {p q : Plant} (hs : p.SpansApart) (h : ∀ c, q.car c = p.car c) : q.SpansApart := by
  rw [q.spansApart_iff .a, h, h]
  exact (p.spansApart_iff .a).1 hs

theorem Plant.SpansApart.sound {p : Plant} (hs : p.SpansApart) (c : Car) : CarSound (p.car c) :=
  ((p.spansApart_iff c).1 hs).1

/-- One car's record is written, its span apart from the other's. -/
theorem modCar_spans {p : Plant} {c : Car} {f : CarRecord → CarRecord} (hs : p.SpansApart) (hf : CarSound (f (p.car c)))
    (ha : Apart c (f (p.car c)).span (p.car (otherCar c)).span) : (p.modCar c f).SpansApart := by
  rw [Plant.spansApart_iff _ c, modCar_car_same, modCar_car_other]
  exact ⟨hf, ((p.spansApart_iff c).1 hs).2.1, ha⟩

/-- One car's record is written, its span as it was. -/
theorem modCar_spans_same {p : Plant} {c : Car} {f : CarRecord → CarRecord} (hs : p.SpansApart) (hf : CarSound (f (p.car c)))
    (h : (f (p.car c)).span = (p.car c).span) : (p.modCar c f).SpansApart :=
  modCar_spans hs hf (by rw [h]; exact ((p.spansApart_iff c).1 hs).2.2)

/-- What a sound record keeps does not depend on flags, binding, timers other than the drain timer, and reason. -/
theorem carSound_congr {r r' : CarRecord} (h : CarSound r) (hp : r'.position = r.position) (hs : r'.span = r.span)
    (ht : r'.target = r.target) (hst : r'.state = r.state) (hd : r'.drain = r.drain) : CarSound r' where
  unknown := by rw [hp, hs]; exact h.unknown
  bounds := by rw [hs]; exact h.bounds
  granted := by rw [ht, hs]; exact h.granted
  within := by rw [hst, hp, hs]; exact h.within
  faulted := by rw [hst, ht, hd]; exact h.faulted

/-- A car not in FAULT changes to a state other than FAULT. -/
theorem carSound_withState {r : CarRecord} (h : CarSound r) (hf : r.state ≠ .fault) {new : CarState} (hn : new ≠ .fault) :
    CarSound { r with state := new } where
  unknown := h.unknown
  bounds := h.bounds
  granted := h.granted
  within _ := h.within hf
  faulted e := absurd e hn

/-- A car at a known position that is given a span about it, and a target within the span or not granted. -/
theorem carSound_ofSpan {r : CarRecord} {x l h : Nat} (hp : r.position = some x) (hs : r.span = some (l, h)) (hl : l ≤ x)
    (hh : x ≤ h) (ht : ∀ y, r.target = some { position := y, granted := true } → l ≤ y ∧ y ≤ h)
    (hf : r.state = .fault → r.target = none ∧ r.drain = none) : CarSound r where
  unknown e := by rw [hp] at e; cases e
  bounds a b e := by
    rw [hs] at e
    cases e
    omega
  granted y e := ⟨l, h, hs, ht y e⟩
  within _ y a b e e' := by
    rw [hp] at e
    rw [hs] at e'
    cases e
    cases e'
    exact ⟨hl, hh⟩
  faulted := hf

/-- A car that pends for a target, or has none. -/
theorem carSound_ungranted {r : CarRecord} (h : CarSound r) {t : Option Target} (ht : ∀ x, t ≠ some { position := x, granted := true })
    (hf : r.state = .fault → t = none) : CarSound { r with target := t } where
  unknown := h.unknown
  bounds := h.bounds
  granted x e := absurd e (ht x)
  within := h.within
  faulted e := ⟨hf e, (h.faulted e).2⟩

theorem setCarState_spans {g : Ground} {c : Car} {new : CarState} {p : Plant} (hs : p.SpansApart)
    (hf : (p.car c).state ≠ .fault) (hn : new ≠ .fault) : (setCarState g c new p).SpansApart :=
  Plant.SpansApart.congr (modCar_spans_same hs (carSound_withState (hs.sound c) hf hn) rfl) (setCarState_car g c new p)

theorem inSpan_iff {x : Nat} {s : Option (Nat × Nat)} : inSpan x s = true ↔ ∃ l h, s = some (l, h) ∧ l ≤ x ∧ x ≤ h := by
  cases s with
  | none => simp [inSpan]
  | some s =>
    obtain ⟨l, h⟩ := s
    simp only [inSpan, Bool.and_eq_true, decide_eq_true_eq, Option.some.injEq, Prod.mk.injEq]
    exact ⟨fun e => ⟨l, h, ⟨rfl, rfl⟩, e⟩, fun ⟨_, _, ⟨rfl, rfl⟩, e⟩ => e⟩

/-- A car that stands where it is has a span apart from the other's, where its span before held it. -/
theorem Plant.SpansApart.stands {p : Plant} {c : Car} {x : Nat} (hs : p.SpansApart) (hin : inSpan x (p.car c).span = true) :
    Apart c (some (x, x)) (p.car (otherCar c)).span := by
  obtain ⟨l, h, he, hl, hh⟩ := inSpan_iff.1 hin
  have ha := ((p.spansApart_iff c).1 hs).2.2
  rw [he] at ha
  exact ha.shrink hl hh

theorem arrive_spans {g : Ground} {c : Car} {x : Nat} {p : Plant} (hs : p.SpansApart) (hf : (p.car c).state ≠ .fault)
    (hp : (p.car c).position = some x) (hin : inSpan x (p.car c).span = true) : (arrive g c x p).SpansApart := by
  have h1 : (p.modCar c fun r => { r with target := none, span := some (x, x) }).SpansApart :=
    modCar_spans hs
      (carSound_ofSpan (x := x) (l := x) (h := x) hp rfl (Nat.le_refl x) (Nat.le_refl x) nofun fun e => absurd e hf) (hs.stands hin)
  have hf1 : ((p.modCar c fun r => { r with target := none, span := some (x, x) }).car c).state ≠ .fault := by simpa using hf
  have states : ∀ new, new ≠ .fault →
      (setCarState g c new (p.modCar c fun r => { r with target := none, span := some (x, x) })).SpansApart :=
    fun new hn => setCarState_spans h1 hf1 hn
  unfold arrive
  dsimp only
  split
  · split
    · exact (states _ (by decide)).congr fun _ => start_car ..
    · exact states _ (by decide)
  · exact (states _ (by decide)).congr fun _ => requestWater_car ..
  · split
    · exact (states _ (by decide)).congr fun _ => send_car ..
    · exact states _ (by decide)
  · exact h1

theorem requestTarget_spans {g : Ground} {c : Car} {x : Nat} {p : Plant} (hs : p.SpansApart) (hf : (p.car c).state ≠ .fault) :
    (requestTarget g c x p).SpansApart := by
  have pending : (p.modCar c fun r => { r with target := some { position := x, granted := false } }).SpansApart :=
    modCar_spans_same hs (carSound_ungranted (hs.sound c) (by simp) fun e => absurd e hf) rfl
  unfold requestTarget
  dsimp only
  split
  · exact pending
  · rename_i y hy
    split
    · rename_i hgo
      have hclear : clearStretch g p c (min x y) (max x y) = true := by
        simp only [Bool.and_eq_true] at hgo
        exact hgo.2
      have granted : (p.modCar c fun r =>
          { r with span := some (min x y, max x y), target := some { position := x, granted := true } }).SpansApart := by
        refine modCar_spans hs (carSound_ofSpan (x := y) (l := min x y) (h := max x y) hy rfl (Nat.min_le_right ..) (Nat.le_max_right ..) ?_
          fun e => absurd e hf) (.of_clearStretch hclear)
        rintro z ⟨⟩
        exact ⟨Nat.min_le_left .., Nat.le_max_left ..⟩
      split
      · rename_i hat
        have hyx : y = x := by
          simp only [Bool.and_eq_true, decide_eq_true_eq] at hat
          exact hat.1
        exact arrive_spans granted (by simpa using hf) (by simpa [hyx] using hy) (by simp [inSpan])
      · exact granted.congr fun _ => send_car ..
    · exact pending

/-- The record that a fault leaves of a car not in FAULT. -/
def faultRecord (reason : CarFault) (r : CarRecord) : CarRecord :=
  { r with target := none, drain := none, hot := none, fault := some reason, state := .fault }

/-- Change one car of plants that agree on the cars, and they agree. -/
theorem modCar_car_congr {p q : Plant} {c : Car} {f f' : CarRecord → CarRecord} (h : ∀ e, q.car e = p.car e)
    (hf : f (p.car c) = f' (p.car c)) (d : Car) : (q.modCar c f).car d = (p.modCar c f').car d := by
  rw [modCar_car, modCar_car, h, h, hf]

/-- A car not in FAULT enters it; the other car's record is as it was (R160). -/
theorem faultCar_car {g : Ground} {c : Car} {reason : CarFault} {p : Plant} (hf : (p.car c).state ≠ .fault) (d : Car) :
    (faultCar g c reason p).car d = (p.modCar c (faultRecord reason)).car d := by
  have told : ∀ (o : Option Nat) (q : Plant), Plant.car
      (match o with
      | some num => start (.carFaulted c num reason) q
      | none => q) d = q.car d := fun o q => by
    cases o <;> simp
  have sprays : ∀ (b : Bool) (q : Plant) (e : Car), (if b then q.setSpray c false else q).car e = q.car e := fun b q e => by
    cases b <;> simp
  have stops : ∀ (b : Bool) (e : Car), (if b then sendStops [.qa, .qb] { p with trackHold := true }
      else send (carMachine c) .stop p).car e = p.car e := fun b e => by
    cases b
    · simp
    · rw [if_pos rfl, sendStops_car]
      cases e <;> rfl
  have water : ∀ (q : Plant) (w : List Car) (e : Car), ({ q with waiting := w } : Plant).car e = q.car e := fun q w e => by
    cases e <;> rfl
  have cleared : ∀ q : Plant, (∀ e, q.car e =
        (p.modCar c fun r => { r with target := none, drain := none, hot := none, fault := some reason }).car e) →
      (q.modCar c fun r => { r with state := .fault }).car d = (p.modCar c (faultRecord reason)).car d := fun q hq => by
    by_cases hd : d = c
    · rw [hd, modCar_car_same, modCar_car_same, hq, modCar_car_same]
      rfl
    · rw [eq_otherCar hd, modCar_car_other, modCar_car_other, hq, modCar_car_other]
  unfold faultCar
  dsimp only
  rw [if_neg hf]
  refine (told _ _).trans ((raise_car ..).trans ((setCarState_car ..).trans (cleared _ fun e => ?_)))
  exact (sprays _ _ e).trans ((water _ _ e).trans (modCar_car_congr (stops _) rfl e))

/-- A car enters FAULT, wherever it stands. -/
theorem faultCar_spans_loose {g : Ground} {c : Car} {reason : CarFault} {p : Plant} (hf : (p.car c).state ≠ .fault)
    (hs : (p.modCar c (faultRecord reason)).SpansApart) : (faultCar g c reason p).SpansApart :=
  hs.congr (faultCar_car hf)

/-- A sound record stays so as its car enters FAULT. -/
theorem carSound_faultRecord {r : CarRecord} (h : CarSound r) (reason : CarFault) : CarSound (faultRecord reason r) where
  unknown := h.unknown
  bounds := h.bounds
  granted _ e := nomatch e
  within e := absurd rfl e
  faulted _ := ⟨rfl, rfl⟩

theorem faultCar_spans {g : Ground} {c : Car} {reason : CarFault} {p : Plant} (hs : p.SpansApart) :
    (faultCar g c reason p).SpansApart := by
  by_cases hf : (p.car c).state = .fault
  · unfold faultCar
    dsimp only
    rw [if_pos hf]
    exact hs.congr fun _ => raise_car ..
  · exact faultCar_spans_loose hf (modCar_spans_same hs (carSound_faultRecord (hs.sound c) reason) rfl)

/-! ## The water -/

/-- No car begins to quench, and a grant given stays given. -/
structure WaterStays (p q : Plant) : Prop where
  quenching : ∀ c, (q.car c).state = .quenching → (p.car c).state = .quenching
  grant : ∀ c, p.grant = some c → q.grant = some c

theorem WaterStays.held {p q : Plant} (h : WaterStays p q) (hp : p.WaterHeld) : q.WaterHeld :=
  fun c hc => h.grant c (hp c (h.quenching c hc))

theorem WaterStays.refl (p : Plant) : WaterStays p p := ⟨fun _ => id, fun _ => id⟩

theorem WaterStays.trans {p q r : Plant} (h : WaterStays p q) (h' : WaterStays q r) : WaterStays p r :=
  ⟨fun c hc => h.quenching c (h'.quenching c hc), fun c hc => h'.grant c (h.grant c hc)⟩

/-- An operation that leaves cars and grant alone. -/
theorem WaterStays.of_eq {p q : Plant} (hc : ∀ c, q.car c = p.car c) (hg : q.grant = p.grant) : WaterStays p q :=
  ⟨fun c => by rw [hc]; exact id, fun c => by rw [hg]; exact id⟩

theorem raise_waterStays (g : Ground) (b : NoticeBody) (p : Plant) : WaterStays p (raise g b p) := .of_eq (raise_car g b p) rfl
theorem send_waterStays (m : Machine) (r : ToMachine) (p : Plant) : WaterStays p (send m r p) := .of_eq (send_car m r p) rfl
theorem start_waterStays (t : Task) (p : Plant) : WaterStays p (start t p) := .of_eq (start_car t p) rfl

theorem modCar_waterStays {c : Car} {f : CarRecord → CarRecord} {p : Plant}
    (h : (f (p.car c)).state = .quenching → (p.car c).state = .quenching) : WaterStays p (p.modCar c f) where
  quenching d := by
    rw [modCar_car]
    split
    · rename_i e
      rw [e]
      exact h
    · exact id
  grant d := by simp

theorem setSpray_waterStays (c : Car) (on : Bool) (p : Plant) : WaterStays p (p.setSpray c on) :=
  .of_eq (fun d => setSpray_car p c d on) (by simp)

@[simp] theorem setCarState_grant (g : Ground) (c : Car) (new : CarState) (p : Plant) :
    (setCarState g c new p).grant = p.grant := by
  unfold setCarState
  dsimp only
  split
  · rfl
  · split <;> simp

theorem setCarState_waterStays (g : Ground) {c : Car} {new : CarState} (h : new ≠ .quenching) (p : Plant) :
    WaterStays p (setCarState g c new p) where
  quenching d := by
    rw [setCarState_car, modCar_car]
    split
    · exact fun e => absurd e h
    · exact id
  grant d := by simp

theorem lookForGrant_waterStays (g : Ground) (p : Plant) : WaterStays p (lookForGrant g p) where
  quenching d := by simp
  grant d h := by
    unfold lookForGrant
    rw [h]
    exact h

theorem requestWater_waterStays (g : Ground) (c : Car) (p : Plant) : WaterStays p (requestWater g c p) := by
  unfold requestWater
  split
  · exact lookForGrant_waterStays g p
  · exact WaterStays.trans (q := { p with waiting := p.waiting ++ [c] }) (.of_eq (fun d => by cases d <;> rfl) rfl)
      (lookForGrant_waterStays g _)

theorem arrive_waterStays (g : Ground) (c : Car) (x : Nat) (p : Plant) : WaterStays p (arrive g c x p) := by
  unfold arrive
  dsimp only
  refine (modCar_waterStays (c := c) (f := fun r => { r with target := none, span := some (x, x) }) id).trans ?_
  split
  · split
    · exact (setCarState_waterStays g (by decide) _).trans (start_waterStays ..)
    · exact setCarState_waterStays g (by decide) _
  · exact (setCarState_waterStays g (by decide) _).trans (requestWater_waterStays ..)
  · split
    · exact (setCarState_waterStays g (by decide) _).trans (send_waterStays ..)
    · exact setCarState_waterStays g (by decide) _
  · exact .refl _

theorem requestTarget_waterStays (g : Ground) (c : Car) (x : Nat) (p : Plant) : WaterStays p (requestTarget g c x p) := by
  unfold requestTarget
  dsimp only
  split
  · exact modCar_waterStays id
  · split
    · split
      · exact .trans (modCar_waterStays id) (arrive_waterStays ..)
      · exact .trans (modCar_waterStays id) (send_waterStays ..)
    · exact modCar_waterStays id

theorem sendStops_waterStays (ms : List Machine) (p : Plant) : WaterStays p (sendStops ms p) :=
  .of_eq (sendStops_car ms p) ((sendStops_keeps (fun _ => false) ms p).grant rfl)

theorem faultCar_waterStays (g : Ground) (c : Car) (reason : CarFault) (p : Plant) : WaterStays p (faultCar g c reason p) := by
  have stops : WaterStays p
      (if (reason = .overrun || reason = .order : Bool) then sendStops [.qa, .qb] { p with trackHold := true }
      else send (carMachine c) .stop p) := by
    split
    · exact WaterStays.trans (q := { p with trackHold := true }) (.of_eq (fun d => by cases d <;> rfl) rfl)
        (sendStops_waterStays _ _)
    · exact send_waterStays ..
  have waits : ∀ (w : List Car) (q : Plant), WaterStays q { q with waiting := w } := fun w q =>
    .of_eq (fun d => by cases d <;> rfl) rfl
  have sprays : ∀ (b : Bool) (q : Plant), WaterStays q (if b then q.setSpray c false else q) := fun b q => by
    split
    · exact setSpray_waterStays c false q
    · exact .refl q
  have told : ∀ (o : Option Nat) (q : Plant), WaterStays q
      (match o with
      | some num => start (.carFaulted c num reason) q
      | none => q) := fun o q => by
    cases o with
    | none => exact .refl q
    | some num => exact start_waterStays ..
  unfold faultCar
  dsimp only
  split
  · exact raise_waterStays ..
  · exact stops.trans <| (modCar_waterStays id).trans <| (waits _ _).trans <| (sprays _ _).trans <|
      (setCarState_waterStays g (by decide) _).trans <| (raise_waterStays ..).trans <| told _ _

end Sys2Proof.Machine
end

section
/-! SUPPORT. The track unit's operations keep the bounds of the lists and the safety of the track (`Keeps`). -/

namespace Sys2Proof.Machine

open Sys2Proof.Safety

/-! ## From the three parts -/

/-- The kinds an operation on one car writes, and no other. -/
def Kinds.track : Kinds
  | .car _ | .water => true
  | _ => false

/-- An operation of the track unit keeps the lists, since it writes none. -/
theorem Keeps.ofCar {k : Kinds} {c : Car} {p q : Plant} (h : k.has (Kind.ofCar c))
    (w : ∀ {k : Kinds}, k.has (Kind.ofCar c) → Writes k p q) (spans : p.SpansApart → q.SpansApart)
    (water : p.WaterHeld → q.WaterHeld) : Keeps k p q where
  toWrites := w h
  lists hl := by
    have t : Writes Kinds.track p q := w (by simp [Kinds.has, Kinds.track])
    obtain ⟨tickets, catchup, ps, cs, log⟩ := hl
    exact ⟨by rw [t.tickets rfl]; exact tickets, by rw [t.catchup rfl]; exact catchup,
      by rw [show q.psSide.list = p.psSide.list from (t.list .ps rfl).1]; exact ps,
      by rw [show q.csSide.list = p.csSide.list from (t.list .cs rfl).1]; exact cs, by rw [t.log rfl]; exact log⟩
  spans := spans
  water := water

section
variable {k : Kinds} {c : Car}

theorem Kinds.has.car (h : k.has (Kind.ofCar c)) : k (.car c) = true := h _ (by simp)
theorem Kinds.has.water (h : k.has (Kind.ofCar c)) : k .water = true := h _ (by simp)

/-- A car's record is written, its span as it was. -/
theorem modCar_keeps (h : k.has (Kind.ofCar c)) {f : CarRecord → CarRecord} {p : Plant}
    (sound : CarSound (p.car c) → CarSound (f (p.car c))) (span : (f (p.car c)).span = (p.car c).span)
    (state : (f (p.car c)).state = .quenching → (p.car c).state = .quenching) : Keeps k p (p.modCar c f) :=
  .ofCar h (fun h => modCar_writes h.car f p) (fun hs => modCar_spans_same hs (sound (hs.sound c)) span)
    (modCar_waterStays state).held

/-- A car changes to a state other than QUENCHING and FAULT. -/
theorem setCarState_keeps (h : k.has (Kind.ofCar c)) (g : Ground) {new : CarState} {p : Plant}
    (hf : (p.car c).state ≠ .fault) (hn : new ≠ .fault) (hq : new ≠ .quenching) : Keeps k p (setCarState g c new p) :=
  .ofCar h (fun h => setCarState_writes h.car g new p) (fun hs => setCarState_spans hs hf hn)
    (setCarState_waterStays g hq p).held

theorem requestTarget_keeps (h : k.has (Kind.ofCar c)) (g : Ground) (x : Nat) {p : Plant} (hf : (p.car c).state ≠ .fault) :
    Keeps k p (requestTarget g c x p) :=
  .ofCar h (fun h => requestTarget_writes h g x p) (fun hs => requestTarget_spans hs hf)
    (requestTarget_waterStays g c x p).held

theorem faultCar_keeps (h : k.has (Kind.ofCar c)) (g : Ground) (reason : CarFault) (p : Plant) :
    Keeps k p (faultCar g c reason p) :=
  .ofCar h (fun h => faultCar_writes h g reason p) faultCar_spans (faultCar_waterStays g c reason p).held

theorem setSpray_keeps (h : k.has (Kind.ofCar c)) (on : Bool) (p : Plant) : Keeps k p (p.setSpray c on) :=
  .ofCar h (fun h => setSpray_writes h.water c on p) (fun hs => hs.congr fun d => setSpray_car p c d on)
    (setSpray_waterStays c on p).held

/-- A car that enters a running state runs to its target. -/
theorem setCarState_requestTarget_keeps (h : k.has (Kind.ofCar c)) (g : Ground) {new : CarState} {p : Plant}
    (hf : (p.car c).state ≠ .fault) (hn : new ≠ .fault) (hq : new ≠ .quenching) (x : Nat) :
    Keeps k p (requestTarget g c x (setCarState g c new p)) :=
  (setCarState_keeps h g hf hn hq).trans (requestTarget_keeps h g x (by simpa using hn))

theorem runToTower_keeps (h : k.has (Kind.ofCar c)) (g : Ground) {p : Plant} (hf : (p.car c).state ≠ .fault) :
    Keeps k p (runToTower g c p) :=
  setCarState_requestTarget_keeps h g hf (by decide) (by decide) _

theorem setHot_keeps (h : k.has (Kind.ofCar c)) (g : Ground) (p : Plant) : Keeps k p (setHot g c p) :=
  modCar_keeps h (fun hs => carSound_congr hs rfl rfl rfl rfl rfl) rfl id

@[simp] theorem setHot_state (g : Ground) (c : Car) (p : Plant) : ((setHot g c p).car c).state = (p.car c).state := by
  unfold setHot
  rw [modCar_car_same]

/-- A loaded car runs to its tower under its hot dwell timer. -/
theorem runHot_keeps (h : k.has (Kind.ofCar c)) (g : Ground) {p : Plant} (hf : (p.car c).state ≠ .fault) :
    Keeps k p (runToTower g c (setHot g c p)) :=
  (setHot_keeps h g p).trans (runToTower_keeps h g (by simpa using hf))

theorem startRun_keeps (h : k.has (Kind.ofCar c)) (g : Ground) (n : Nat) {p : Plant} (hf : (p.car c).state ≠ .fault) :
    Keeps k p (startRun g c n p) := by
  unfold startRun
  dsimp only
  split
  · exact (setCarState_keeps h g hf (by decide) (by decide)).trans (start_keeps ..)
  · split
    · exact setCarState_requestTarget_keeps h g hf (by decide) (by decide) _
    · exact .refl k p

/-- The car's binding is written. -/
theorem setBound_keeps (h : k.has (Kind.ofCar c)) (b : Option Nat) (p : Plant) :
    Keeps k p (p.modCar c fun r => { r with bound := b }) :=
  modCar_keeps h (fun hs => carSound_congr hs rfl rfl rfl rfl rfl) rfl id

theorem bindCar_keeps (h : k.has (Kind.ofCar c)) (g : Ground) (num n : Nat) (p : Plant) :
    Keeps k p (bindCar g c num n p) := by
  unfold bindCar
  dsimp only
  split
  · rename_i hs
    exact (setBound_keeps h _ p).trans (startRun_keeps h g n (by simp [hs]))
  · exact setBound_keeps h _ p

theorem unbindCar_keeps (h : k.has (Kind.ofCar c)) (g : Ground) (faultHeld : Bool) (p : Plant) :
    Keeps k p (unbindCar g c faultHeld p) := by
  have free : ∀ q : Plant, Keeps k q (if bindable q c then start .evaluate q else q) := fun q =>
    .ite (fun _ => start_keeps ..) fun _ => .refl k q
  unfold unbindCar
  dsimp only
  refine (setBound_keeps h none p).trans ?_
  generalize p.modCar c (fun r => { r with bound := none }) = p
  split
  · exact free p
  · exact free p
  · exact free p
  · rename_i hs
    split
    · exact runHot_keeps h g (by simp [hs])
    · split
      · exact .refl k p
      · refine (modCar_keeps (f := fun r => { r with target := none }) h ?_ rfl id).trans
          (setCarState_keeps h g (by simp [hs]) (by decide) (by decide))
        exact fun sound => carSound_ungranted sound nofun fun _ => rfl
  · rename_i hs
    split
    · exact runHot_keeps h g (by simp [hs])
    · exact setCarState_keeps h g (by simp [hs]) (by decide) (by decide)
  · rename_i hs
    split
    · exact runToTower_keeps h g (by simp [hs])
    · exact runHot_keeps h g (by simp [hs])
  · exact .refl k p

theorem letCarGo_keeps (h : k.has (Kind.ofCar c)) (g : Ground) (p : Plant) : Keeps k p (letCarGo g c p) :=
  .ite (fun hs => runToTower_keeps h g (by simp [hs])) fun _ => .refl k p

theorem sendReceive_keeps (k : Kinds) (c : Car) (n : Nat) (p : Plant) : Keeps k p (sendReceive c n p) :=
  .ite (fun _ => send_keeps ..) fun _ => .refl k p

/-! ## Position reports -/

/-- A car's record as a report writes it (R145). -/
def reported (x : Nat) (moving loaded : Bool) (r : CarRecord) : CarRecord :=
  { r with position := some x, moving := moving, loaded := loaded }

theorem modCar_modCar (p : Plant) (c : Car) (f f' : CarRecord → CarRecord) :
    (p.modCar c f).modCar c f' = p.modCar c fun r => f' (f r) := by
  cases c <;> rfl

theorem trimmedSpan_contains (x : Nat) (t : Option Target) : (trimmedSpan x t).1 ≤ x ∧ x ≤ (trimmedSpan x t).2 := by
  unfold trimmedSpan
  split
  · exact ⟨Nat.min_le_left .., Nat.le_max_left ..⟩
  · exact ⟨Nat.le_refl x, Nat.le_refl x⟩

theorem trimmedSpan_target (x y : Nat) :
    (trimmedSpan x (some { position := y, granted := true })).1 ≤ y ∧
      y ≤ (trimmedSpan x (some { position := y, granted := true })).2 :=
  ⟨Nat.min_le_right .., Nat.le_max_right ..⟩

/-- A trimmed span lies within a span that holds the position and the granted target. -/
theorem trimmedSpan_within {x l h : Nat} {t : Option Target} (hl : l ≤ x) (hh : x ≤ h)
    (ht : ∀ y, t = some { position := y, granted := true } → l ≤ y ∧ y ≤ h) :
    l ≤ (trimmedSpan x t).1 ∧ (trimmedSpan x t).2 ≤ h := by
  unfold trimmedSpan
  split
  · rename_i y
    obtain ⟨hly, hyh⟩ := ht y rfl
    exact ⟨Nat.le_min.2 ⟨hl, hly⟩, Nat.max_le.2 ⟨hh, hyh⟩⟩
  · exact ⟨hl, hh⟩

/-- The granted target of a sound record whose span is given lies within it. -/
theorem carSound_granted {r : CarRecord} (hr : CarSound r) {l h : Nat} (hs : r.span = some (l, h)) (y : Nat)
    (ht : r.target = some { position := y, granted := true }) : l ≤ y ∧ y ≤ h := by
  obtain ⟨l', h', e, hy⟩ := hr.granted y ht
  rw [hs] at e
  cases e
  exact hy

/-- Trimming a span about a position within it leaves it apart from the other car's. -/
theorem Plant.SpansApart.trims {p : Plant} (hs : p.SpansApart) {x : Nat} (hin : inSpan x (p.car c).span = true)
    {t : Option Target} (ht : ∀ y, t = some { position := y, granted := true } → (p.car c).target = t) :
    Apart c (some (trimmedSpan x t)) (p.car (otherCar c)).span := by
  obtain ⟨l, h, he, hl, hh⟩ := inSpan_iff.1 hin
  have ha := ((p.spansApart_iff c).1 hs).2.2
  rw [he] at ha
  obtain ⟨hl', hh'⟩ := trimmedSpan_within hl hh fun y e =>
    carSound_granted (hs.sound c) he y ((ht y e).trans e)
  exact ha.shrink hl' hh'

/-- A record with a known position and its span trimmed about it is sound. -/
theorem carSound_trimmed {r : CarRecord} {x : Nat} (hp : r.position = some x) (hs : r.span = some (trimmedSpan x r.target))
    (hf : r.state = .fault → r.target = none ∧ r.drain = none) : CarSound r :=
  have ⟨hl, hh⟩ := trimmedSpan_contains x r.target
  carSound_ofSpan hp hs hl hh (fun y e => by rw [e]; exact trimmedSpan_target x y) hf

theorem inSpan_trimmedSpan (x : Nat) (t : Option Target) : inSpan x (some (trimmedSpan x t)) = true :=
  inSpan_iff.2 ⟨_, _, rfl, trimmedSpan_contains x t⟩

/-- A car in FAULT stays sound wherever it is reported. -/
theorem carSound_fault {r : CarRecord} (hr : CarSound r) {x : Nat} (moving loaded : Bool) (hf : r.state = .fault) :
    CarSound (reported x moving loaded r) where
  unknown e := nomatch e
  bounds := hr.bounds
  granted := hr.granted
  within e := absurd hf e
  faulted := hr.faulted

theorem spanReport_spans {g : Ground} {x : Nat} {moving loaded : Bool} {p : Plant} (hs : p.SpansApart) :
    (spanReport g c x moving (p.modCar c (reported x moving loaded))).SpansApart := by
  unfold spanReport
  simp only [modCar_car_same]
  split
  · rename_i hf
    have hfault : CarSound (reported x moving loaded (p.car c)) := carSound_fault (hs.sound c) moving loaded hf
    split
    · rename_i hin
      rw [modCar_modCar]
      have hin : inSpan x (p.car c).span = true := (Bool.and_eq_true_iff.1 hin).1
      refine modCar_spans hs (carSound_ofSpan (x := x) rfl rfl (Nat.le_refl x) (Nat.le_refl x) ?_ fun _ => ?_) (hs.stands hin)
      · exact fun y e => nomatch ((hs.sound c).faulted hf).1.symm.trans e
      · exact (hs.sound c).faulted hf
    · exact modCar_spans_same hs hfault rfl
  · rename_i hf
    split
    · rename_i hin
      have hin : inSpan x (p.car c).span = true := hin
      have trimmed : ((p.modCar c (reported x moving loaded)).modCar c fun r =>
          { r with span := some (trimmedSpan x r.target) }).SpansApart := by
        rw [modCar_modCar]
        exact modCar_spans hs (carSound_trimmed rfl rfl fun e => absurd e hf) (hs.trims hin fun _ _ => rfl)
      split
      · exact arrive_spans trimmed (by simpa using hf) (by simp [reported]) (by simpa using inSpan_trimmedSpan x _)
      · split
        · refine setCarState_spans (modCar_spans_same trimmed ?_ rfl) (by simpa using hf) (by decide)
          refine carSound_ofSpan (x := x) (by simp [reported]) (by simp; rfl) (trimmedSpan_contains x _).1
            (trimmedSpan_contains x _).2 ?_ fun e => absurd e (by simpa using hf)
          rintro y ⟨⟩
          exact trimmedSpan_contains x _
        · exact trimmed
    · refine faultCar_spans_loose (by simpa using hf) ?_
      rw [modCar_modCar]
      refine modCar_spans_same hs ?_ rfl
      exact
        { unknown := nofun
          bounds := (hs.sound c).bounds
          granted := nofun
          within := fun e => absurd rfl e
          faulted := fun _ => ⟨rfl, rfl⟩ }

theorem spanReport_writes (h : k.has (Kind.ofCar c)) (g : Ground) (x : Nat) (moving : Bool) (p : Plant) :
    Writes k p (spanReport g c x moving p) := by
  unfold spanReport
  dsimp only
  split
  · split
    · exact modCar_writes h.car _ p
    · exact .refl k p
  · split
    · split
      · exact (modCar_writes h.car _ p).trans (arrive_writes h g x _)
      · split
        · exact (modCar_writes h.car _ p).trans ((modCar_writes h.car _ _).trans (setCarState_writes h.car g _ _))
        · exact modCar_writes h.car _ p
    · exact faultCar_writes h g _ p

theorem spanReport_waterStays (g : Ground) (x : Nat) (moving : Bool) (p : Plant) :
    WaterStays p (spanReport g c x moving p) := by
  unfold spanReport
  dsimp only
  split
  · split
    · exact modCar_waterStays id
    · exact .refl p
  · split
    · split
      · exact .trans (modCar_waterStays id) (arrive_waterStays ..)
      · split
        · exact .trans (modCar_waterStays id) (.trans (modCar_waterStays id) (setCarState_waterStays g (by decide) _))
        · exact modCar_waterStays id
    · exact faultCar_waterStays ..

/-- A report of a car whose position was known. -/
theorem reported_spanReport_keeps (h : k.has (Kind.ofCar c)) (g : Ground) (x : Nat) (moving loaded : Bool) (p : Plant) :
    Keeps k p (spanReport g c x moving (p.modCar c (reported x moving loaded))) :=
  .ofCar h (fun h => (modCar_writes h.car _ p).trans (spanReport_writes h g x moving _)) spanReport_spans
    ((modCar_waterStays (f := reported x moving loaded) id).trans (spanReport_waterStays ..)).held

/-- After a first report the car may run to its tower, or be reported bindable. -/
theorem firstReport_ordered_keeps (h : k.has (Kind.ofCar c)) (g : Ground) {p : Plant} (hf : (p.car c).state ≠ .fault) :
    Keeps k p (if (p.car c).loaded then runToTower g c (setHot g c p)
      else if bindable p c then start .evaluate p
      else p) :=
  .ite (fun _ => runHot_keeps h g hf) fun _ => .ite (fun _ => start_keeps ..) fun _ => .refl k p

theorem firstReport_writes (h : k.has (Kind.ofCar c)) (g : Ground) (x : Nat) (p : Plant) : Writes k p (firstReport g c x p) := by
  unfold firstReport
  split
  · exact .refl k p
  · rename_i hf
    split
    · exact (modCar_writes h.car _ p).trans (firstReport_ordered_keeps h g (by simpa using hf)).toWrites
    · exact faultCar_writes h g _ p

theorem firstReport_water (h : k.has (Kind.ofCar c)) (g : Ground) (x : Nat) {p : Plant} (hw : p.WaterHeld) :
    (firstReport g c x p).WaterHeld := by
  unfold firstReport
  split
  · exact hw
  · rename_i hf
    split
    · exact (firstReport_ordered_keeps h g (by simpa using hf)).water ((modCar_waterStays id).held hw)
    · exact (faultCar_waterStays ..).held hw

theorem firstReport_spans (h : k.has (Kind.ofCar c)) {g : Ground} {x : Nat} {p : Plant} (hp : (p.car c).position = some x)
    (hn : (p.car c).span = none) (hs : p.SpansApart) : (firstReport g c x p).SpansApart := by
  unfold firstReport
  split
  · exact hs
  · rename_i hf
    split
    · rename_i ho
      refine (firstReport_ordered_keeps h g (by simpa using hf)).spans ?_
      refine modCar_spans hs (carSound_ofSpan (x := x) hp rfl (Nat.le_refl x) (Nat.le_refl x) (fun y e => ?_)
        fun e => absurd e hf) (.of_ordered ho)
      obtain ⟨l, h, e', -⟩ := (hs.sound c).granted y e
      cases hn.symm.trans e'
    · exact faultCar_spans hs

/-- A report of a car whose position was not known. -/
theorem reported_firstReport_keeps (h : k.has (Kind.ofCar c)) (g : Ground) (x : Nat) (moving loaded : Bool) {p : Plant}
    (hu : (p.car c).position = none) : Keeps k p (firstReport g c x (p.modCar c (reported x moving loaded))) := by
  refine .ofCar h (fun h => (modCar_writes h.car _ p).trans (firstReport_writes h g x _)) (fun hs => ?_) fun hw =>
    firstReport_water h g x ((modCar_waterStays (f := reported x moving loaded) id).held hw)
  have hn : (p.car c).span = none := (hs.sound c).unknown hu
  have sound : CarSound (reported x moving loaded (p.car c)) :=
    { unknown := nofun
      bounds := (hs.sound c).bounds
      granted := (hs.sound c).granted
      within := fun _ _ _ _ _ e => nomatch hn.symm.trans e
      faulted := (hs.sound c).faulted }
  exact firstReport_spans h (by simp [reported]) (by simpa [reported] using hn) (modCar_spans_same hs sound rfl)

theorem tellSequencer_keeps (h : k.has (Kind.ofCar c)) (g : Ground) (p : Plant) : Keeps k p (tellSequencer g c p) := by
  have told : ∀ q : Plant, Keeps k q (if (q.car c).bound.isSome then start (.carReported c) q else q) := fun q =>
    .ite (fun _ => start_keeps ..) fun _ => .refl k q
  unfold tellSequencer
  dsimp only
  refine Keeps.trans (q := if firstLoaded (p.car c) then start (.carLoaded c) (setHot g c p) else p) ?_ (told _)
  exact .ite (fun _ => (setHot_keeps h g p).trans (start_keeps ..)) fun _ => .refl k p

/-- A POS record of a car keeps the spans apart and the water where it is. -/
theorem carReport_keeps (h : k.has (Kind.ofCar c)) (g : Ground) (x : Nat) (moving loaded : Bool) (p : Plant) :
    Keeps k p (carReport g c x moving loaded p) := by
  have judged : Keeps k p (if (p.car c).position.isNone then firstReport g c x (p.modCar c (reported x moving loaded))
      else spanReport g c x moving (p.modCar c (reported x moving loaded))) :=
    .ite (fun hu => reported_firstReport_keeps h g x moving loaded (Option.isNone_iff_eq_none.1 hu))
      fun _ => reported_spanReport_keeps h g x moving loaded p
  unfold carReport
  dsimp only
  refine (judged.trans (tellSequencer_keeps h g _)).trans ?_
  exact .ite (fun _ => start_keeps ..) fun _ => .refl k _

theorem recheckTarget_keeps (h : k.has (Kind.ofCar c)) (g : Ground) (p : Plant) : Keeps k p (recheckTarget g c p) := by
  unfold recheckTarget
  split
  · rename_i x ht
    refine .ofCar h (fun h => requestTarget_writes h g x p) (fun hs => requestTarget_spans hs fun hf => ?_)
      (requestTarget_waterStays g c x p).held
    cases ht.symm.trans ((hs.sound c).faulted hf).1
  · exact .refl k p

/-! ## Quench, drain, dump -/

/-- With no car in QUENCHING the water may stand anywhere. -/
theorem Plant.WaterHeld.of_none {p : Plant} (h : ∀ d, (p.car d).state ≠ .quenching) : p.WaterHeld := fun d e => absurd e (h d)

theorem lookForGrant_keeps (h : k.has (Kind.ofCar c)) (g : Ground) (p : Plant) : Keeps k p (lookForGrant g p) :=
  .ofCar h (fun h => lookForGrant_writes h.water g p) (fun hs => hs.congr fun d => lookForGrant_car g p d)
    (lookForGrant_waterStays g p).held

@[simp] theorem releaseGrant_car (g : Ground) (p : Plant) (d : Car) : (releaseGrant g p).car d = p.car d := by
  unfold releaseGrant
  rw [lookForGrant_car]
  cases d <;> rfl

theorem releaseGrant_writes (h : k .water = true) (g : Ground) (p : Plant) : Writes k p (releaseGrant g p) :=
  (water_writes h p none p.waiting p.trackHold).trans (lookForGrant_writes h g _)

/-- The holder of the grant is the only car that may be QUENCHING. -/
theorem Plant.WaterHeld.only {p : Plant} (hw : p.WaterHeld) {d : Car} (hg : p.grant = some c)
    (hd : (p.car d).state = .quenching) : d = c := by
  have := (hw d hd).symm.trans hg
  cases this
  rfl

/-- The grant is released while its holder is not QUENCHING. -/
theorem releaseGrant_water {g : Ground} {p : Plant} (hn : ∀ d, (p.car d).state ≠ .quenching) : (releaseGrant g p).WaterHeld :=
  .of_none fun d => by rw [releaseGrant_car]; exact hn d

/-- A confirmed spray state. -/
theorem sprayReported_keeps (h : k.has (Kind.ofCar c)) (g : Ground) (on : Bool) (p : Plant) :
    Keeps k p (sprayReported g c on p) := by
  have drains : ∀ q : Plant, Keeps k q (if g.params.drainTime = 0 then start (.drain c) q else q) := fun q =>
    .ite (fun _ => start_keeps ..) fun _ => .refl k q
  unfold sprayReported
  split
  · rename_i hg
    split
    · split
      · rename_i hst
        have lit : Keeps k p (p.modCar c fun r =>
            { r with hot := none, quench := some (g.clock + (g.params.quenchTime : Int)) }) :=
          modCar_keeps h (fun hs => carSound_congr hs rfl rfl rfl rfl rfl) rfl id
        refine lit.trans (.ofCar h (fun h => setCarState_writes h.car g _ _)
          (fun hs => setCarState_spans hs (by simp [hst]) (by decide)) fun hw d hd => ?_)
        rw [setCarState_grant, Plant.modCar_grant]
        by_cases hdc : d = c
        · rw [hdc, hg]
        · rw [eq_otherCar hdc, setCarState_car_other] at hd
          exact absurd (hw.only (by simpa using hg) hd) (by simp)
      · exact .refl k p
    · split
      · dsimp only
        split
        · rename_i hst
          have drain : Keeps k p (p.modCar c fun r => { r with drain := some (g.clock + (g.params.drainTime : Int)) }) :=
            modCar_keeps h (fun hs =>
              { unknown := hs.unknown
                bounds := hs.bounds
                granted := hs.granted
                within := hs.within
                faulted := fun e => nomatch hst.symm.trans e }) rfl id
          refine (drain.trans ?_).trans (drains _)
          refine .ofCar h (fun h => (setCarState_writes h.car g _ _).trans (releaseGrant_writes h.water g _))
            (fun hs => (setCarState_spans hs (by simp [hst]) (by decide)).congr fun d => releaseGrant_car g _ d)
            fun hw => releaseGrant_water fun d hd => ?_
          by_cases hdc : d = c
          · rw [hdc, setCarState_car_same] at hd
            cases hd
          · rw [eq_otherCar hdc, setCarState_car_other] at hd
            exact hdc ((eq_otherCar hdc).trans (hw.only (by simpa using hg) hd))
        · rename_i hst
          refine .ofCar h (fun h => releaseGrant_writes h.water g p) (fun hs => hs.congr fun d => releaseGrant_car g p d)
            fun hw => releaseGrant_water fun d hd => hst ?_
          rw [← hw.only hg hd]
          exact hd
      · exact .refl k p
  · exact lookForGrant_keeps h g p

theorem quenchReached_keeps (h : k.has (Kind.ofCar c)) (g : Ground) (p : Plant) : Keeps k p (quenchReached g c p) := by
  unfold quenchReached
  split
  · exact .refl k p
  · refine .ite (fun _ => .refl k p) fun _ => ?_
    exact (modCar_keeps h (fun hs => carSound_congr hs rfl rfl rfl rfl rfl) rfl id).trans (setSpray_keeps h false _)

theorem drainReached_keeps (h : k.has (Kind.ofCar c)) (g : Ground) (p : Plant) : Keeps k p (drainReached g c p) := by
  unfold drainReached
  split
  · exact .refl k p
  · rename_i t ht
    refine .ite (fun _ => .refl k p) fun _ => ?_
    by_cases hf : (p.car c).state = .fault
    · refine .ofCar h (fun h => (modCar_writes h.car _ p).trans
          ((setCarState_writes h.car g _ _).trans (requestTarget_writes h g _ _)))
        (fun hs => nomatch ht.symm.trans ((hs.sound c).faulted hf).2) ?_
      exact ((modCar_waterStays (f := fun r => { r with drain := none }) id).trans
        ((setCarState_waterStays g (by decide) _).trans (requestTarget_waterStays ..))).held
    · refine (modCar_keeps (f := fun r => { r with drain := none }) h (fun hs => ?_) rfl id).trans
        (setCarState_requestTarget_keeps h g (by simpa using hf) (by decide) (by decide) _)
      exact
        { unknown := hs.unknown
          bounds := hs.bounds
          granted := hs.granted
          within := hs.within
          faulted := fun e => absurd e hf }

theorem hotReached_keeps (h : k.has (Kind.ofCar c)) (g : Ground) (p : Plant) : Keeps k p (hotReached g c p) := by
  unfold hotReached
  split
  · exact .refl k p
  · refine .ite (fun _ => .refl k p) fun _ => ?_
    exact (modCar_keeps h (fun hs => carSound_congr hs rfl rfl rfl rfl rfl) rfl id).trans (raise_keeps ..)

/-- A car bound to a ticket starts for its oven, and another stays. -/
theorem startBound_keeps (h : k.has (Kind.ofCar c)) (g : Ground) (o : Option Nat) {p : Plant}
    (hf : (p.car c).state ≠ .fault) :
    Keeps k p (match o with
      | some n => startRun g c n p
      | none => p) := by
  cases o with
  | none => exact .refl k p
  | some n => exact startRun_keeps h g n hf

theorem dumpDone_keeps (h : k.has (Kind.ofCar c)) (g : Ground) (p : Plant) : Keeps k p (dumpDone g c p) := by
  unfold dumpDone
  refine .ite (fun hs => ?_) fun _ => .refl k p
  have unloaded : Keeps k p (p.modCar c fun r => { r with loaded := false }) :=
    modCar_keeps h (fun hs => carSound_congr hs rfl rfl rfl rfl rfl) rfl id
  exact (unloaded.trans (setCarState_keeps h g (by simp [hs]) (by decide) (by decide))).trans
    (startBound_keeps h g _ (by simp))

/-! ## Run state and restart -/

theorem stateTarget_isSome {g : Ground} {p : Plant} {x : Nat} (h : stateTarget g p c = some x) :
    (p.car c).state ≠ .fault := by
  intro hf
  unfold stateTarget at h
  rw [hf] at h
  cases h

theorem resumeCar_keeps (h : k.has (Kind.ofCar c)) (g : Ground) (p : Plant) : Keeps k p (resumeCar g c p) := by
  unfold resumeCar
  dsimp only
  split
  · exact send_keeps ..
  · rename_i x ht
    refine .ofCar h (fun h => requestTarget_writes h g x p) (fun hs => requestTarget_spans hs fun hf => ?_)
      (requestTarget_waterStays g c x p).held
    cases ht.symm.trans ((hs.sound c).faulted hf).1
  · rename_i hs
    exact startBound_keeps h g _ (by simp [hs])
  · exact send_keeps ..
  · split
    · rename_i hx
      exact requestTarget_keeps h g _ (stateTarget_isSome hx)
    · exact .refl k p

theorem setTrackHold_keeps (h : k.has (Kind.ofCar c)) (hold : Bool) (p : Plant) : Keeps k p { p with trackHold := hold } :=
  .ofCar h (fun h => water_writes h.water p p.grant p.waiting hold) (fun hs => hs.congr fun d => by cases d <;> rfl)
    (WaterStays.of_eq (fun d => by cases d <;> rfl) rfl).held

/-- The target a warm restart leaves: a granted one (R162). -/
def grantedTarget : Option Target → Option Target
  | some { position := x, granted := true } => some { position := x, granted := true }
  | _ => none

/-- The span a warm restart leaves (R162). -/
def restartSpan (r : CarRecord) : Option (Nat × Nat) :=
  match r.position, r.span with
  | some x, some (l, h) =>
    if r.state = .fault && !(inSpan x (some (l, h)) && !r.moving) then some (l, h)
    else some (trimmedSpan x (grantedTarget r.target))
  | _, s => s

theorem restartCar_eq (c : Car) (p : Plant) :
    restartCar c p = p.modCar c fun r => { r with target := grantedTarget r.target, span := restartSpan r } := by
  unfold restartCar restartSpan grantedTarget
  rfl

theorem grantedTarget_eq_some {t : Option Target} {y : Nat} (h : grantedTarget t = some { position := y, granted := true }) :
    t = some { position := y, granted := true } := by
  unfold grantedTarget at h
  split at h
  · exact h
  · cases h

/-- The span that a restart leaves is the car's, or trimmed about the position it holds. -/
theorem restartSpan_cases (r : CarRecord) (hr : CarSound r) :
    restartSpan r = r.span ∨
      ∃ x l h, r.position = some x ∧ r.span = some (l, h) ∧ l ≤ x ∧ x ≤ h ∧
        restartSpan r = some (trimmedSpan x (grantedTarget r.target)) := by
  unfold restartSpan
  split
  · rename_i x l h hp hs
    split
    · exact .inl hs.symm
    · rename_i hc
      simp only [Bool.and_eq_true, decide_eq_true_eq, Bool.not_eq_true', not_and, Bool.not_eq_false] at hc
      have hx : l ≤ x ∧ x ≤ h := by
        by_cases hf : r.state = .fault
        · obtain ⟨_, _, e, hl, hh⟩ := inSpan_iff.1 (hc hf).1
          cases e
          exact ⟨hl, hh⟩
        · exact hr.within hf x l h hp hs
      exact .inr ⟨x, l, h, hp, hs, hx.1, hx.2, rfl⟩
  · exact .inl rfl

theorem restartCar_keeps (h : k.has (Kind.ofCar c)) (p : Plant) : Keeps k p (restartCar c p) := by
  rw [restartCar_eq]
  refine .ofCar h (fun h => modCar_writes h.car _ p) (fun hs => ?_) (modCar_waterStays id).held
  have hr : CarSound (p.car c) := hs.sound c
  have faulted : (p.car c).state = .fault → grantedTarget (p.car c).target = none ∧ (p.car c).drain = none := fun hf => by
    rw [(hr.faulted hf).1]
    exact ⟨rfl, (hr.faulted hf).2⟩
  obtain he | ⟨x, l, h, hp, hspan, hl, hh, he⟩ := restartSpan_cases (p.car c) hr
  · refine modCar_spans_same hs ?_ he
    exact
      { unknown := fun e => he.trans (hr.unknown e)
        bounds := by rw [he]; exact hr.bounds
        granted := fun y e => by rw [he]; exact hr.granted y (grantedTarget_eq_some e)
        within := fun e => by rw [he]; exact hr.within e
        faulted := faulted }
  · refine modCar_spans hs (carSound_trimmed hp he faulted) ?_
    rw [he]
    exact hs.trims (inSpan_iff.2 ⟨l, h, hspan, hl, hh⟩) fun y e => (grantedTarget_eq_some e).trans e.symm

end

/-- What RESUME writes at the track unit. -/
abbrev Kind.ofTrack : List Kind := [.car .a, .car .b, .water]

theorem Kinds.has.ofTrack {k : Kinds} (h : k.has Kind.ofTrack) (c : Car) : k.has (Kind.ofCar c) := by
  cases c <;> exact h.sub (by simp)

theorem resumeTrack_keeps {k : Kinds} (h : k.has Kind.ofTrack) (g : Ground) (p : Plant) : Keeps k p (resumeTrack g p) :=
  (setTrackHold_keeps (h.ofTrack .a) false p).trans <|
    (resumeCar_keeps (h.ofTrack .a) g _).trans (resumeCar_keeps (h.ofTrack .b) g _)

end Sys2Proof.Machine
end

section
/-! SUPPORT. The push sequencer's operations: the ticket of a number after them, and what they may write (`Keeps`). -/

namespace Sys2Proof.Machine

open Sys2Proof.Safety

/-! ## The ticket of a number -/

theorem Plant.ticket?_eq_some {p : Plant} {num : Nat} {t : Ticket} (h : p.ticket? num = some t) :
    t ∈ p.tickets ∧ t.number = num :=
  ⟨List.mem_of_find?_eq_some h, by simpa using List.find?_some h⟩

/-- The ticket of a number depends on the tickets alone. -/
theorem Plant.ticket?_congr {p q : Plant} (h : q.tickets = p.tickets) (num : Nat) : q.ticket? num = p.ticket? num := by
  unfold Plant.ticket?
  rw [h]

theorem Plant.ticket?_modTicket (p : Plant) (num : Nat) {f : Ticket → Ticket} (hf : ∀ t, (f t).number = t.number) :
    (p.modTicket num f).ticket? num = (p.ticket? num).map f := by
  unfold Plant.ticket? Plant.modTicket
  dsimp only
  induction p.tickets with
  | nil => rfl
  | cons t l ih =>
    by_cases ht : t.number = num
    · simp [ht, hf]
    · simp [ht, ih]

theorem Plant.ticket?_modTicket_of_some {p : Plant} {num : Nat} {t : Ticket} (h : p.ticket? num = some t)
    {f : Ticket → Ticket} (hf : ∀ t, (f t).number = t.number) : (p.modTicket num f).ticket? num = some (f t) := by
  rw [p.ticket?_modTicket num hf, h]
  rfl

/-! ## What the push sequencer may write -/

section
variable {k : Kinds}

theorem modTicket_keeps (h : k .tickets = true) (num : Nat) (f : Ticket → Ticket) (p : Plant) :
    Keeps k p (p.modTicket num f) where
  tickets x := Kinds.clash h x
  lists := fun ⟨tickets, catchup, ps, cs, log⟩ => ⟨by simpa using tickets, catchup, ps, cs, log⟩

theorem enterStep_keeps (h : k .tickets = true) (g : Ground) (num : Nat) (st : TicketState) (w : Waits) (p : Plant) :
    Keeps k p (enterStep g num st w p) := by
  unfold enterStep
  split
  · exact .refl k p
  · exact (modTicket_keeps h num _ p).trans (raise_keeps ..)

theorem writeLog_keeps (h : k .log = true) (r : LogRecord) (p : Plant) : Keeps k p (writeLog r p) where
  log x := Kinds.clash h x
  lists := fun ⟨tickets, catchup, ps, cs, _⟩ => ⟨tickets, catchup, ps, cs, List.length_take_le ..⟩

theorem dropTicket_keeps (h : k .tickets = true) (num : Nat) (p : Plant) : Keeps k p (dropTicket num p) where
  tickets x := Kinds.clash h x
  lists := fun ⟨tickets, catchup, ps, cs, log⟩ => ⟨Nat.le_trans (List.length_filter_le ..) tickets, catchup, ps, cs, log⟩

theorem dropCatchup_keeps (h : k.has [.catchup, .latch]) (n : Nat) (p : Plant) : Keeps k p (dropCatchup n p) :=
  .ite
    (fun _ =>
      { catchup := fun x => Kinds.clash (h _ (by simp)) x
        latch := fun x => Kinds.clash (h _ (by simp)) x
        lists := fun ⟨tickets, catchup, ps, cs, log⟩ =>
          ⟨tickets, Nat.le_trans (List.length_filter_le ..) catchup, ps, cs, log⟩ })
    fun _ => .refl k p

/-- The catch-up list is written, within its bound. -/
theorem setCatchup_keeps (h : k .catchup = true) {p : Plant} {l : List CatchupEntry}
    (hl : p.catchup.length ≤ 8 → l.length ≤ 8) : Keeps k p { p with catchup := l } where
  catchup x := Kinds.clash h x
  lists := fun ⟨tickets, catchup, ps, cs, log⟩ => ⟨tickets, hl catchup, ps, cs, log⟩

/-- An early-aborted oven joins at the head, in place of the tail entry of a full list (R48). -/
theorem insertHead_keeps (h : k .catchup = true) (g : Ground) (n : Nat) (p : Plant) : Keeps k p (insertHead g n p) := by
  unfold insertHead
  refine .ite (fun _ => .refl k p) fun _ => .ite (fun _ => .refl k p) fun _ => ?_
  dsimp only
  split
  · rename_i hfull
    split
    · exact
        { raise_keeps k g _ p with
          catchup := fun x => Kinds.clash h x
          lists := fun ⟨tickets, catchup, ps, cs, log⟩ =>
            ⟨tickets, by simp only [raise_catchup, List.length_cons, List.length_dropLast]; omega, ps, cs, log⟩ }
    · rename_i hnone
      rw [List.getLast?_eq_none_iff] at hnone
      rw [hnone] at hfull
      cases hfull
  · exact setCatchup_keeps h fun _ => by rw [List.length_cons]; omega

theorem endBinding_keeps {t : Ticket} (h : ∀ c, t.car = some c → k.has (Kind.ofCar c)) (g : Ground) (faultHeld : Bool)
    (p : Plant) : Keeps k p (endBinding g t faultHeld p) := by
  unfold endBinding
  split
  · rename_i c hc
    exact unbindCar_keeps (h c hc) g faultHeld p
  · exact .refl k p

theorem setPacing_keeps (h : k .pacing = true) (g : Ground) (p : Plant) : Keeps k p (setPacing g p) := by
  unfold setPacing
  split
  · exact .refl k p
  · have set : Keeps k p { p with pacing := some (nextIssue g p) } := { pacing := fun x => Kinds.clash h x }
    exact .ite (fun _ => set.trans (start_keeps ..)) fun _ => set

theorem announceWindow_keeps (k : Kinds) (wasOpen : Bool) (g : Ground) (p : Plant) : Keeps k p (announceWindow wasOpen g p) :=
  .ite (fun _ => startAll_keeps ..) fun _ => .refl k p

/-! ## Retirement and hold -/

/-- The ticket of a number, where there is one, may be served: the ticket list, its oven's phase and its car may be written. -/
structure Kinds.Serves (k : Kinds) (p : Plant) (num : Nat) : Prop where
  tickets : k .tickets = true
  phase : ∀ t, p.ticket? num = some t → k.has (Kind.ofPhase t.oven)
  car : ∀ t, p.ticket? num = some t → ∀ c, t.car = some c → k.has (Kind.ofCar c)

theorem Kinds.all_serves (p : Plant) (num : Nat) : Kinds.all.Serves p num :=
  ⟨rfl, fun _ _ => Kinds.all_has _, fun _ _ _ _ => Kinds.all_has _⟩

/-- A plant with the same tickets may be served alike. -/
theorem Kinds.Serves.congr {p q : Plant} {num : Nat} (h : k.Serves p num) (hq : q.tickets = p.tickets) : k.Serves q num := by
  have e : q.ticket? num = p.ticket? num := Plant.ticket?_congr hq num
  exact ⟨h.tickets, by rw [e]; exact h.phase, by rw [e]; exact h.car⟩

/-- A change of the ticket that leaves its number, oven and car. -/
theorem Kinds.Serves.modTicket {p : Plant} {num : Nat} (h : k.Serves p num) {f : Ticket → Ticket}
    (hn : ∀ t, (f t).number = t.number) (ho : ∀ t, (f t).oven = t.oven) (hc : ∀ t, (f t).car = t.car) :
    k.Serves (p.modTicket num f) num := by
  have e : ∀ {t}, (p.modTicket num f).ticket? num = some t → ∃ t', p.ticket? num = some t' ∧ f t' = t := fun ht => by
    rw [p.ticket?_modTicket num hn, Option.map_eq_some_iff] at ht
    exact ht
  refine ⟨h.tickets, fun t ht => ?_, fun t ht c he => ?_⟩
  · obtain ⟨t', ht', rfl⟩ := e ht
    rw [ho]
    exact h.phase t' ht'
  · obtain ⟨t', ht', rfl⟩ := e ht
    rw [hc] at he
    exact h.car t' ht' c he

/-- The claims of PM and GC. -/
abbrev Kind.bothClaims : List Kind := [.claim .pm, .claim .gc]

theorem Kinds.has.bothClaims (h : k.has Kind.bothClaims) : ∀ m ∈ [Machine.pm, Machine.gc], k (.claim m) = true := by
  intro m hm
  simp only [List.mem_cons, List.not_mem_nil, or_false] at hm
  obtain rfl | rfl := hm
  · exact h _ (by simp)
  · exact h _ (by simp)

/-- A ticket has left the list as it retires early: its oven returns, regulated, and its car's binding ends (R78). -/
def ticketReturned (g : Ground) (t : Ticket) (p : Plant) : Plant :=
  endBinding g t false (commandRegulate g t.oven (returnOven g t.oven .ticketReturn p))

/-- A ticket that retires early releases the claims it holds (R78, R85). -/
def ticketFreed (g : Ground) (num : Nat) (how : EarlyEnd) (p : Plant) : Plant :=
  if p.claimPm = .ticket num then
    releaseClaims g [.pm, .gc] (how ≠ .restart) (if how = .restart then p else sendStops [.pm, .gc] p)
  else p

/-- The push log record of an early retirement (R89). -/
def earlyRecord (g : Ground) (p : Plant) (t : Ticket) (how : EarlyEnd) (reason : AbortReason) : LogRecord :=
  logRecordOf g p t (if how = .abort then .aborted else .cancelled) (some reason)

/-- The notice of an early retirement (R78, R84). -/
def earlyNotice (t : Ticket) (num : Nat) (how : EarlyEnd) (reason : AbortReason) : NoticeBody :=
  if how = .abort then .ticketAbort num t.oven t.kind t.state reason else .ticketEnd num t.oven .cancelled

/-- An early retirement, stage by stage. -/
theorem retireEarly_eq {g : Ground} {num : Nat} {p : Plant} {t : Ticket} (ht : p.ticket? num = some t) (how : EarlyEnd)
    (reason : AbortReason) :
    retireEarly g num how reason p =
      let q := ticketFreed g num how (ticketReturned g t (dropTicket num p))
      startAll retirementTasks <| raise g (earlyNotice t num how reason) <|
        writeLog (earlyRecord g p t how reason) (if how = .abort then insertHead g t.oven q else q) := by
  unfold retireEarly
  rw [ht]
  cases how <;> rfl

theorem ticketReturned_keeps {t : Ticket} (ho : k.has (Kind.ofPhase t.oven))
    (hc : ∀ c, t.car = some c → k.has (Kind.ofCar c)) (g : Ground) (p : Plant) : Keeps k p (ticketReturned g t p) :=
  (returnOven_keeps ho g .ticketReturn p).trans <|
    (commandRegulate_keeps ho.ovenOfPhase g _).trans (endBinding_keeps hc g false _)

/-- Every kind but the claims. -/
def Kinds.unclaiming : Kinds
  | .claim _ => false
  | _ => true

/-- A ticket's return leaves the claims. -/
theorem ticketReturned_claim (g : Ground) (t : Ticket) (p : Plant) (m : Machine) :
    (ticketReturned g t p).claim m = p.claim m :=
  (ticketReturned_keeps (k := .unclaiming) (by simp [Kinds.has, Kinds.unclaiming])
    (fun _ _ => by simp [Kinds.has, Kinds.unclaiming]) g p).claim m rfl

theorem ticketFreed_keeps {p : Plant} {num : Nat} (hm : p.claimPm = .ticket num → k.has Kind.bothClaims) (g : Ground)
    (how : EarlyEnd) : Keeps k p (ticketFreed g num how p) :=
  .ite
    (fun hp => Keeps.trans (.ite (fun _ => .refl k p) fun _ => sendStops_keeps ..)
      (releaseClaims_keeps (hm hp).bothClaims g _ _))
    fun _ => .refl k p

theorem retireEarly_keeps {p : Plant} {num : Nat} (h : k.Serves p num) (hl : k .log = true) {how : EarlyEnd}
    (hm : p.claimPm = .ticket num → k.has Kind.bothClaims) (hcat : how = .abort → k .catchup = true) (g : Ground)
    (reason : AbortReason) : Keeps k p (retireEarly g num how reason p) := by
  cases ht : p.ticket? num with
  | none =>
    unfold retireEarly
    rw [ht]
    exact .refl k p
  | some t =>
    rw [retireEarly_eq ht]
    have claim : (ticketReturned g t (dropTicket num p)).claimPm = p.claimPm := ticketReturned_claim g t _ .pm
    have freed := (dropTicket_keeps h.tickets num p).trans <|
      (ticketReturned_keeps (h.phase t ht) (h.car t ht) g (dropTicket num p)).trans
        (ticketFreed_keeps (num := num) (fun hp => hm (claim.symm.trans hp)) g how)
    exact (freed.trans (.ite (fun ha => insertHead_keeps (hcat ha) g _ _) fun _ => .refl k _)).trans <|
      (writeLog_keeps hl _ _).trans <| (raise_keeps ..).trans (startAll_keeps ..)

/-- The ticket as the entry to FAULT_HELD writes it (R79). -/
def heldTicket (g : Ground) (reason : AbortReason) (t : Ticket) : Ticket :=
  { t with
    state := .faultHeld
    waits := Waits.none
    entry := g.clock
    timer := none
    pacingWait := none
    suspended := false
    reason := some reason
    car := none }

/-- An entry to FAULT_HELD, stage by stage. -/
theorem holdTicket_eq {g : Ground} {num : Nat} {p : Plant} {t : Ticket} (ht : p.ticket? num = some t)
    (reason : AbortReason) :
    holdTicket g num reason p =
      raise g (.pushFault num t.oven t.state reason t.ram (g.door t.oven .ps).state (g.door t.oven .cs).state)
        (endBinding g t true <| changePhase g t.oven .pushFault .faultHold <| sendStops [.pm, .gc] <|
          raise g (.ticketStep num t.oven .faultHeld g.clock false) <| p.modTicket num (heldTicket g reason)) := by
  unfold holdTicket
  rw [ht]
  rfl

theorem holdTicket_keeps {p : Plant} {num : Nat} (h : k.Serves p num) (g : Ground) (reason : AbortReason) :
    Keeps k p (holdTicket g num reason p) := by
  cases ht : p.ticket? num with
  | none =>
    unfold holdTicket
    rw [ht]
    exact .refl k p
  | some t =>
    rw [holdTicket_eq ht]
    exact (modTicket_keeps h.tickets num _ p).trans <| (raise_keeps ..).trans <| (sendStops_keeps ..).trans <|
      (changePhase_keeps (h.phase t ht) g _ _ _).trans <| (endBinding_keeps (h.car t ht) g true _).trans (raise_keeps ..)

/-- What an abort writes besides the ticket, its oven's phase and its car. -/
abbrev Kind.ofAbort : List Kind := [.log, .catchup, .claim .pm, .claim .gc]

theorem abortTicket_keeps {p : Plant} {num : Nat} (h : k.Serves p num) (ha : k.has Kind.ofAbort) (g : Ground)
    (reason : AbortReason) : Keeps k p (abortTicket g num reason p) := by
  unfold abortTicket
  split
  · exact .refl k p
  · exact .ite (fun _ => .refl k p) fun _ => .ite (fun _ => holdTicket_keeps h g reason)
      fun _ => retireEarly_keeps h (ha _ (by simp)) (fun _ => ha.sub (by simp)) (fun _ => ha _ (by simp)) g reason

/-- A complete retirement, stage by stage. -/
theorem completeTicket_eq {g : Ground} {num : Nat} {p : Plant} {t : Ticket} (ht : p.ticket? num = some t) :
    completeTicket g num p =
      startAll retirementTasks (raise g (.ticketEnd num t.oven .complete) <|
        writeLog (logRecordOf g p t .complete none) <| releaseClaims g [.pm, .gc] true <| endBinding g t false <|
          changePhase g t.oven .empty .ticketComplete <| dropTicket num p) := by
  unfold completeTicket
  rw [ht]

theorem completeTicket_keeps {p : Plant} {num : Nat} (h : k.Serves p num) (hl : k .log = true)
    (hm : k.has Kind.bothClaims) (g : Ground) : Keeps k p (completeTicket g num p) := by
  cases ht : p.ticket? num with
  | none =>
    unfold completeTicket
    rw [ht]
    exact .refl k p
  | some t =>
    rw [completeTicket_eq ht]
    exact (dropTicket_keeps h.tickets num p).trans <| (changePhase_keeps (h.phase t ht) g _ _ _).trans <|
      (endBinding_keeps (h.car t ht) g false _).trans <| (releaseClaims_keeps hm.bothClaims g true _).trans <|
      (writeLog_keeps hl _ _).trans <| (raise_keeps ..).trans (startAll_keeps ..)

/-! ## Entries to the steps -/

theorem enterUndooring_keeps {t : Ticket} (ht : k .tickets = true) (ho : k.has (Kind.ofPhase t.oven)) (g : Ground)
    (num : Nat) (p : Plant) : Keeps k p (enterUndooring g num t p) :=
  (enterStep_keeps ht g num _ _ p).trans <| (forgetPresses_keeps ..).trans <| (forgetPresses_keeps ..).trans <|
    (send_keeps ..).trans <| (send_keeps ..).trans <| (changePhase_keeps ho g _ _ _).trans (modTicket_keeps ht num _ _)

theorem enterGuiding_keeps (ht : k .tickets = true) (g : Ground) (num : Nat) (t : Ticket) (p : Plant) :
    Keeps k p (enterGuiding g num t p) := by
  have receive : ∀ (o : Option Car) (q : Plant), Keeps k q
      (match o with
      | some c => sendReceive c t.oven q
      | none => q) := fun o q => by
    cases o with
    | none => exact .refl k q
    | some c => exact sendReceive_keeps ..
  exact (enterStep_keeps ht g num _ _ p).trans <| (send_keeps ..).trans (receive _ _)

theorem setPushStart_keeps (h : k .pacing = true) (o : Option Time) (p : Plant) : Keeps k p { p with lastPushStart := o } where
  lastPush x := Kinds.clash h x

theorem enterPushing_keeps {t : Ticket} (ht : k .tickets = true) (hp : k .pacing = true) (ho : k.has (Kind.ofPhase t.oven))
    (g : Ground) (num : Nat) (p : Plant) : Keeps k p (enterPushing g num t p) :=
  (enterStep_keeps ht g num _ _ p).trans <| (send_keeps ..).trans <| (modTicket_keeps ht num _ _).trans <|
    (setPushStart_keeps hp _ _).trans <| (setPacing_keeps hp g _).trans <| (announceWindow_keeps ..).trans
      (changePhase_keeps ho g _ _ _)

theorem enterClosing_keeps {t : Ticket} (ht : k .tickets = true) (ho : k.has (Kind.ofPhase t.oven))
    (hc : ∀ c, t.car = some c → k.has (Kind.ofCar c)) (g : Ground) (num : Nat) (p : Plant) :
    Keeps k p (enterClosing g num t p) := by
  have go : ∀ (o : Option Car), (∀ c, o = some c → k.has (Kind.ofCar c)) → ∀ q, Keeps k q
      (match o with
      | some c => letCarGo g c q
      | none => q) := fun o ho q => by
    cases o with
    | none => exact .refl k q
    | some c => exact letCarGo_keeps (ho c rfl) g q
  exact (enterStep_keeps ht g num _ _ p).trans <| (send_keeps ..).trans <| (send_keeps ..).trans <|
    (go _ hc _).trans (changePhase_keeps ho g _ _ _)

theorem guidingDone_keeps {t : Ticket} (ht : k .tickets = true) (hp : k .pacing = true) (ho : k.has (Kind.ofPhase t.oven))
    (g : Ground) (num : Nat) (p : Plant) : Keeps k p (guidingDone g num t p) :=
  .ite (fun _ => .ite (fun _ => .refl k p) fun _ => enterPushing_keeps ht hp ho g num p) fun _ => modTicket_keeps ht num _ p

/-- What a ticket's advance writes besides the ticket, its oven's phase and its car. -/
abbrev Kind.ofAdvance : List Kind := [.log, .pacing, .claim .pm, .claim .gc]

theorem tryAdvance_keeps {p : Plant} {num : Nat} (h : k.Serves p num) (ha : k.has Kind.ofAdvance) (g : Ground) :
    Keeps k p (tryAdvance g num p) := by
  have hp : k .pacing = true := ha _ (by simp)
  unfold tryAdvance
  split
  · exact .refl k p
  · rename_i t ht
    have ho := h.phase t ht
    refine .ite (fun _ => .refl k p) fun _ => .ite
      (fun _ => .ite (fun _ => guidingDone_keeps h.tickets hp ho g num p) fun _ => .refl k p) fun _ => ?_
    split
    · exact enterUndooring_keeps h.tickets ho g num p
    · exact enterGuiding_keeps h.tickets g num t p
    · exact guidingDone_keeps h.tickets hp ho g num p
    · exact enterClosing_keeps h.tickets ho (h.car t ht) g num p
    · exact completeTicket_keeps h (ha _ (by simp)) (ha.sub (by simp)) g
    · exact .refl k p

theorem checkAligning_keeps {p : Plant} {num : Nat} (h : k.Serves p num) (ha : k.has Kind.ofAdvance) (g : Ground) :
    Keeps k p (checkAligning g num p) := by
  unfold checkAligning
  split
  · exact .refl k p
  · exact .ite (fun _ => (modTicket_keeps h.tickets num _ p).trans
      (tryAdvance_keeps (h.modTicket (by exact fun _ => rfl) (by exact fun _ => rfl) (by exact fun _ => rfl)) ha g))
      fun _ => .refl k p

theorem sendMoves_keeps (k : Kinds) (w : Waits) (n : Nat) (p : Plant) : Keeps k p (sendMoves w n p) := by
  unfold sendMoves
  exact Keeps.trans (.ite (fun _ => send_keeps ..) fun _ => .refl k p) (.ite (fun _ => send_keeps ..) fun _ => .refl k _)

/-! ## Completions -/

/-- What a served ticket's completions, reports and timers write besides the ticket, its oven's phase and its car. -/
abbrev Kind.ofService : List Kind := [.log, .catchup, .pacing, .claim .pm, .claim .gc]

theorem Kinds.has.advance (h : k.has Kind.ofService) : k.has Kind.ofAdvance := h.sub (by simp)
theorem Kinds.has.abort (h : k.has Kind.ofService) : k.has Kind.ofAbort := h.sub (by simp)

theorem sendNext_keeps (k : Kinds) (m : Machine) (n : Nat) (w : Wait) (p : Plant) :
    Keeps k p (match w with
      | .waiting (.step next) => sendStep m next n p
      | _ => p) := by
  split
  · exact sendStep_keeps ..
  · exact .refl k p

theorem Plant.ticketOf?_eq_some {p : Plant} {n : Nat} {t : Ticket} (h : p.ticketOf? n = some t) :
    t ∈ p.tickets ∧ t.oven = n :=
  ⟨List.mem_of_find?_eq_some h, by simpa using List.find?_some h⟩

theorem machineDone_keeps {p : Plant} {m : Machine} {n : Nat} (h : ∀ t, p.ticketOf? n = some t → k.Serves p t.number)
    (ha : k.has Kind.ofAdvance) (g : Ground) (op : Op) : Keeps k p (machineDone g m op n p) := by
  unfold machineDone
  split
  · exact .refl k p
  · rename_i t ht
    refine .ite (fun _ => ?_) fun _ => .refl k p
    have hs := h t ht
    have served := hs.modTicket (f := fun t' => { t' with waits := t'.waits.setMachine m (waitAfter t op) })
      (by exact fun _ => rfl) (by exact fun _ => rfl) (by exact fun _ => rfl)
    refine ((modTicket_keeps hs.tickets _ _ p).trans (sendNext_keeps k m n (waitAfter t op) _)).trans
      (tryAdvance_keeps (served.congr ?_) ha g)
    split
    · exact sendStep_tickets ..
    · rfl

theorem carDone_keeps {p : Plant} {c : Car} (h : ∀ num, (p.car c).bound = some num → k.Serves p num)
    (ha : k.has Kind.ofAdvance) (g : Ground) (cmd : Cmd) : Keeps k p (carDone g c cmd p) := by
  unfold carDone
  split
  · exact .refl k p
  · rename_i num hb
    have hs := h num hb
    split
    · exact .refl k p
    · exact .ite (fun _ => (modTicket_keeps hs.tickets num _ p).trans
        (tryAdvance_keeps (hs.modTicket (by exact fun _ => rfl) (by exact fun _ => rfl) (by exact fun _ => rfl)) ha g))
        fun _ => .refl k p

end

end Sys2Proof.Machine
end

section
/-! SUPPORT. What the push sequencer's events, the schedule unit and the door unit's jobs may write (`Keeps`). -/

namespace Sys2Proof.Machine

open Sys2Proof.Safety

section
variable {k : Kinds}

/-! ## The push sequencer's events -/

theorem Kinds.Serves.of_writes {k' : Kinds} {p q : Plant} {num : Nat} (h : k.Serves p num) (w : Writes k' p q)
    (ht : k' .tickets = false) : k.Serves q num := h.congr (w.tickets ht)

theorem setClaim_writes_claim (g : Ground) (m : Machine) (c : Claim) (p : Plant) :
    Writes (fun | .claim _ => true | _ => false) p (setClaim g m c p) :=
  (setClaim_keeps rfl g c p).toWrites

/-- A step's entry leaves number, oven and car of its ticket. -/
theorem enterStep_serves {p : Plant} {num : Nat} (h : k.Serves p num) (g : Ground) (st : TicketState) (w : Waits) :
    k.Serves (enterStep g num st w p) num := by
  unfold enterStep
  split
  · exact h
  · exact (h.modTicket (by exact fun _ => rfl) (by exact fun _ => rfl) (by exact fun _ => rfl)).congr rfl

theorem sendMoves_tickets (w : Waits) (n : Nat) (p : Plant) : (sendMoves w n p).tickets = p.tickets :=
  (sendMoves_keeps (fun _ => false) w n p).tickets rfl

theorem enterAligning_keeps {p : Plant} {num : Nat} (h : k.Serves p num) (ha : k.has Kind.ofService) (g : Ground) :
    Keeps k p (enterAligning g num p) := by
  unfold enterAligning
  split
  · exact .refl k p
  · rename_i t ht
    dsimp only
    have claimed := (setClaim_keeps (m := .pm) (ha _ (by simp)) g (.ticket num) p).trans
      (setClaim_keeps (k := k) (m := .gc) (ha _ (by simp)) g (.ticket num) _)
    have served : k.Serves (setClaim g .gc (.ticket num) (setClaim g .pm (.ticket num) p)) num :=
      (h.of_writes (setClaim_writes_claim ..) rfl).of_writes (setClaim_writes_claim ..) rfl
    generalize setClaim g .gc (.ticket num) (setClaim g .pm (.ticket num) p) = q at *
    have served' := served.modTicket (f := fun t => { t with suspended := !g.running })
      (by exact fun _ => rfl) (by exact fun _ => rfl) (by exact fun _ => rfl)
    have marked := claimed.trans (modTicket_keeps h.tickets num (fun t => { t with suspended := !g.running }) q)
    generalize q.modTicket num (fun t => { t with suspended := !g.running }) = q at *
    have entered := marked.trans (enterStep_keeps h.tickets g num .aligning (alignWaits g q t) q)
    have served := enterStep_serves served' g .aligning (alignWaits g q t)
    have moved : Keeps k (enterStep g num .aligning (alignWaits g q t) q)
        (if g.running then sendMoves (alignWaits g q t) t.oven (enterStep g num .aligning (alignWaits g q t) q)
        else enterStep g num .aligning (alignWaits g q t) q) :=
      .ite (fun _ => sendMoves_keeps ..) fun _ => .refl k _
    have served : k.Serves (if g.running then sendMoves (alignWaits g q t) t.oven (enterStep g num .aligning (alignWaits g q t) q)
        else enterStep g num .aligning (alignWaits g q t) q) num := by
      split
      · exact served.congr (sendMoves_tickets ..)
      · exact served
    refine (entered.trans moved).trans ?_
    exact .ite (fun _ => abortTicket_keeps served ha.abort g _) fun _ =>
      .ite (fun _ => abortTicket_keeps served ha.abort g _) fun _ => tryAdvance_keeps served ha.advance g

theorem offerToTickets_keeps {p : Plant} (h : ∀ t ∈ p.tickets, k.Serves p t.number) (ha : k.has Kind.ofService) (g : Ground) :
    Keeps k p (offerToTickets g p) := by
  unfold offerToTickets
  refine .ite (fun _ => ?_) fun _ => .refl k p
  split
  · rename_i t ht
    exact enterAligning_keeps (h t (List.mem_of_find?_eq_some ht)) ha g
  · exact .refl k p

theorem isolationConfirmed_keeps (h : k .tickets = true) (n : Nat) (p : Plant) : Keeps k p (isolationConfirmed n p) := by
  unfold isolationConfirmed
  split
  · exact .refl k p
  · exact .ite (fun _ => (modTicket_keeps h _ _ p).trans (start_keeps ..)) fun _ => .refl k p

/-- The ticket of an oven, where there is one, may be served. -/
def Kinds.ServesOven (k : Kinds) (p : Plant) (n : Nat) : Prop := ∀ t, p.ticketOf? n = some t → k.Serves p t.number

theorem judgeLoad_tickets (g : Ground) (n load : Nat) (p : Plant) : (judgeLoad g n load p).tickets = p.tickets :=
  (judgeLoad_keeps (k := fun | .ovens | .oven _ => true | _ => false) (by simp [Kinds.has]) g load p).tickets rfl

theorem Plant.ticketOf?_congr {p q : Plant} (h : q.tickets = p.tickets) (n : Nat) : q.ticketOf? n = p.ticketOf? n := by
  unfold Plant.ticketOf?
  rw [h]

theorem Plant.ticketOf?_modTicket (p : Plant) (num n : Nat) {f : Ticket → Ticket} (hf : ∀ t, (f t).oven = t.oven) :
    (p.modTicket num f).ticketOf? n = (p.ticketOf? n).map fun t => if t.number = num then f t else t := by
  unfold Plant.ticketOf? Plant.modTicket
  dsimp only
  induction p.tickets with
  | nil => rfl
  | cons t l ih =>
    have : (if t.number = num then f t else t).oven = t.oven := by
      split
      · exact hf t
      · rfl
    by_cases ht : t.oven = n
    · simp [ht, this]
    · simp [ht, this, ih]

theorem ramAdvanced_keeps {p : Plant} {n : Nat} (h : k.ServesOven p n) (ha : k.has Kind.ofAdvance) (g : Ground)
    (load : Nat) (ho : k.has (Kind.ofOven n)) : Keeps k p (ramAdvanced g n load p) := by
  unfold ramAdvanced
  split
  · exact .refl k p
  · rename_i t ht
    refine .ite (fun _ => ?_) fun _ => .refl k p
    have hs := h t ht
    refine (modTicket_keeps hs.tickets _ _ p).trans <| (judgeLoad_keeps ho g load _).trans
      (machineDone_keeps (fun t' ht' => ?_) ha g .ramAdvance)
    rw [Plant.ticketOf?_congr (judgeLoad_tickets ..), Plant.ticketOf?_modTicket _ _ _ (by exact fun _ => rfl), ht] at ht'
    obtain rfl : (if t.number = t.number then { t with ram := some load } else t) = t' := Option.some.inj ht'
    rw [if_pos rfl]
    exact (hs.modTicket (f := fun t => { t with ram := some load })
      (by exact fun _ => rfl) (by exact fun _ => rfl) (by exact fun _ => rfl)).congr (judgeLoad_tickets ..)

theorem setCarState_tickets (g : Ground) (c : Car) (new : CarState) (p : Plant) :
    (setCarState g c new p).tickets = p.tickets :=
  (setCarState_writes (k := fun | .car _ => true | _ => false) rfl g new p).tickets rfl

theorem receiveDone_keeps {c : Car} {p : Plant} (hc : k.has (Kind.ofCar c))
    (h : ∀ num, (p.car c).bound = some num → k.Serves p num) (ha : k.has Kind.ofAdvance) (g : Ground) (n : Nat) :
    Keeps k p (receiveDone g c n p) := by
  unfold receiveDone
  refine .ite (fun hs => ?_) fun _ => .refl k p
  have hf : (p.car c).state = .atOven := by
    simp only [Bool.and_eq_true, decide_eq_true_eq] at hs
    exact hs.1
  have loading : Keeps k p (p.modCar c fun r => { r with loading := none }) :=
    modCar_keeps hc (fun hr => carSound_congr hr rfl rfl rfl rfl rfl) rfl id
  refine (loading.trans (setCarState_keeps hc g (by simp [hf]) (by decide) (by decide))).trans
    (carDone_keeps (fun num hb => ?_) ha g _)
  have hb : (p.car c).bound = some num := by simpa using hb
  exact (h num hb).congr (by rw [setCarState_tickets, Plant.modCar_tickets])

theorem carReported_keeps {c : Car} {p : Plant} (h : ∀ num, (p.car c).bound = some num → k.Serves p num)
    (ha : k.has Kind.ofService) (g : Ground) : Keeps k p (carReported g c p) := by
  unfold carReported
  split
  · exact .refl k p
  · rename_i num hb
    split
    · exact .refl k p
    · split
      · exact checkAligning_keeps (h num hb) ha.advance g
      · exact .ite (fun _ => .refl k p) fun _ => abortTicket_keeps (h num hb) ha.abort g _
      · exact .ite (fun _ => .refl k p) fun _ => abortTicket_keeps (h num hb) ha.abort g _
      · exact .ite (fun _ => .refl k p) fun _ => abortTicket_keeps (h num hb) ha.abort g _
      · exact .refl k p

theorem carFaulted_keeps {p : Plant} {num : Nat} (h : k.Serves p num) (ha : k.has Kind.ofAbort) (g : Ground) (c : Car)
    (reason : CarFault) : Keeps k p (carFaulted g c num reason p) := by
  unfold carFaulted
  split
  · exact .refl k p
  · split
    case h_6 => exact .refl k p
    all_goals exact abortTicket_keeps h ha g _

theorem ticketMachineReport_keeps {p : Plant} {num : Nat} (h : k.Serves p num) (ha : k.has Kind.ofService) (g : Ground)
    (m : Machine) : Keeps k p (ticketMachineReport g m num p) := by
  have judged : ∀ t : Ticket, Keeps k p (if g.atSpot m t.oven then p else abortTicket g num (.alignment m) p) := fun t =>
    .ite (fun _ => .refl k p) fun _ => abortTicket_keeps h ha.abort g _
  unfold ticketMachineReport
  split
  · exact .refl k p
  · rename_i t _
    split
    · exact checkAligning_keeps h ha.advance g
    · exact judged t
    · exact judged t
    · exact judged t
    · exact judged t
    · exact .refl k p

theorem ticketMachineLost_keeps {p : Plant} {num : Nat} (h : k.Serves p num) (ha : k.has Kind.ofAbort) (g : Ground)
    (reason : AbortReason) : Keeps k p (ticketMachineLost g num reason p) := by
  unfold ticketMachineLost
  split
  · exact .refl k p
  · exact .ite (fun _ => abortTicket_keeps h ha g _) fun _ => .refl k p

theorem stepReached_keeps {p : Plant} {num : Nat} (h : k.Serves p num) (ha : k.has Kind.ofAbort) (g : Ground) :
    Keeps k p (stepReached g num p) := by
  unfold stepReached
  split
  · exact .refl k p
  · split
    · exact .refl k p
    · exact .ite (fun _ => .refl k p) fun _ => abortTicket_keeps h ha g _

theorem pacingWaitReached_keeps {p : Plant} {num : Nat} (h : k.Serves p num) (hp : k .pacing = true) (g : Ground) :
    Keeps k p (pacingWaitReached g num p) := by
  unfold pacingWaitReached
  split
  · exact .refl k p
  · rename_i t ht
    split
    · exact .ite (fun _ => .refl k p) fun _ => enterPushing_keeps h.tickets hp (h.phase t ht) g num p
    · exact .refl k p

theorem suspendTickets_keeps (h : k .tickets = true) (p : Plant) : Keeps k p (suspendTickets p) where
  tickets x := Kinds.clash h x
  lists := fun ⟨tickets, catchup, ps, cs, log⟩ =>
    ⟨by simpa [suspendTickets] using tickets, catchup, ps, cs, log⟩

theorem resend_keeps (k : Kinds) (m : Machine) (n : Nat) (w : Wait) (p : Plant) : Keeps k p (resend m n w p) := by
  unfold resend
  split
  · exact sendStep_keeps ..
  · exact send_keeps ..
  · exact .refl k p

theorem resendCar_keeps (k : Kinds) (n : Nat) (o : Option Car) (w : Wait) (p : Plant) :
    Keeps k p (match o, w with
      | some c, .waiting (.step .receive) => sendReceive c n p
      | _, _ => p) := by
  split
  · exact sendReceive_keeps ..
  · exact .refl k p

theorem resumeTicket_keeps {p : Plant} {num : Nat} (h : k.Serves p num) (ha : k.has Kind.ofAdvance) (g : Ground) :
    Keeps k p (resumeTicket g num p) := by
  unfold resumeTicket
  split
  · exact .refl k p
  · refine .ite (fun _ => .refl k p) fun _ => ?_
    dsimp only
    exact .ite
      (fun _ => (modTicket_keeps h.tickets num _ p).trans
        (tryAdvance_keeps (h.modTicket (by exact fun _ => rfl) (by exact fun _ => rfl) (by exact fun _ => rfl)) ha g))
      fun _ => (modTicket_keeps h.tickets num _ p).trans <| (resend_keeps k .pm _ _ _).trans <|
        (resend_keeps k .gc _ _ _).trans <| (resendCar_keeps k _ _ _ _).trans (modTicket_keeps h.tickets num _ _)

theorem resumeTickets_keeps (g : Ground) (p : Plant) : Keeps .all p (resumeTickets g p) :=
  .foldl _ (fun num _ q => resumeTicket_keeps (Kinds.all_serves q num) (Kinds.all_has _) g) p

/-! ## The schedule unit -/

/-- What the issue of a ticket writes. -/
abbrev Kind.ofIssue (n : Nat) (c : Car) : List Kind :=
  Kind.ofPhase n ++ Kind.ofCar c ++ [.tickets, .counter, .cursor, .catchup, .latch]

theorem advanceCursor_keeps (h : k .cursor = true) (g : Ground) (p : Plant) : Keeps k p (advanceCursor g p) where
  cursor x := Kinds.clash h x

/-- A ticket joins the list under the ticket counter. -/
theorem addTicket_keeps (h : k.has [.tickets, .counter]) {p : Plant} (hp : p.tickets.length < 2) (t : Ticket) (next : Nat) :
    Keeps k p { p with tickets := p.tickets ++ [t], nextTicket := next } where
  tickets x := Kinds.clash (h _ (by simp)) x
  counter x := Kinds.clash (h _ (by simp)) x
  lists := fun ⟨_, catchup, ps, cs, log⟩ => ⟨by simpa using hp, catchup, ps, cs, log⟩

theorem bindCar_tickets (g : Ground) (c : Car) (num n : Nat) (p : Plant) : (bindCar g c num n p).tickets = p.tickets :=
  (bindCar_keeps (k := .track) (by simp [Kinds.has, Kinds.track]) g num n p).tickets rfl

theorem issueTicket_keeps {n : Nat} {c : Car} (h : k.has (Kind.ofIssue n c)) (g : Ground) (kind : TicketKind) {p : Plant}
    (hp : p.tickets.length < 2) : Keeps k p (issueTicket g kind n c p) := by
  have ho : k.has (Kind.ofPhase n) := h.sub (by simp)
  refine (bindCar_keeps (h.sub (by simp)) g p.nextTicket n p).trans <|
    (addTicket_keeps (h.sub (by simp)) (by rwa [bindCar_tickets]) _ _).trans <| (raise_keeps ..).trans <|
    (isolateForTicket_keeps ho.ovenOfPhase g _ _).trans <| (changePhase_keeps ho g _ _ _).trans <|
    Keeps.trans (.ite (fun _ => advanceCursor_keeps (h _ (by simp)) g _) fun _ => .refl k _) <|
    (dropCatchup_keeps (h.sub (by simp)) n _).trans (raise_keeps ..)

theorem listAtTail_keeps (h : k .catchup = true) (g : Ground) (n : Nat) (reason : PassReason) {p : Plant}
    (hp : p.catchup.length < 8) : Keeps k p (listAtTail g n reason p) :=
  (setCatchup_keeps h fun _ => by simpa using hp).trans (raise_keeps ..)

theorem catchupFull_keeps (h : k .latch = true) (g : Ground) (n : Nat) (reason : PassReason) (p : Plant) :
    Keeps k p (catchupFull g n reason p) := by
  have set : Keeps k p { p with catchLatch := true } := { latch := fun x => Kinds.clash h x }
  exact .ite (fun _ => set) fun _ => set.trans (raise_keeps ..)

theorem cursorStep_keeps (g : Ground) (fuel : Nat) {p : Plant} (hp : p.tickets.length < 2) :
    Keeps .all p (cursorStep g fuel p) := by
  induction fuel generalizing p with
  | zero => exact .refl .all p
  | succ fuel ih =>
    have advanced := (advanceCursor_keeps (k := .all) rfl g p).trans (ih (p := advanceCursor g p) hp)
    unfold cursorStep
    split
    · exact .refl .all p
    · split
      · exact issueTicket_keeps (Kinds.all_has _) g _ hp
      · exact .refl .all p
      · exact .refl .all p
      · exact advanced
      · refine .ite (fun _ => advanced) fun _ => .ite (fun hroom => ?_) fun _ => catchupFull_keeps rfl g _ _ p
        exact (listAtTail_keeps rfl g _ _ hroom).trans <| (advanceCursor_keeps rfl g _).trans (ih (by exact hp))

theorem evaluate_keeps (g : Ground) (p : Plant) : Keeps .all p (evaluate g p) := by
  unfold evaluate
  refine .ite (fun ha => ?_) fun _ => .refl .all p
  have hp : p.tickets.length < 2 := by
    unfold evaluationActs at ha
    simp only [Bool.and_eq_true, decide_eq_true_eq] at ha
    exact ha.1.1.2
  split
  · exact issueTicket_keeps (Kinds.all_has _) g _ hp
  · exact cursorStep_keeps g _ hp

theorem pacingReached_keeps (h : k .pacing = true) (g : Ground) (p : Plant) : Keeps k p (pacingReached g p) := by
  unfold pacingReached
  split
  · exact .refl k p
  · have dropped : Keeps k p { p with pacing := none } := { pacing := fun x => Kinds.clash h x }
    exact .ite (fun _ => .refl k p) fun _ => dropped.trans (start_keeps ..)

theorem removeCatchup_keeps (h : k.has [.catchup, .latch]) (n : Nat) (p : Plant) : Keeps k p (removeCatchup n p) :=
  .ite (fun _ => (dropCatchup_keeps h n p).trans (start_keeps ..)) fun _ => .refl k p

/-! ## Service jobs -/

/-- What a service job of a side writes. -/
abbrev Kind.ofJob (side : Side) : List Kind := [.list side, .job side, .claim (sideMachine side)]

theorem sendJob_keeps (k : Kinds) (side : Side) (n : Nat) (c : Cmd) (p : Plant) : Keeps k p (sendJob side n c p) := by
  unfold sendJob
  split
  · exact (forgetPresses_keeps ..).trans (send_keeps ..)
  · exact send_keeps ..
  · exact .refl k p

variable {side : Side}

theorem startJob_keeps (h : k.has (Kind.ofJob side)) (g : Ground) (n : Nat) (p : Plant) : Keeps k p (startJob g side n p) :=
  (takeHead_keeps (h.sub (by simp)) g _ p).trans <| (setClaim_keeps (h _ (by simp)) g _ _).trans (sendJob_keeps ..)

theorem testJob_keeps (h : k.has (Kind.ofJob side)) (g : Ground) (p : Plant) : Keeps k p (testJob g side p) := by
  unfold testJob
  split
  · exact startJob_keeps h g _ p
  · exact .refl k p

theorem releaseSide_keeps (h : k.has (Kind.ofJob side)) (g : Ground) (offered : Bool) (p : Plant) :
    Keeps k p (releaseClaims g [sideMachine side] offered p) :=
  releaseClaims_keeps (by simpa using h (.claim (sideMachine side)) (by simp)) g offered p

/-- A side's job is written. -/
theorem setJob_keeps (h : k.has (Kind.ofJob side)) (j : Option Job) (p : Plant) :
    Keeps k p (p.modSide side fun d => { d with job := j }) := modSide_keeps_job (h _ (by simp)) ⟨rfl, rfl⟩

theorem closeJob_keeps (h : k.has (Kind.ofJob side)) (g : Ground) (n : Nat) (p : Plant) : Keeps k p (closeJob g side n p) :=
  (releaseSide_keeps h g true p).trans <| (setJob_keeps h none _).trans (rejudge_keeps (h _ (by simp)) g n _)

theorem endJob_keeps (h : k.has (Kind.ofJob side)) (g : Ground) (n : Nat) (p : Plant) : Keeps k p (endJob g side n p) := by
  unfold endJob
  split
  · exact .ite (fun _ => (closeJob_keeps h g n p).trans (start_keeps ..)) fun _ => .refl k p
  · exact .refl k p

theorem abandonJob_keeps (h : k.has (Kind.ofJob side)) (g : Ground) (reason : WorkFault) (p : Plant) :
    Keeps k p (abandonJob g side reason p) := by
  unfold abandonJob
  split
  · exact (send_keeps ..).trans <| (closeJob_keeps h g _ _).trans <| (raise_keeps ..).trans (start_keeps ..)
  · exact .refl k p

theorem pressNow_keeps (h : k.has (Kind.ofJob side)) (j : Job) (p : Plant) : Keeps k p (pressNow side j p) :=
  (setJob_keeps h _ p).trans (sendJob_keeps ..)

theorem jobReport_keeps (h : k.has (Kind.ofJob side)) (g : Ground) (p : Plant) : Keeps k p (jobReport g side p) := by
  unfold jobReport
  split
  · exact .refl k p
  · split
    · exact .ite (fun _ => .refl k p) fun _ => pressNow_keeps h _ p
    · exact .refl k p
    · exact .refl k p
    · exact abandonJob_keeps h g _ p

theorem jobTimeout_keeps (h : k.has (Kind.ofJob side)) (g : Ground) (p : Plant) : Keeps k p (jobTimeout g side p) := by
  unfold jobTimeout
  split
  · exact .refl k p
  · split
    · exact .refl k p
    · exact .ite (fun _ => .refl k p) fun _ => abandonJob_keeps h g _ p

theorem suspendJob_keeps (h : k.has (Kind.ofJob side)) (p : Plant) : Keeps k p (suspendJob side p) :=
  modSide_keeps_job (h _ (by simp)) ⟨rfl, rfl⟩

theorem resumeJob_keeps (h : k.has (Kind.ofJob side)) (g : Ground) (p : Plant) : Keeps k p (resumeJob g side p) := by
  unfold resumeJob
  split
  · exact .refl k p
  · refine .ite (fun _ => ?_) fun _ => .refl k p
    dsimp only
    split
    · exact pressNow_keeps h _ p
    · exact (setJob_keeps h _ p).trans (sendJob_keeps ..)

theorem restartJob_keeps (h : k.has (Kind.ofJob side)) (g : Ground) (p : Plant) : Keeps k p (restartJob g side p) := by
  unfold restartJob
  split
  · exact .refl k p
  · exact (releaseSide_keeps h g false p).trans <| (setJob_keeps h none _).trans (rejudge_keeps (h _ (by simp)) g _ _)

end

end Sys2Proof.Machine
end

section
/-! SUPPORT. What the charge unit's operations and the follow-up events may write (`Keeps`), and what the taking of all follow-up
events of a command keeps. -/

namespace Sys2Proof.Machine

open Sys2Proof.Safety

section
variable {k : Kinds}

/-! ## The charge unit -/

/-- What an ask writes besides the phase of its oven. -/
abbrev Kind.ofAsk : List Kind := [.charge, .ask, .claim .pm]

theorem Kinds.has.askClaim (h : k.has Kind.ofAsk) : k (.claim .pm) = true := h _ (by simp)

/-- The pending ask is written. -/
theorem setAsk_keeps (h : k.has Kind.ofAsk) (a : Option Ask) (p : Plant) : Keeps k p { p with ask := a } where
  ask x := Kinds.clash (h _ (by simp)) x

/-- The charge record is written. -/
theorem setCharge_keeps (h : k.has Kind.ofAsk) (c : Option Charge) (p : Plant) : Keeps k p { p with charge := c } where
  charge x := Kinds.clash (h _ (by simp)) x

/-- The charge record and the pending ask are written. -/
theorem setChargeAsk_keeps (h : k.has Kind.ofAsk) (c : Option Charge) (a : Option Ask) (p : Plant) :
    Keeps k p { p with charge := c, ask := a } where
  charge x := Kinds.clash (h _ (by simp)) x
  ask x := Kinds.clash (h _ (by simp)) x

theorem releasePm_keeps (h : k (.claim .pm) = true) (g : Ground) (offered : Bool) (p : Plant) :
    Keeps k p (releaseClaims g [.pm] offered p) :=
  releaseClaims_keeps (by simpa using h) g offered p

theorem beginCharge_keeps (h : k.has Kind.ofAsk) {n : Nat} (ho : k.has (Kind.ofPhase n)) (g : Ground) (p : Plant) :
    Keeps k p (beginCharge g n p) :=
  (setChargeAsk_keeps h _ none p).trans <| (changePhase_keeps ho g _ _ _).trans <|
    (commandAspirate_keeps ho.ovenOfPhase _).trans <| (send_keeps ..).trans (send_keeps ..)

theorem tellWait_keeps (h : k.has Kind.ofAsk) (a : Ask) (reason : ChargeReason) (p : Plant) :
    Keeps k p (tellWait a reason p) :=
  .ite (fun _ => .refl k p) fun _ => (setAsk_keeps h _ p).trans (send_keeps ..)

theorem dropAsk_keeps (h : k.has Kind.ofAsk) (g : Ground) (p : Plant) : Keeps k p (dropAsk g p) := by
  unfold dropAsk
  split
  · exact .refl k p
  · exact .ite (fun _ => (setAsk_keeps h none p).trans <| (send_keeps ..).trans (releasePm_keeps h.askClaim g true _))
      fun _ => setAsk_keeps h none p

theorem prepareAsk_keeps (h : k.has Kind.ofAsk) {a : Ask} (ho : k.has (Kind.ofPhase a.oven)) (g : Ground) (p : Plant) :
    Keeps k p (prepareAsk g a p) := by
  have claimed : Keeps k p (setClaim g .pm .charge p) := setClaim_keeps h.askClaim g .charge p
  exact .ite (fun _ => .ite (fun _ => beginCharge_keeps h ho g p) fun _ => tellWait_keeps h a .preparing p)
    fun _ => .ite (fun _ => claimed.trans (beginCharge_keeps h ho g _))
      fun _ => claimed.trans <| (setAsk_keeps h _ _).trans <| (send_keeps ..).trans (send_keeps ..)

theorem recheckAsk_keeps (h : k.has Kind.ofAsk) {p : Plant} (ho : ∀ a, p.ask = some a → k.has (Kind.ofPhase a.oven))
    (g : Ground) : Keeps k p (recheckAsk g p) := by
  unfold recheckAsk
  split
  · exact .refl k p
  · rename_i a ha
    split
    · exact (send_keeps ..).trans (dropAsk_keeps h g _)
    · exact tellWait_keeps h a _ p
    · exact prepareAsk_keeps h (ho a ha) g p

theorem newAsk_keeps (h : k.has Kind.ofAsk) {n : Nat} (ho : k.has (Kind.ofPhase n)) (g : Ground) (p : Plant) :
    Keeps k p (newAsk g n p) := by
  unfold newAsk
  split
  · exact send_keeps ..
  · exact (dropAsk_keeps h g p).trans <| (setAsk_keeps h _ _).trans (send_keeps ..)
  · exact .ite (fun _ => (dropAsk_keeps h g p).trans (setAsk_keeps h _ _))
      fun _ => (dropAsk_keeps h g p).trans (prepareAsk_keeps h ho g _)

theorem repeatAsk_keeps (h : k.has Kind.ofAsk) {a : Ask} (ho : k.has (Kind.ofPhase a.oven)) (g : Ground) (p : Plant) :
    Keeps k p (repeatAsk g a p) := by
  unfold repeatAsk
  split
  · exact send_keeps ..
  · exact send_keeps ..
  · exact .ite (fun _ => send_keeps ..) fun _ => prepareAsk_keeps h ho g p

theorem chargeAsked_keeps (h : k.has Kind.ofAsk) {n : Nat} (ho : k.has (Kind.ofPhase n)) (g : Ground) (p : Plant) :
    Keeps k p (chargeAsked g n p) := by
  unfold chargeAsked
  split
  · exact .ite (fun he => repeatAsk_keeps h (by rw [he]; exact ho) g p) fun _ => newAsk_keeps h ho g p
  · exact newAsk_keeps h ho g p

theorem endCharge_keeps (h : k.has Kind.ofAsk) {c : Charge} (ho : k.has (Kind.ofPhase c.oven)) (g : Ground) (mass : Nat)
    (unconfirmed stopPm : Bool) (p : Plant) : Keeps k p (endCharge g c mass unconfirmed stopPm p) := by
  have ho' := ho.ovenOfPhase
  exact (setTarget_keeps ho' g mass p).trans <| (changePhase_keeps ho g _ _ _).trans <|
    Keeps.trans (.ite (fun _ => modOven_keeps ho' (by exact fun _ => rfl) _) fun _ => .refl k _) <|
    (beginAccrual_keeps ho' g _).trans <| (setOverdue_keeps ho' g _).trans <| (commandRegulate_keeps ho' g _).trans <|
    (setCharge_keeps h none _).trans <| Keeps.trans (.ite (fun _ => send_keeps ..) fun _ => .refl k _)
      (releasePm_keeps h.askClaim g true _)

/-- The oven of the charge may change its phase. -/
def Kinds.Charges (k : Kinds) (p : Plant) : Prop := ∀ c, p.charge = some c → k.has (Kind.ofPhase c.oven)

theorem completeCharge_keeps (h : k.has Kind.ofAsk) {p : Plant} (ho : k.Charges p) (g : Ground) :
    Keeps k p (completeCharge g p) := by
  unfold completeCharge
  split
  · exact .refl k p
  · rename_i c hc
    exact .ite (fun _ => (endCharge_keeps h (ho c hc) g _ _ _ p).trans (raise_keeps ..)) fun _ => .refl k p

/-- The charge record is written, and the charge completes if both flags are set. -/
theorem setCharge_completeCharge_keeps (h : k.has Kind.ofAsk) {p : Plant} (ho : k.Charges p) {c c' : Charge}
    (hc : p.charge = some c) (hc' : c'.oven = c.oven) (g : Ground) :
    Keeps k p (completeCharge g { p with charge := some c' }) := by
  refine (setCharge_keeps h (some c') p).trans (completeCharge_keeps h ?_ g)
  rintro _ ⟨⟩
  rw [hc']
  exact ho c hc

theorem chargeTimeout_keeps (h : k.has Kind.ofAsk) {p : Plant} (ho : k.Charges p) (g : Ground) :
    Keeps k p (chargeTimeout g p) := by
  unfold chargeTimeout
  split
  · exact .refl k p
  · rename_i c hc
    split
    · exact .refl k p
    · exact .ite (fun _ => .refl k p) fun _ => (endCharge_keeps h (ho c hc) g _ _ _ p).trans (raise_keeps ..)

theorem chargeEndReport_keeps (h : k.has Kind.ofAsk) {p : Plant} (ho : k.Charges p) (g : Ground) (n mass : Nat) :
    Keeps k p (chargeEndReport g n mass p) := by
  unfold chargeEndReport
  split
  · rename_i c hc
    exact .ite (fun _ => .ite (fun _ => .refl k p) fun _ => setCharge_completeCharge_keeps h ho hc (by exact rfl) g)
      fun _ => send_keeps ..
  · exact send_keeps ..

theorem levelDone_keeps (h : k.has Kind.ofAsk) {p : Plant} (ho : k.Charges p) (g : Ground) (n : Nat) :
    Keeps k p (levelDone g n p) := by
  unfold levelDone
  split
  · rename_i c hc
    exact .ite (fun _ => setCharge_completeCharge_keeps h ho hc (by exact rfl) g) fun _ => .refl k p
  · exact .refl k p

theorem faultLevel_keeps (h : k.has Kind.ofAsk) {p : Plant} (ho : k.Charges p) (g : Ground) (reason : WorkFault) :
    Keeps k p (faultLevel g reason p) := by
  unfold faultLevel
  split
  · rename_i c hc
    refine .ite (fun _ => ?_) fun _ => .refl k p
    refine (setCharge_keeps h (some { c with level := some (.faulted reason) }) p).trans <|
      (send_keeps ..).trans <| (raise_keeps ..).trans (completeCharge_keeps h ?_ g)
    rintro _ ⟨⟩
    exact ho c hc
  · exact .refl k p

theorem chargePmReport_keeps (h : k.has Kind.ofAsk) {p : Plant} (ho : k.Charges p)
    (ha : ∀ a, p.ask = some a → k.has (Kind.ofPhase a.oven)) (g : Ground) : Keeps k p (chargePmReport g p) := by
  unfold chargePmReport
  split
  · exact .ite (fun _ => .refl k p) fun _ => faultLevel_keeps h ho g _
  · exact recheckAsk_keeps h ha g

theorem chargePmFault_keeps (h : k.has Kind.ofAsk) {p : Plant} (ho : k.Charges p) (g : Ground) :
    Keeps k p (chargePmFault g p) := by
  unfold chargePmFault
  split
  · exact faultLevel_keeps h ho g _
  · split
    · exact .ite (fun _ => (dropAsk_keeps h g p).trans (send_keeps ..)) fun _ => .refl k p
    · exact .refl k p

theorem chargePmLost_keeps (h : k.has Kind.ofAsk) {p : Plant} (ho : k.Charges p) (g : Ground) :
    Keeps k p (chargePmLost g p) := by
  unfold chargePmLost
  split
  · exact faultLevel_keeps h ho g _
  · split
    · exact .ite
        (fun _ => (setAsk_keeps h _ p).trans <| (releasePm_keeps h.askClaim g true _).trans (send_keeps ..))
        fun _ => .refl k p
    · exact .refl k p

theorem suspendCharge_keeps (h : k.has Kind.ofAsk) (g : Ground) (p : Plant) : Keeps k p (suspendCharge g p) :=
  setCharge_keeps h _ p

theorem resumeCharge_keeps (h : k.has Kind.ofAsk) {p : Plant} (ho : k.Charges p) (g : Ground) :
    Keeps k p (resumeCharge g p) := by
  unfold resumeCharge
  split
  · rename_i c hc
    refine .ite (fun _ => ?_) fun _ => .refl k p
    dsimp only
    have resumed := setCharge_keeps h
      (some { c with suspended := false, timer := some (g.clock + c.remaining.getD 0), remaining := none }) p
    have charges : k.Charges { p with
        charge := some { c with suspended := false, timer := some (g.clock + c.remaining.getD 0), remaining := none } } := by
      rintro _ ⟨⟩
      exact ho c hc
    generalize ({ p with charge := _ } : Plant) = q at *
    have gone : ∀ q', Keeps k q' (if c.ccEnd then q' else send .cc (.chargeGo c.oven) q') := fun q' =>
      .ite (fun _ => .refl k q') fun _ => send_keeps ..
    have levelled : ∀ q', Keeps k q' (if c.level.isSome then q' else send .pm (.step .level c.oven) q') := fun q' =>
      .ite (fun _ => .refl k q') fun _ => send_keeps ..
    refine resumed.trans <| (gone q).trans <| (levelled _).trans (chargeTimeout_keeps h ?_ g)
    split <;> split <;> exact charges
  · exact .ite (fun _ => send_keeps ..) fun _ => .refl k p
  · exact .refl k p

theorem restartAsk_keeps (h : k.has Kind.ofAsk) (g : Ground) (p : Plant) : Keeps k p (restartAsk g p) := by
  unfold restartAsk
  split
  · exact .refl k p
  · have dropped := (setAsk_keeps h none p).trans (send_keeps k .cc (.chargeNo .restart) _)
    exact .ite (fun _ => dropped.trans (releasePm_keeps h.askClaim g false _)) fun _ => dropped

theorem doorChanged_keeps {n : Nat} {side : Side} (hl : k (.list side) = true) {p : Plant}
    (h : ∀ a, p.ask = some a → a.oven = n → k.has Kind.ofAsk ∧ k.has (Kind.ofPhase n)) (old : Door) (always : Bool)
    (g : Ground) : Keeps k p (doorChanged n side old always g p) := by
  have informed : ∀ (c : Bool) (b : NoticeBody), Keeps k p (rejudge g n side (if c then raise g b p else p)) := fun c b =>
    Keeps.trans (.ite (fun _ => raise_keeps ..) fun _ => .refl k p) (rejudge_keeps hl g n _)
  have ask : ∀ q : Plant, Keeps (fun | .list _ => true | _ => false) p q → q.ask = p.ask := fun q w => w.ask rfl
  have same : ∀ (c : Bool) (b : NoticeBody), (rejudge g n side (if c then raise g b p else p)).ask = p.ask := fun c b =>
    ask _ (Keeps.trans (.ite (fun _ => raise_keeps ..) fun _ => .refl _ p) (rejudge_keeps rfl g n _))
  unfold doorChanged
  dsimp only
  split
  · rename_i a ha
    refine .ite (fun he => ?_) fun _ => informed _ _
    have hp : p.ask = some a := (same _ _).symm.trans ha
    obtain ⟨hk, ho⟩ := h a hp he
    refine (informed _ _).trans (recheckAsk_keeps hk (fun b hb => ?_) g)
    cases hb.symm.trans ha
    rw [he]
    exact ho
  · exact informed _ _

end

/-! ## Follow-up events -/

theorem runTask_keeps (g : Ground) (t : Task) (p : Plant) : Keeps .all p (runTask g t p) := by
  have served : ∀ num, Kinds.all.Serves p num := Kinds.all_serves p
  cases t with
  | evaluate => exact evaluate_keeps g p
  | pacing => exact pacingReached_keeps rfl g p
  | offerTicket => exact offerToTickets_keeps (fun t _ => served t.number) (Kinds.all_has _) g
  | recheckAsk => exact recheckAsk_keeps (Kinds.all_has _) (fun _ _ => Kinds.all_has _) g
  | testJob side => exact testJob_keeps (Kinds.all_has _) g p
  | recheckTarget c => exact recheckTarget_keeps (Kinds.all_has _) g p
  | carReported c => exact carReported_keeps (fun num _ => served num) (Kinds.all_has _) g
  | carLoaded c => exact carDone_keeps (fun num _ => served num) (Kinds.all_has _) g .load
  | carFaulted c num reason => exact carFaulted_keeps (served num) (Kinds.all_has _) g c reason
  | readiness n => exact readinessReached_keeps (Kinds.all_has _) g p
  | overdue n => exact overdueReached_keeps (Kinds.all_has _) g p
  | dwell n => exact dwellReached_keeps (Kinds.all_has _) g p
  | drain c => exact drainReached_keeps (Kinds.all_has _) g p

/-- What is kept by an operation that writes anything. -/
structure Safe (p q : Plant) : Prop where
  ports : p.PortsBounded → q.PortsBounded := by exact id
  lists : p.ListsBounded → q.ListsBounded := by exact id
  spans : p.SpansApart → q.SpansApart := by exact id
  water : p.WaterHeld → q.WaterHeld := by exact id

theorem Keeps.safe {k : Kinds} {p q : Plant} (h : Keeps k p q) : Safe p q := ⟨h.ports, h.lists, h.spans, h.water⟩

theorem Safe.refl (p : Plant) : Safe p p where

theorem Safe.trans {p q r : Plant} (h : Safe p q) (h' : Safe q r) : Safe p r where
  ports x := h'.ports (h.ports x)
  lists x := h'.lists (h.lists x)
  spans x := h'.spans (h.spans x)
  water x := h'.water (h.water x)

/-- The follow-up events waiting do not matter to what is kept. -/
theorem safe_agenda (p : Plant) (l : List Task) : Safe p { p with agenda := l } where

theorem settle_safe (g : Ground) (fuel : Nat) (p : Plant) : Safe p (settle g fuel p) :=
  settle_induction (I := Safe p) g (fun q l h => h.trans (safe_agenda q l)) (fun t q h => h.trans (runTask_keeps g t q).safe)
    fuel p (.refl p)

end Sys2Proof.Machine
end

section
/-! SUPPORT. What the operations on a whole state may write. `Goes w s t` says of a state `t` that what only commands write is as
in `s` but for the items `w` names and the reports, that the waiting commands stay, and that the plant is kept safe. -/

namespace Sys2Proof.Machine

open Sys2Proof.Safety

/-! ## Items of the ground -/

/-- The parts of what only commands write, the reports apart. -/
inductive Item where
  | clock
  | lines
  | start
  | settings
  | store
  | run
  | sched
  | maint

/-- The items a command may write. -/
abbrev Items := Item → Bool

/-- What a command leaves of the state it is taken in. -/
structure Goes (w : Items) (s t : State) : Prop where
  clock : w .clock = false → t.ground.clock = s.ground.clock := by exact fun _ => rfl
  lines : w .lines = false → t.ground.estopLine = s.ground.estopLine ∧ t.ground.keyLine = s.ground.keyLine := by
    exact fun _ => ⟨rfl, rfl⟩
  start : w .start = false → t.ground.starting = s.ground.starting ∧ t.ground.resetHeld = s.ground.resetHeld ∧
    t.ground.partWritten = s.ground.partWritten := by exact fun _ => ⟨rfl, rfl, rfl⟩
  settings : w .settings = false → t.ground.params = s.ground.params ∧ t.ground.protection = s.ground.protection ∧
    t.ground.order = s.ground.order := by exact fun _ => ⟨rfl, rfl, rfl⟩
  store : w .store = false → t.ground.store = s.ground.store ∧ t.ground.storeOp = s.ground.storeOp ∧
    t.ground.verified = s.ground.verified := by exact fun _ => ⟨rfl, rfl, rfl⟩
  run : w .run = false → t.ground.runState = s.ground.runState := by exact fun _ => rfl
  sched : w .sched = false → t.ground.schedRunning = s.ground.schedRunning := by exact fun _ => rfl
  maint : w .maint = false → t.ground.maint = s.ground.maint := by exact fun _ => rfl
  pending : t.pending = s.pending := by rfl
  plant : Safe s.plant t.plant := by exact .refl _

theorem Goes.refl (w : Items) (s : State) : Goes w s s where

theorem Goes.trans {w : Items} {s t u : State} (h : Goes w s t) (h' : Goes w t u) : Goes w s u where
  clock x := (h'.clock x).trans (h.clock x)
  lines x := ⟨(h'.lines x).1.trans (h.lines x).1, (h'.lines x).2.trans (h.lines x).2⟩
  start x := ⟨(h'.start x).1.trans (h.start x).1, (h'.start x).2.1.trans (h.start x).2.1,
    (h'.start x).2.2.trans (h.start x).2.2⟩
  settings x := ⟨(h'.settings x).1.trans (h.settings x).1, (h'.settings x).2.1.trans (h.settings x).2.1,
    (h'.settings x).2.2.trans (h.settings x).2.2⟩
  store x := ⟨(h'.store x).1.trans (h.store x).1, (h'.store x).2.1.trans (h.store x).2.1,
    (h'.store x).2.2.trans (h.store x).2.2⟩
  run x := (h'.run x).trans (h.run x)
  sched x := (h'.sched x).trans (h.sched x)
  maint x := (h'.maint x).trans (h.maint x)
  pending := h'.pending.trans h.pending
  plant := h.plant.trans h'.plant

theorem Goes.ite {w : Items} {s t u : State} {c : Prop} [Decidable c] (h : c → Goes w s t) (h' : ¬c → Goes w s u) :
    Goes w s (if c then t else u) := by
  split
  · rename_i hc
    exact h hc
  · rename_i hc
    exact h' hc

theorem Goes.foldl {w : Items} {α : Type} {f : State → α → State} (l : List α) (hf : ∀ a s, Goes w s (f s a)) (s : State) :
    Goes w s (l.foldl f s) := by
  induction l generalizing s with
  | nil => exact .refl w s
  | cons a l ih => exact (hf a s).trans (ih (f s a))

/-! ## Ports -/

theorem portBounded_pump {x : PortState} (h : portBounded x) : portBounded x.pump :=
  ⟨by rw [x.pump_frame.1]; exact h.1, Nat.le_trans x.pump_queue_length h.2⟩

theorem portBounded_answer {x : PortState} (tag : Byte) (r : Reply) (h : portBounded x) : portBounded (x.answer tag r) :=
  portBounded_pump h

theorem portBounded_answerUrgent {x : PortState} (tag : Byte) (r : Reply) (h : portBounded x) :
    portBounded (x.answerUrgent tag r) := portBounded_pump h

theorem portBounded_arrival {x : PortState} (tag : Byte) (body : FrameBody) (h : portBounded x) :
    portBounded (x.arrival tag body) := by
  unfold PortState.arrival
  split
  · split
    · exact portBounded_answerUrgent tag _ h
    · split
      · rename_i hroom
        exact ⟨by rw [List.length_append]; exact hroom, h.2⟩
      · exact portBounded_answerUrgent tag _ h
  · exact portBounded_answerUrgent tag _ h
  · exact portBounded_answerUrgent tag _ h

theorem modPort_safe {p : Plant} {port : Port} {f : PortState → PortState} (hf : ∀ x, portBounded x → portBounded (f x)) :
    Safe p (p.modPort port f) := by
  cases port with
  | sup => exact { ports := fun h => ⟨hf _ h.1, h.2⟩ }
  | pnl => exact { ports := fun h => ⟨h.1, hf _ h.2⟩ }

section
variable {w : Items}

theorem State.modPort_goes (s : State) (port : Port) {f : PortState → PortState}
    (hf : ∀ x, portBounded x → portBounded (f x)) : Goes w s (s.modPort port f) where
  plant := modPort_safe hf

/-- A port's hold and queue stay. -/
theorem State.modPort_goes_of_eq (s : State) (port : Port) {f : PortState → PortState}
    (hf : ∀ x, (f x).hold = x.hold ∧ (f x).queue = x.queue) : Goes w s (s.modPort port f) :=
  s.modPort_goes port fun x h => by rw [portBounded, (hf x).1, (hf x).2]; exact h

theorem State.answer_goes (s : State) (port : Port) (tag : Byte) (r : Reply) : Goes w s (s.answer port tag r) :=
  s.modPort_goes port fun _ h => portBounded_answer tag r h

/-! ## Commands and requests -/

theorem State.opened_goes (s : State) : Goes w s s.opened where
  plant := {}

theorem State.work_goes {s : State} {f : Ground → Plant → Plant} (h : Safe s.plant (f s.ground s.plant)) : Goes w s (s.work f) where
  plant := h

theorem State.raise_goes (s : State) (b : NoticeBody) : Goes w s (s.raise b) := State.work_goes (raise_keeps .all ..).safe

theorem State.settled_goes (s : State) : Goes w s s.settled := State.work_goes (settle_safe ..)

theorem State.event_goes {s : State} {f : State → State} (h : Goes w s.opened (f s.opened)) : Goes w s (s.event f) :=
  (s.opened_goes.trans h).trans (State.settled_goes _)

theorem State.takeRequest_goes {s s₀ : State} {port : Port} {tag : Byte} {r : Request}
    (h : s.takeRequest port tag r = some s₀) : Goes w s s₀ := by
  rcases State.takeRequest_eq_some.1 h with ⟨_, rfl⟩ | ⟨rest, hhold, rfl⟩
  · exact .refl w _
  · have taken : ∀ x : PortState, x.hold = (tag, r) :: rest → portBounded x → portBounded { x with hold := rest } :=
      fun x hx hb => ⟨by have := hb.1; rw [hx, List.length_cons] at this; exact Nat.le_of_succ_le this, hb.2⟩
    refine { plant := ?_ }
    cases port with
    | sup => exact { ports := fun hb => ⟨taken _ hhold hb.1, hb.2⟩ }
    | pnl => exact { ports := fun hb => ⟨hb.1, taken _ hhold hb.2⟩ }

/-- What the taking of a request can come to: it is not the oldest in its hold, it is refused, or it is carried out (R172). -/
theorem State.serve_cases (s : State) (port : Port) (tag : Byte) (r : Request) (checks : State → List Check)
    (act : State → State × OkData) :
    s.serve port tag r checks act = s.opened ∨
      ∃ s₀, s.opened.takeRequest port tag r = some s₀ ∧
        ((∃ reply, firstRefusal (checks s₀) = some reply ∧ s.serve port tag r checks act = s₀.answer port tag reply) ∨
          firstRefusal (checks s₀) = none ∧
            s.serve port tag r checks act = (act s₀).1.settled.answer port tag (.ok (act s₀).2)) := by
  cases ht : s.opened.takeRequest port tag r with
  | none => exact .inl (State.serve_waits ht)
  | some s₀ =>
    refine .inr ⟨s₀, rfl, ?_⟩
    cases hr : firstRefusal (checks s₀) with
    | none => exact .inr ⟨rfl, State.serve_accepted ht hr⟩
    | some reply => exact .inl ⟨reply, rfl, State.serve_refused ht hr⟩

theorem State.serve_goes {s : State} {port : Port} {tag : Byte} {r : Request} {checks : State → List Check}
    {act : State → State × OkData} (h : ∀ s₀, firstRefusal (checks s₀) = none → Goes w s₀ (act s₀).1) :
    Goes w s (s.serve port tag r checks act) := by
  obtain e | ⟨s₀, ht, ⟨reply, _, e⟩ | ⟨hc, e⟩⟩ := s.serve_cases port tag r checks act
  · rw [e]
    exact s.opened_goes
  · rw [e]
    exact (s.opened_goes.trans (State.takeRequest_goes ht)).trans (State.answer_goes ..)
  · rw [e]
    exact (s.opened_goes.trans (State.takeRequest_goes ht)).trans <| (h s₀ hc).trans <|
      (State.settled_goes _).trans (State.answer_goes ..)

/-! ## Doors, mirrors, nodes and walls -/

theorem State.putDoor_goes (s : State) (n : Nat) (side : Side) (d : Door) (always : Bool) :
    Goes w s (s.putDoor n side d always) where
  plant := (doorChanged_keeps (k := .all) rfl (fun _ _ _ => ⟨Kinds.all_has _, Kinds.all_has _⟩) ..).safe

theorem State.setMirror_goes (s : State) (m : Machine) (r : Mirror) :
    Goes w s { s with ground := s.ground.setMirror m r } := by
  cases m <;> exact {}

theorem State.setNode_goes (s : State) (address : Nat) (r : NodeLine) :
    Goes w s { s with ground := s.ground.setNode address r } := by
  have same : (s.ground.setNode address r).toGroundBase = s.ground.toGroundBase := by
    unfold Ground.setNode
    split
    · rfl
    · split
      · rfl
      · split <;> rfl
  exact
    { clock := fun _ => congrArg GroundBase.clock same
      lines := fun _ => ⟨congrArg GroundBase.estopLine same, congrArg GroundBase.keyLine same⟩
      start := fun _ => ⟨congrArg GroundBase.starting same, congrArg GroundBase.resetHeld same,
        congrArg GroundBase.partWritten same⟩
      settings := fun _ => ⟨congrArg GroundBase.params same, congrArg GroundBase.protection same,
        congrArg GroundBase.order same⟩
      store := fun _ => ⟨congrArg GroundBase.store same, congrArg GroundBase.storeOp same,
        congrArg GroundBase.verified same⟩
      run := fun _ => congrArg GroundBase.runState same
      sched := fun _ => congrArg GroundBase.schedRunning same
      maint := fun _ => congrArg GroundBase.maint same }

theorem State.doorExtracted_goes (s : State) (n : Nat) (side : Side) : Goes w s (s.doorExtracted n side) := by
  unfold State.doorExtracted
  dsimp only
  split
  · exact .refl w s
  · exact .refl w s
  · exact .ite (fun _ => s.putDoor_goes ..) fun _ => s.raise_goes _

theorem State.doorReplaced_goes (s : State) (n : Nat) (side : Side) : Goes w s (s.doorReplaced n side) := by
  unfold State.doorReplaced
  dsimp only
  split
  · exact s.putDoor_goes ..
  · exact .refl w s

theorem State.pressFailed_goes (s : State) (n : Nat) (side : Side) (force : Nat) : Goes w s (s.pressFailed n side force) :=
  .ite (fun _ => (s.raise_goes _).trans <| (State.putDoor_goes ..).trans (State.raise_goes ..))
    fun _ => (s.raise_goes _).trans (State.putDoor_goes ..)

theorem State.doorPressed_goes (s : State) (n : Nat) (side : Side) (force : Nat) : Goes w s (s.doorPressed n side force) := by
  have judged : Goes w s
      (if inBand s.ground.params (min 400 force) then
        s.putDoor n side { state := .pressed, leak := 0, force := min 400 force, count := 0 }
      else s.pressFailed n side (min 400 force)) :=
    .ite (fun _ => s.putDoor_goes ..) fun _ => s.pressFailed_goes ..
  unfold State.doorPressed
  split
  · exact .refl w s
  · exact .refl w s
  · exact .refl w s
  · exact judged

theorem State.hangDoor_goes (s : State) (n : Nat) (side : Side) : Goes w s (s.hangDoor n side) :=
  .ite (fun _ => .refl w s) fun _ => s.putDoor_goes ..

theorem State.judgeTries_goes (s : State) (n : Nat) (side : Side) : Goes w s (s.judgeTries n side) := by
  unfold State.judgeTries
  dsimp only
  exact .ite (fun _ => (s.putDoor_goes ..).trans (State.raise_goes ..)) fun _ => .ite (fun _ => {}) fun _ => .refl w s

/-! ## The machine links and the offtake line -/

theorem machineReturned_safe (m : Machine) (g : Ground) (p : Plant) : Safe p (machineReturned m g p) := by
  cases m with
  | pm => exact ((testJob_keeps (k := .all) (Kinds.all_has _) g p).trans
      (recheckAsk_keeps (Kinds.all_has _) (fun _ _ => Kinds.all_has _) g)).safe
  | gc => exact (testJob_keeps (k := .all) (Kinds.all_has _) g p).safe
  | _ => exact .refl p

theorem State.contact_goes (s : State) (m : Machine) : Goes w s (s.contact m) := by
  have touched := State.setMirror_goes (w := w) s m (contacted s.ground (s.ground.mirror m))
  refine .ite (fun _ => touched) fun _ => (touched.trans ?_).trans (State.work_goes (machineReturned_safe ..))
  exact .ite (fun _ => State.raise_goes ..) fun _ => .refl w _

theorem State.received_goes (s : State) (link : Link) : Goes w s (s.received link) where

theorem State.record_goes {s : State} {m : Machine} {f : State → State} (h : ∀ s, Goes w s (f s)) : Goes w s (s.record m f) :=
  .ite (fun _ => s.received_goes _) fun _ => (s.received_goes _).trans <| (State.contact_goes ..).trans (h _)

theorem State.doneRecord_goes {s : State} {m : Machine} {op : Op} {f : State → State} (h : ∀ s, Goes w s (f s)) :
    Goes w s (s.doneRecord m op f) :=
  State.record_goes fun s => .ite (fun _ => h s) fun _ => .refl w s

theorem machineLost_safe (m : Machine) (g : Ground) (p : Plant) : Safe p (machineLost m g p) := by
  have recheck : ∀ q : Plant, Safe q (machineLost.recheckLost m g q) := fun q => by
    unfold machineLost.recheckLost
    split
    · exact (recheckAsk_keeps (k := .all) (Kinds.all_has _) (fun _ _ => Kinds.all_has _) g).safe
    · exact .refl q
  unfold machineLost
  split
  · split
    · exact (faultCar_keeps (k := .all) (Kinds.all_has _) g _ p).safe
    · exact .refl p
  · split
    · exact (dropAsk_keeps (k := .all) (Kinds.all_has _) g p).safe
    · exact (ticketMachineLost_keeps (Kinds.all_serves _ _) (Kinds.all_has _) g _).safe.trans (recheck _)
    · exact (abandonJob_keeps (k := .all) (Kinds.all_has _) g _ p).safe.trans (recheck _)
    · exact (chargePmLost_keeps (k := .all) (Kinds.all_has _) (fun _ _ => Kinds.all_has _) g).safe
    · exact recheck p

theorem State.silenceReached_goes (s : State) (m : Machine) : Goes w s (s.silenceReached m) := by
  unfold State.silenceReached
  split
  · exact .refl w s
  · exact .ite (fun _ => .refl w s) fun _ => (s.setMirror_goes m _).trans <| (State.raise_goes ..).trans
      (State.work_goes (machineLost_safe ..))

theorem State.resetSilence_goes (old : Nat) (s : State) (m : Machine) : Goes w s (State.resetSilence old s m) :=
  (s.setMirror_goes m _).trans (State.silenceReached_goes ..)

theorem reportHanded_safe (m : Machine) (changed : Bool) (g : Ground) (p : Plant) : Safe p (reportHanded m changed g p) := by
  unfold reportHanded
  split
  · split
    · exact (dropAsk_keeps (k := .all) (Kinds.all_has _) g p).safe
    · exact .refl p
  · exact (ticketMachineReport_keeps (Kinds.all_serves _ _) (Kinds.all_has _) g _).safe
  · exact (jobReport_keeps (k := .all) (Kinds.all_has _) g p).safe
  · exact (chargePmReport_keeps (k := .all) (Kinds.all_has _) (fun _ _ => Kinds.all_has _) (fun _ _ => Kinds.all_has _) g).safe
  · exact .refl p

theorem State.posRecord_goes (s : State) (m : Machine) (position : Nat) (moving loaded : Bool) :
    Goes w s (s.posRecord m position moving loaded) := by
  have heard : ∀ (s : State) (c : Prop) [Decidable c] (b : NoticeBody), Goes w s (if c then s.raise b else s) := fun s c _ b =>
    .ite (fun _ => s.raise_goes b) fun _ => .refl w s
  unfold State.posRecord
  dsimp only
  split
  · exact (s.setMirror_goes m _).trans <| (heard _ _ _).trans <| .ite
      (fun _ => State.work_goes (carReport_keeps (k := .all) (Kinds.all_has _) ..).safe) fun _ => .refl w _
  · exact (s.setMirror_goes m _).trans <| (heard _ _ _).trans (State.work_goes (reportHanded_safe ..))

theorem faultHanded_safe (m : Machine) (code : Nat) (g : Ground) (p : Plant) : Safe p (faultHanded m code g p) := by
  unfold faultHanded
  split
  · split
    · exact (faultCar_keeps (k := .all) (Kinds.all_has _) g _ p).safe
    · exact .refl p
  · split
    · exact (ticketMachineLost_keeps (Kinds.all_serves _ _) (Kinds.all_has _) g _).safe
    · exact (abandonJob_keeps (k := .all) (Kinds.all_has _) g _ p).safe
    · exact (chargePmFault_keeps (k := .all) (Kinds.all_has _) (fun _ _ => Kinds.all_has _) g).safe
    · exact .refl p

theorem State.faultRecord_goes (s : State) (m : Machine) (code : Nat) : Goes w s (s.faultRecord m code) :=
  (s.setMirror_goes m _).trans <| (State.raise_goes ..).trans (State.work_goes (faultHanded_safe ..))

theorem machineDone_safe (g : Ground) (m : Machine) (op : Op) (n : Nat) (p : Plant) : Safe p (machineDone g m op n p) :=
  (machineDone_keeps (fun _ _ => Kinds.all_serves _ _) (Kinds.all_has _) g op).safe

theorem extractEffect_goes (m : Machine) (n : Nat) (s : State) : Goes w s (extractEffect m n s) :=
  (s.doorExtracted_goes ..).trans (State.work_goes (machineDone_safe ..))

theorem replaceEffect_goes (m : Machine) (n : Nat) (s : State) : Goes w s (replaceEffect m n s) :=
  (s.doorReplaced_goes ..).trans (State.work_goes (machineDone_safe ..))

theorem pressEffect_goes (m : Machine) (n force : Nat) (s : State) : Goes w s (pressEffect m n force s) :=
  (s.doorPressed_goes ..).trans <| State.work_goes <| (pressAnswered_keeps .all ..).safe.trans <|
    (machineDone_safe ..).trans (endJob_keeps (k := .all) (Kinds.all_has _) ..).safe

theorem receiveEffect_goes (m : Machine) (n : Nat) (s : State) : Goes w s (receiveEffect m n s) := by
  unfold receiveEffect
  split
  · exact State.work_goes
      (receiveDone_keeps (Kinds.all_has _) (fun _ _ => Kinds.all_serves _ _) (Kinds.all_has _) ..).safe
  · exact .refl w s

theorem dumpEffect_goes (m : Machine) (s : State) : Goes w s (dumpEffect m s) := by
  unfold dumpEffect
  split
  · exact State.work_goes (dumpDone_keeps (k := .all) (Kinds.all_has _) ..).safe
  · exact .refl w s

theorem ramAdvanced_safe (g : Ground) (n load : Nat) (p : Plant) : Safe p (ramAdvanced g n load p) :=
  (ramAdvanced_keeps (fun _ _ => Kinds.all_serves _ _) (Kinds.all_has _) g load (Kinds.all_has _)).safe

theorem levelDone_safe (g : Ground) (n : Nat) (p : Plant) : Safe p (levelDone g n p) :=
  (levelDone_keeps (k := .all) (Kinds.all_has _) (fun _ _ => Kinds.all_has _) g n).safe

theorem chargeAsked_safe (g : Ground) (n : Nat) (p : Plant) : Safe p (chargeAsked g n p) :=
  (chargeAsked_keeps (k := .all) (Kinds.all_has _) (Kinds.all_has _) g p).safe

theorem chargeEndReport_safe (g : Ground) (n mass : Nat) (p : Plant) : Safe p (chargeEndReport g n mass p) :=
  (chargeEndReport_keeps (k := .all) (Kinds.all_has _) (fun _ _ => Kinds.all_has _) g n mass).safe

theorem recheckAskOf_keeps {k : Kinds} (h : k.has Kind.ofAsk) {n : Nat} (ho : k.has (Kind.ofPhase n)) (g : Ground) (p : Plant) :
    Keeps k p (recheckAskOf g n p) := by
  unfold recheckAskOf
  split
  · rename_i a ha
    refine .ite (fun he => recheckAsk_keeps h (fun b hb => ?_) g) fun _ => .refl k p
    cases hb.symm.trans ha
    rw [he]
    exact ho
  · exact .refl k p

theorem recheckAskOf_safe (g : Ground) (n : Nat) (p : Plant) : Safe p (recheckAskOf g n p) :=
  (recheckAskOf_keeps (k := .all) (Kinds.all_has _) (Kinds.all_has _) g p).safe

theorem recheckAsk_safe (g : Ground) (p : Plant) : Safe p (recheckAsk g p) :=
  (recheckAsk_keeps (k := .all) (Kinds.all_has _) (fun _ _ => Kinds.all_has _) g).safe

theorem Safe.ite {p q r : Plant} {c : Prop} [Decidable c] (h : Safe p q) (h' : Safe p r) : Safe p (if c then q else r) := by
  split
  · exact h
  · exact h'

theorem nodeReturned_safe (g : Ground) (address : Nat) (p : Plant) : Safe p (nodeReturned g address p) :=
  .ite (recheckAsk_safe g p) <| .ite (lookForGrant_keeps (k := .all) (c := .a) (Kinds.all_has _) g p).safe <|
    (start_keeps .all ..).safe.trans (recheckAskOf_safe ..)

theorem abortIsolating_safe (g : Ground) (n : Nat) (p : Plant) : Safe p (abortIsolating g n p) := by
  unfold abortIsolating
  split
  · exact .refl p
  · exact .ite (abortTicket_keeps (Kinds.all_serves _ _) (Kinds.all_has _) g _).safe (.refl p)

theorem nodeLost_safe (g : Ground) (address : Nat) (p : Plant) : Safe p (nodeLost g address p) := by
  have unconfirmed : ∀ b : Bool, Safe p
      (if b then p.modValve address fun v => { v with confirmed := false } else p) := fun b =>
    .ite (modValve_keeps (k := .all) (Kinds.all_has _) _ p).safe (.refl p)
  have handed : ∀ (b : Bool) (q : Plant), Safe q
      (if address = 0 then recheckAsk g q else if b then recheckAskOf g address (abortIsolating g address q) else q) :=
    fun b q => .ite (recheckAsk_safe g q) <| .ite ((abortIsolating_safe ..).trans (recheckAskOf_safe ..)) (.refl q)
  exact (unconfirmed _).trans <| (raise_keeps .all ..).safe.trans (handed _ _)

theorem mainStep_keeps {k : Kinds} (h : k .main = true) (g : Ground) (pressure : Int) (actual : Nat) (p : Plant) :
    Keeps k p (mainStep g pressure actual p) := by
  have written : ∀ (o : Option Nat) (sp : Option Int), Keeps k p { p with mainPosition := o, mainSetPoint := sp } := fun o sp =>
    { mainPosition := fun x => Kinds.clash h x
      mainSetPoint := fun x => Kinds.clash h x }
  unfold mainStep
  split
  · exact written _ p.mainSetPoint
  · exact written _ _

theorem judgeIsolation_keeps {k : Kinds} {n : Nat} (h : k.has (Kind.ofOven n)) (ht : k .tickets = true) (g : Ground)
    (carried : Carried) (actual : Nat) (p : Plant) : Keeps k p (judgeIsolation g n carried actual p) := by
  have valve : ∀ b : Bool, Keeps k p (p.modValve n fun v => { v with confirmed := b }) := fun b => modValve_keeps h _ p
  unfold judgeIsolation
  dsimp only
  refine .ite (fun _ => .refl k p) fun _ => .ite (fun _ => ?_) fun _ => ?_
  · exact .ite (fun _ => (valve false).trans (raise_keeps ..)) fun _ => valve false
  · split
    · exact .ite (fun _ => .refl k p) fun _ => (valve true).trans (isolationConfirmed_keeps ht n _)
    · exact .refl k p

theorem ovenStep_keeps {k : Kinds} {n : Nat} (h : k.has (Kind.ofOven n)) (g : Ground) (carried : Carried) (pressure : Int)
    (p : Plant) : Keeps k p (ovenStep g n carried pressure p) := by
  unfold ovenStep
  dsimp only
  split
  · exact modValve_keeps h _ p
  · exact .refl k p

theorem actOnReply_safe (g : Ground) (address : Nat) (carried : Carried) (reply : NodeReply) (p : Plant) :
    Safe p (actOnReply g address carried reply p) := by
  unfold actOnReply
  split
  · exact (sprayReported_keeps (k := .all) (Kinds.all_has _) ..).safe
  · exact .ite (mainStep_keeps (k := .all) rfl ..).safe <| (modValve_keeps (k := .all) (Kinds.all_has _) _ p).safe.trans <|
      (judgeIsolation_keeps (k := .all) (Kinds.all_has _) rfl ..).safe.trans (ovenStep_keeps (k := .all) (Kinds.all_has _) ..).safe

theorem replyTaken_safe (old : NodeLine) (x : Poll) (reply : NodeReply) (g : Ground) (p : Plant) :
    Safe p (replyTaken old x reply g p) := by
  have raised : ∀ (c : Prop) [Decidable c] (b : NoticeBody) (q : Plant), Safe q (if c then raise g b q else q) := fun c _ b q =>
    .ite (raise_keeps .all ..).safe (.refl q)
  have returned : Safe p
      (if old.online then p
      else nodeReturned g x.address
        (if old.miss = 3 then raise g (.nodeBack x.address (g.node x.address).values) p else p)) :=
    .ite (.refl p) ((raised _ _ p).trans (nodeReturned_safe ..))
  have acted : ∀ q : Plant, Safe q (if replyFaulted reply then q else actOnReply g x.address x.carried reply q) := fun q =>
    .ite (.refl q) (actOnReply_safe ..)
  exact returned.trans <| (raised _ _ _).trans (acted _)

theorem State.nextExchange_goes (s : State) (x : Poll) : Goes w s (s.nextExchange x) where

theorem State.otlReplied_goes (s : State) (address : Nat) (reply : NodeReply) : Goes w s (s.otlReplied address reply) := by
  unfold State.otlReplied
  dsimp only
  refine (s.received_goes .offtake).trans ?_
  generalize s.received .offtake = s
  split
  · exact .refl w s
  · refine .ite (fun _ => ?_) fun _ => .refl w s
    exact (s.setNode_goes address _).trans <| (State.work_goes (replyTaken_safe ..)).trans (State.nextExchange_goes ..)

theorem State.replyMissed_goes (s : State) : Goes w s s.replyMissed := by
  unfold State.replyMissed
  split
  · exact .refl w s
  · dsimp only
    exact (s.setNode_goes _ _).trans <| Goes.trans
      (.ite (fun _ => State.work_goes (nodeLost_safe ..)) fun _ => .refl w _) (State.nextExchange_goes ..)

end

end Sys2Proof.Machine
end

section
/-! SUPPORT. What settings, requests and the run state's events may write (`Goes`). -/

namespace Sys2Proof.Machine

open Sys2Proof.Safety

section
variable {w : Items}

/-! ## The run state -/

theorem State.setRunState_goes (h : w .run = true) (s : State) (new : RunState) (cause : RunCause) :
    Goes w s (s.setRunState new cause) := by
  have changed : Goes w s { s with ground := { s.ground with runState := new } } :=
    { run := fun x => by rw [h] at x; cases x }
  exact .ite (fun _ => changed.trans ((State.raise_goes ..).trans (State.raise_goes ..)))
    fun _ => changed.trans (State.raise_goes ..)

theorem suspendWork_safe (g : Ground) (p : Plant) : Safe p (suspendWork g p) :=
  (suspendTickets_keeps (k := .all) rfl p).safe.trans <| (suspendJob_keeps (k := .all) (Kinds.all_has _) _).safe.trans <|
    (suspendJob_keeps (k := .all) (Kinds.all_has _) _).safe.trans <|
    (suspendCharge_keeps (k := .all) (Kinds.all_has _) g _).safe.trans (recheckAsk_safe g _)

theorem State.halt_goes (h : w .run = true) (s : State) (new : RunState) (cause : RunCause) : Goes w s (s.halt new cause) :=
  (s.setRunState_goes h new cause).trans <|
    State.work_goes ((sendStops_keeps .all ..).safe.trans (suspendWork_safe ..))

theorem resumeWork_safe (g : Ground) (p : Plant) : Safe p (resumeWork g p) :=
  (resumeTickets_keeps g p).safe.trans <|
    (resumeCharge_keeps (k := .all) (Kinds.all_has _) (fun _ _ => Kinds.all_has _) g).safe.trans <|
    (resumeJob_keeps (k := .all) (Kinds.all_has _) g _).safe.trans <|
    (resumeJob_keeps (k := .all) (Kinds.all_has _) g _).safe.trans <|
    (resumeTrack_keeps (k := .all) (Kinds.all_has _) g _).safe.trans (startAll_keeps .all ..).safe

theorem State.goOn_goes (h : w .run = true) (s : State) : Goes w s s.goOn :=
  (s.setRunState_goes h ..).trans (State.work_goes (resumeWork_safe ..))

theorem State.stopSchedule_goes (h : w .sched = true) (s : State) : Goes w s s.stopSchedule := by
  have stopped : Goes w s { s with ground := { s.ground with schedRunning := false } } :=
    { sched := fun x => by rw [h] at x; cases x }
  exact stopped.trans (State.work_goes (announceWindow_keeps .all ..).safe)

theorem State.restartPorts_goes (s : State) : Goes w s s.restartPorts :=
  have emptied : ∀ (mask : Nat) (x : PortState), portBounded x → portBounded (x.restarted mask) := fun _ _ h =>
    ⟨h.1, Nat.zero_le _⟩
  (s.modPort_goes .sup (emptied _)).trans (State.modPort_goes _ .pnl (emptied _))

theorem State.restartMachines_goes (h : w .run = true) (s : State) : Goes w s s.restartMachines :=
  Goes.trans (.ite (fun _ => s.setRunState_goes h ..) fun _ => .refl w s) (State.work_goes (sendStops_keeps .all ..).safe)

theorem restartTickets_keeps (g : Ground) (p : Plant) : Keeps .all p (restartTickets g p) :=
  .foldl _ (fun num _ q => retireEarly_keeps (Kinds.all_serves q num) rfl (fun _ => Kinds.all_has _) (fun _ => rfl) g _) p

theorem restartWork_safe (g : Ground) (p : Plant) : Safe p (restartWork g p) :=
  (restartTickets_keeps g p).safe.trans <| (restartJob_keeps (k := .all) (Kinds.all_has _) g _).safe.trans <|
    (restartJob_keeps (k := .all) (Kinds.all_has _) g _).safe.trans <|
    (restartAsk_keeps (k := .all) (Kinds.all_has _) g _).safe.trans <|
    (restartCar_keeps (k := .all) (Kinds.all_has _) _).safe.trans (restartCar_keeps (k := .all) (Kinds.all_has _) _).safe

theorem restart_goes (hr : w .run = true) (hs : w .sched = true) (s : State) : Goes w s (restart s).1 :=
  s.restartPorts_goes.trans <| (State.restartMachines_goes hr _).trans <| (State.stopSchedule_goes hs _).trans <|
    (State.work_goes (restartWork_safe ..)).trans (State.raise_goes ..)

/-! ## Settings -/

theorem eachOven_keeps {k : Kinds} {g : Ground} {f : Nat → Plant → Plant} (hf : ∀ n p, Keeps k p (f n p)) (p : Plant) :
    Keeps k p (eachOven g f p) :=
  .foldl _ (fun n _ q => hf n q) p

theorem accrueAll_safe (g : Ground) (p : Plant) : Safe p (accrueAll g p) :=
  ((eachOven_keeps (k := .all) (fun _ q => accrue_keeps (Kinds.all_has _) g q) p).trans
    (eachOven_keeps (fun _ q => recomputeOven_keeps (Kinds.all_has _) g q) _)).safe

theorem staleChanged_keeps {k : Kinds} {v : Nat} (h : k.has [.ovens, .oven (v - 1), .oven v]) (old g : Ground) (p : Plant) :
    Keeps k p (staleChanged old g v p) :=
  .ite (fun _ => raise_keeps ..) fun _ => .ite
    (fun _ => (modOven_keeps (h.sub (by simp)) (by exact fun _ => rfl) p).trans
      (modOven_keeps (h.sub (by simp)) (by exact fun _ => rfl) _)) fun _ => .refl k p

theorem State.restale_goes (old : Ground) (s : State) : Goes w s (State.restale old s) := by
  have walls : Goes w s { s with ground := { s.ground with walls := (wallNumbers s.ground).map (restaled s.ground) } } := {}
  unfold State.restale
  dsimp only
  exact walls.trans <| State.work_goes ((eachOven_keeps (k := .all) (fun _ q => accrue_keeps (Kinds.all_has _) _ q) _).trans <|
    (Keeps.foldl _ (fun _ _ q => staleChanged_keeps (Kinds.all_has _) old _ q) _).trans
      (eachOven_keeps (fun _ q => recomputeOven_keeps (Kinds.all_has _) _ q) _)).safe

theorem State.reorder_goes (h : w .settings = true) (s : State) : Goes w s s.reorder :=
  .ite
    (fun _ =>
      { settings := fun x => by rw [h] at x; cases x
        plant := {} })
    fun _ => .refl w s

theorem repace_safe (old g : Ground) (p : Plant) : Safe p (repace old g p) :=
  (setPacing_keeps (k := .all) rfl g p).safe.trans (announceWindow_keeps .all ..).safe

theorem Keeps.when {k : Kinds} {p q : Plant} {c : Prop} [Decidable c] (h : Keeps k p q) : Keeps k p (if c then q else p) :=
  .ite (fun _ => h) fun _ => .refl k p

theorem retime_safe (g : Ground) (p : Plant) : Safe p (retime g p) :=
  (eachOven_keeps (k := .all) (fun _ q => (resetReadiness_keeps (Kinds.all_has _) g q).when) p).safe

theorem reoverdue_safe (g : Ground) (p : Plant) : Safe p (reoverdue g p) :=
  (eachOven_keeps (k := .all) (fun _ q => (setOverdue_keeps (Kinds.all_has _) g q).when) p).safe

theorem redwell_safe (g : Ground) (p : Plant) : Safe p (redwell g p) :=
  (eachOven_keeps (k := .all) (fun _ q => (setDwell_keeps (Kinds.all_has _) g q).when) p).safe

theorem rejudgePressed_safe (g : Ground) (p : Plant) : Safe p (rejudgePressed g p) :=
  (Keeps.foldl (k := .all) (allDoors g) (fun x _ q => (rejudge_keeps rfl g x.1 q).when) p).safe

theorem State.handOn_goes {id : ParamId} (h : id = .plan → w .settings = true) (old : Ground) (s : State) :
    Goes w s (State.handOn old id s) := by
  unfold State.handOn
  split
  · exact State.work_goes ((recheckTarget_keeps (k := .all) (Kinds.all_has _) _ _).trans
      (recheckTarget_keeps (Kinds.all_has _) _ _)).safe
  · exact s.reorder_goes (h rfl)
  · exact State.work_goes (repace_safe ..)
  · exact State.work_goes (repace_safe ..)
  · exact State.work_goes (announceWindow_keeps .all ..).safe
  · exact State.work_goes (accrueAll_safe ..)
  · exact s.restale_goes old
  · exact State.work_goes (retime_safe ..)
  · exact State.work_goes (reoverdue_safe ..)
  · exact State.work_goes {}
  · exact State.work_goes {}
  · exact State.work_goes (redwell_safe ..)
  · exact .foldl (allDoors s.ground) (fun x s => s.judgeTries_goes x.1 x.2) s
  · exact State.work_goes (rejudgePressed_safe ..)
  · exact .foldl _ (fun m s => State.resetSilence_goes _ s m) s
  · exact s.modPort_goes_of_eq .sup fun _ => ⟨rfl, rfl⟩
  · exact s.modPort_goes_of_eq .pnl fun _ => ⟨rfl, rfl⟩
  all_goals exact .refl w s

theorem State.takeParam_goes (h : w .settings = true) (s : State) (id : ParamId) (v : ParamValue) :
    Goes w s (s.takeParam id v) := by
  have set : Goes w s { s with ground := { s.ground with params := setParam s.ground.params id v } } :=
    { settings := fun x => by rw [h] at x; cases x }
  exact set.trans (State.handOn_goes (fun _ => h) ..)

theorem Plant.configure_safe (p : Plant) (n : Nat) : Safe p (p.configure n) where
  lists := fun ⟨tickets, _, _, _, log⟩ => ⟨tickets, Nat.zero_le _, Nat.zero_le _, Nat.zero_le _, log⟩
  spans _ :=
    have created : CarSound CarRecord.created := ⟨fun _ => rfl, nofun, nofun, nofun, nofun⟩
    ⟨created, created, nofun⟩
  water _ := .of_none fun c => by cases c <;> exact nofun

theorem State.configure_goes (h : w .settings = true) (s : State) (n split : Nat) : Goes w s (s.configure n split) where
  settings x := by rw [h] at x; cases x
  plant := s.plant.configure_safe n

theorem applySetting_goes (h : w .settings = true) (id : ParamId) (v : ParamValue) (s : State) :
    Goes w s (applySetting id v s).1 := by
  unfold applySetting
  split
  · exact s.configure_goes h ..
  · exact s.takeParam_goes h ..

theorem State.loadParam_goes (h : w .settings = true) (im : Params) (s : State) (id : ParamId) :
    Goes w s (State.loadParam im s id) := by
  unfold State.loadParam
  split
  · exact s.takeParam_goes h ..
  · exact .refl w s

theorem loadStore_goes (h : w .settings = true) (s : State) : Goes w s (loadStore s).1 := by
  unfold loadStore
  split
  · exact .refl w s
  · exact .foldl _ (fun id s => State.loadParam_goes h _ s id) s

/-! ## Requests of the ovens -/

theorem queryOven_goes (n : Nat) (s : State) : Goes w s (queryOven n s).1 := by
  unfold queryOven
  split <;> dsimp only
  · exact State.work_goes (accrualEvent_keeps (k := .all) (Kinds.all_has _) ..).safe
  · exact .refl w s

theorem restoreEmpty_keeps {k : Kinds} {n : Nat} (h : k.has (Kind.ofPhase n)) (g : Ground) (f : RestoreFields) (p : Plant) :
    Keeps k p (restoreEmpty g n f p) :=
  (changePhase_keeps h g _ _ p).trans <| (modOven_keeps h.ovenOfPhase (by exact fun _ => rfl) _).trans <|
    (commandIsolate_keeps h.ovenOfPhase _).trans (setDwell_keeps h.ovenOfPhase g _)

theorem testRestored_keeps {k : Kinds} {n : Nat} (h : k.has (Kind.ofPhase n)) (g : Ground) (p : Plant) :
    Keeps k p (testRestored g n p) :=
  .ite (fun _ => (becomeReady_keeps h g _ p).trans (recomputeOven_keeps h.ovenOfPhase g _)) fun _ => .refl k p

theorem restoreCoking_keeps {k : Kinds} {n : Nat} (h : k.has (Kind.ofPhase n)) (g : Ground) (f : RestoreFields) (p : Plant) :
    Keeps k p (restoreCoking g n f p) :=
  (changePhase_keeps h g _ _ p).trans <| (modOven_keeps h.ovenOfPhase (by exact fun _ => rfl) _).trans <|
    (setTarget_keeps h.ovenOfPhase g _ _).trans <| (beginAccrual_keeps h.ovenOfPhase g _).trans <|
    (testRestored_keeps h g _).trans <| (setOverdue_keeps h.ovenOfPhase g _).trans (commandRegulate_keeps h.ovenOfPhase g _)

theorem restoreOven_goes (n : Nat) (f : RestoreFields) (s : State) : Goes w s (restoreOven n f s).1 := by
  have restored : Goes w s
      (s.work fun g p => if f.phase = some .empty then restoreEmpty g n f p else restoreCoking g n f p) :=
    State.work_goes (.ite (restoreEmpty_keeps (k := .all) (Kinds.all_has _) ..).safe
      (restoreCoking_keeps (k := .all) (Kinds.all_has _) ..).safe)
  exact restored.trans <| (State.putDoor_goes ..).trans (State.putDoor_goes ..)

theorem serviceChanged_safe (n : Nat) (v : Service) (g : Ground) (p : Plant) : Safe p (serviceChanged n v g p) :=
  (removeCatchup_keeps (k := .all) (Kinds.all_has _) n p).when.safe.trans (recheckAskOf_safe ..)

theorem setService_goes (n : Nat) (v : Service) (s : State) : Goes w s (setService n v s).1 := by
  unfold setService
  split <;> dsimp only
  · exact .refl w s
  · exact State.work_goes
      ((modOven_keeps (k := .all) (Kinds.all_has _) (by exact fun _ => rfl) _).safe.trans (serviceChanged_safe ..))

theorem rangeChanged_safe (old g : Ground) (p : Plant) : Safe p (rangeChanged old g p) :=
  (eachOven_keeps (k := .all) (fun n q => (removeCatchup_keeps (Kinds.all_has _) n q).when) p).safe.trans
    (recheckAsk_safe ..)

theorem setRange_goes (h : w .maint = true) (range : Option (Nat × Nat)) (s : State) : Goes w s (setRange range s).1 := by
  have set : Goes w s { s with ground := { s.ground with maint := range } } :=
    { maint := fun x => by rw [h] at x; cases x }
  exact set.trans (State.work_goes (rangeChanged_safe ..))

/-- Storing readings writes the walls alone. -/
theorem Ground.storeWalls_eq (g : Ground) (first : Nat) (readings : List Int) :
    g.storeWalls first readings = { g with walls := (g.storeWalls first readings).walls } := by
  induction readings generalizing g first with
  | nil => rfl
  | cons r rest ih =>
    unfold Ground.storeWalls
    rw [ih]

theorem reportedOven_keeps {k : Kinds} {n : Nat} (h : k.has (Kind.ofOven n)) (g : Ground) (p : Plant) :
    Keeps k p (reportedOven g n p) :=
  .ite (fun _ => recomputeOven_keeps h g p) fun _ => modOven_keeps h (by exact fun _ => rfl) p

theorem State.storeWalls_goes (s : State) (first : Nat) (readings : List Int) :
    Goes w s { s with ground := s.ground.storeWalls first readings } := by
  rw [Ground.storeWalls_eq]
  exact {}

theorem reportWalls_goes (first : Nat) (readings : List Int) (s : State) : Goes w s (reportWalls first readings s).1 := by
  unfold reportWalls
  dsimp only
  exact (State.work_goes (Keeps.foldl (k := .all) _ (fun _ _ q => accrue_keeps (Kinds.all_has _) _ q) _).safe).trans <|
    (State.storeWalls_goes ..).trans <|
    State.work_goes (Keeps.foldl (k := .all) _ (fun _ _ q => reportedOven_keeps (Kinds.all_has _) _ q) _).safe

theorem setValve_keeps {k : Kinds} {n : Nat} (h : k.has (Kind.ofOven n)) (g : Ground) (form : ValveForm) (p : Plant) :
    Keeps k p (setValve g n form p) := by
  cases form with
  | regulate => exact commandRegulate_keeps h g p
  | hold => exact modValve_keeps h (fun v => { v with mode := .hold }) p
  | manual x => exact modValve_keeps h (fun v => { v with mode := .manual, position := some x }) p

/-! ## Requests of the push -/

theorem clearCatchup_keeps {k : Kinds} (h : k.has [.catchup, .latch]) (p : Plant) : Keeps k p (clearCatchup p) := by
  have cleared : Keeps k p { p with catchup := [], catchLatch := false } :=
    { catchup := fun x => Kinds.clash (h _ (by simp)) x
      latch := fun x => Kinds.clash (h _ (by simp)) x
      lists := fun ⟨tickets, _, ps, cs, log⟩ => ⟨tickets, Nat.zero_le _, ps, cs, log⟩ }
  exact .ite (fun _ => .refl k p) fun _ => cleared.trans (start_keeps ..)

/-- An accepted PUSH NOW finds room in the ticket list (R57). -/
theorem length_tickets_of_pushChecks {port : Port} {n : Nat} {force : Bool} {s : State}
    (h : firstRefusal (pushChecks port n force s) = none) : s.plant.tickets.length < 2 := by
  have := firstRefusal_eq_none.1 h ⟨2 ≤ s.plant.tickets.length, .busy, .listFull⟩ (by simp [pushChecks])
  simpa using this

theorem pushNow_goes {port : Port} {n : Nat} {force : Bool} {s : State} (h : s.plant.tickets.length < 2) :
    Goes w s (pushNow port n force s).1 := by
  unfold pushNow
  split
  · exact .refl w s
  · rename_i c _
    have issued : Safe s.plant (issueTicket s.ground (pushKind s.plant n force) n c s.plant) :=
      (issueTicket_keeps (k := .all) (Kinds.all_has _) s.ground _ h).safe
    dsimp only
    exact State.work_goes (.ite (issued.trans (start_keeps .all ..).safe) issued)

theorem releaseEnd_safe (t : Ticket) (full : Bool) (record : LogRecord) (g : Ground) (p : Plant) :
    Safe p (releaseEnd t full record g p) :=
  (commandRegulate_keeps (k := .all) (Kinds.all_has _) g p).when.safe.trans <|
    (releaseClaims_keeps (k := .all) (fun _ _ => rfl) g true _).safe.trans <| (writeLog_keeps (k := .all) rfl _ _).safe.trans <|
    (raise_keeps .all ..).safe.trans (startAll_keeps .all ..).safe

theorem releaseTicket_goes (num : Nat) (outcome : ReleaseOutcome) (s : State) : Goes w s (releaseTicket num outcome s).1 := by
  unfold releaseTicket
  split
  · exact .refl w s
  · rename_i t _
    have retired : ∀ b : Bool, Goes w s (s.work fun g p =>
        if b then returnOven g t.oven .clearedFull (dropTicket num p)
        else changePhase g t.oven .empty .clearedEmpty (dropTicket num p)) := fun b =>
      State.work_goes <| (dropTicket_keeps (k := .all) rfl num _).safe.trans <| .ite
        (returnOven_keeps (k := .all) (Kinds.all_has _) ..).safe (changePhase_keeps (k := .all) (Kinds.all_has _) ..).safe
    dsimp only
    exact (retired _).trans <| (State.hangDoor_goes ..).trans <| (State.hangDoor_goes ..).trans
      (State.work_goes (releaseEnd_safe ..))

/-! ## CAR SERVICE -/

/-- The record of a car in FAULT as it is brought back, its state apart (R161). -/
def recovered (r : CarRecord) : CarRecord :=
  { r with inService := true, fault := none, span := r.position.map fun x => (x, x) }

theorem carSound_recovered {r : CarRecord} (hr : CarSound r) (hf : r.state = .fault) (new : CarState) (hn : new ≠ .fault) :
    CarSound { recovered r with state := new } where
  unknown e := by
    have e : r.position = none := e
    simp [recovered, e]
  bounds l h e := by
    obtain ⟨x, _, ⟨⟩⟩ := Option.map_eq_some_iff.1 (show r.position.map (fun x => (x, x)) = some (l, h) from e)
    exact Nat.le_refl _
  granted x e := nomatch (hr.faulted hf).1.symm.trans e
  within _ x l h e e' := by
    have e : r.position = some x := e
    have e' : r.position.map (fun x => (x, x)) = some (l, h) := e'
    rw [e] at e'
    cases e'
    exact ⟨Nat.le_refl _, Nat.le_refl _⟩
  faulted e := absurd e hn

/-- A car in FAULT that stands in order is brought back with its spans apart (R161). -/
theorem carRecover_spans {g : Ground} {c : Car} {p : Plant} (hs : p.SpansApart) (hf : (p.car c).state = .fault)
    (ho : ∀ x, (p.car c).position = some x → ordered g p c x = true) : (carRecover g c p).SpansApart := by
  have apart : Apart c (recovered (p.car c)).span (p.car (otherCar c)).span := by
    unfold recovered
    cases hx : (p.car c).position with
    | none => exact .none c _
    | some x => exact .of_ordered (ho x hx)
  have enters : ∀ {new : CarState}, new ≠ .fault → ∀ f : CarRecord → CarRecord,
      CarSound { f (p.car c) with state := new } → (f (p.car c)).span = (recovered (p.car c)).span →
      (setCarState g c new (p.modCar c f)).SpansApart := fun {new} _ f hf' hspan => by
    refine Plant.SpansApart.congr (p := p.modCar c fun r => { f r with state := new })
      (modCar_spans hs hf' (by rw [show ({ f (p.car c) with state := new } : CarRecord).span = _ from hspan]; exact apart))
      fun d => ?_
    rw [setCarState_car, modCar_modCar]
  have parked : (setCarState g c .parked (p.modCar c recovered)).SpansApart :=
    enters (by decide) recovered (carSound_recovered (hs.sound c) hf .parked (by decide)) rfl
  have runs : (runToTower g c (setHot g c (p.modCar c recovered))).SpansApart := by
    refine requestTarget_spans ?_ (by simp)
    unfold setHot
    rw [modCar_modCar]
    exact enters (by decide) _
      (carSound_congr (carSound_recovered (hs.sound c) hf .runToTower (by decide)) rfl rfl rfl rfl rfl) rfl
  have rechecked : ∀ (b : Prop) [Decidable b] (q : Plant), q.SpansApart →
      (if b then start (.recheckTarget (otherCar c)) q else q).SpansApart := fun b _ q hq => by
    split
    · exact hq.congr fun _ => start_car ..
    · exact hq
  unfold carRecover
  dsimp only
  refine rechecked _ _ ?_
  split
  · exact runs
  · exact parked

theorem runToTower_writes {k : Kinds} {c : Car} (h : k.has (Kind.ofCar c)) (g : Ground) (p : Plant) :
    Writes k p (runToTower g c p) := (setCarState_writes h.car g _ p).trans (requestTarget_writes h g _ _)

theorem setHot_writes {k : Kinds} {c : Car} (h : k.has (Kind.ofCar c)) (g : Ground) (p : Plant) :
    Writes k p (setHot g c p) := modCar_writes h.car _ p

theorem runToTower_waterStays (g : Ground) (c : Car) (p : Plant) : WaterStays p (runToTower g c p) :=
  (setCarState_waterStays g (by decide) p).trans (requestTarget_waterStays ..)

/-- A car in FAULT that stands in order is brought back (R161). -/
theorem carRecover_keeps {k : Kinds} {c : Car} (h : k.has (Kind.ofCar c)) {g : Ground} {p : Plant}
    (hf : (p.car c).state = .fault) (ho : ∀ x, (p.car c).position = some x → ordered g p c x = true) :
    Keeps k p (carRecover g c p) := by
  refine .ofCar h (fun {k} h => ?_) (fun hs => carRecover_spans hs hf ho) ?_
  · have moved : ∀ (b : Bool) (q : Plant), Writes k q
        (if b then runToTower g c (setHot g c q) else setCarState g c .parked q) := fun b q => by
      split
      · exact (setHot_writes h g q).trans (runToTower_writes h g _)
      · exact setCarState_writes h.car g _ q
    have rechecked : ∀ (b : Prop) [Decidable b] (q : Plant), Writes k q
        (if b then start (.recheckTarget (otherCar c)) q else q) := fun b _ q => by
      split
      · exact (start_keeps ..).toWrites
      · exact .refl k q
    exact (modCar_writes h.car _ p).trans <| (moved _ _).trans (rechecked _ _)
  · have moved : ∀ (b : Bool) (q : Plant), WaterStays q
        (if b then runToTower g c (setHot g c q) else setCarState g c .parked q) := fun b q => by
      split
      · exact (modCar_waterStays id).trans (runToTower_waterStays ..)
      · exact setCarState_waterStays g (by decide) q
    have rechecked : ∀ (b : Prop) [Decidable b] (q : Plant), WaterStays q
        (if b then start (.recheckTarget (otherCar c)) q else q) := fun b _ q => by
      split
      · exact start_waterStays ..
      · exact .refl q
    exact ((modCar_waterStays (f := recovered) id).trans <| (moved _ _).trans (rechecked _ _)).held

theorem carOut_keeps {k : Kinds} {c : Car} (h : k.has (Kind.ofCar c)) (p : Plant) : Keeps k p (carOut c p) :=
  modCar_keeps h (fun hr => carSound_congr hr rfl rfl rfl rfl rfl) rfl id

theorem carIn_keeps {k : Kinds} {c : Car} (h : k.has (Kind.ofCar c)) {g : Ground} {p : Plant}
    (ho : (p.car c).state = .fault → ∀ x, (p.car c).position = some x → ordered g p c x = true) :
    Keeps k p (carIn g c p) := by
  have served : Keeps k p (p.modCar c fun r => { r with inService := true }) :=
    modCar_keeps h (fun hr => carSound_congr hr rfl rfl rfl rfl rfl) rfl id
  exact .ite (fun hf => carRecover_keeps h hf (ho hf)) fun _ => .ite (fun _ => served.trans (start_keeps ..)) fun _ => served

/-- A car in FAULT is brought back only where it stands in order (R161, check 3). -/
theorem ordered_of_carServiceChecks {c : Car} {s : State} (h : firstRefusal (carServiceChecks c .inService s) = none)
    (hf : (s.plant.car c).state = .fault) (x : Nat) (hx : (s.plant.car c).position = some x) :
    ordered s.ground s.plant c x = true := by
  simp only [carServiceChecks, hf, if_true] at h
  have := firstRefusal_eq_none.1 h ⟨(s.plant.car c).position.any fun x => !ordered s.ground s.plant c x, .state, .order⟩
    (by simp)
  simpa [hx] using this

/-! ## Walls -/

theorem State.wallStaled_goes (s : State) (v : Nat) : Goes w s (s.wallStaled v) := by
  unfold State.wallStaled
  dsimp only
  split
  · exact .refl w s
  · refine .ite (fun _ => .refl w s) fun _ => ?_
    have accrued : Goes w s (s.work fun g p => accrue g v (accrue g (v - 1) p)) :=
      State.work_goes ((accrue_keeps (k := .all) (Kinds.all_has _) _ _).trans (accrue_keeps (Kinds.all_has _) _ _)).safe
    have dropped : ∀ s : State, Goes w s
        { s with ground := { s.ground with walls := updateNumbered s.ground.walls v fun r => { r with expiry := none } } } :=
      fun _ => {}
    exact accrued.trans <| (dropped _).trans <| (State.raise_goes ..).trans <| State.work_goes
      ((recomputeOven_keeps (k := .all) (Kinds.all_has _) _ _).trans (recomputeOven_keeps (Kinds.all_has _) _ _)).safe

end

end Sys2Proof.Machine
end

section
/-! SUPPORT. What every command may write (`exec_goes`): the items of the ground that `commandItems` names for it, and a plant that
is kept safe. -/

namespace Sys2Proof.Machine

open Sys2Proof.Safety

section
variable {w : Items}

/-! ## Frames found by the receivers -/

theorem doneEffect_goes (m : Machine) (n value : Nat) (op : Op) (s : State) : Goes w s (doneEffect m n value op s) := by
  have worked : ∀ f : Ground → Plant → Plant, Safe s.plant (f s.ground s.plant) → Goes w s (s.work f) :=
    fun f h => State.work_goes h
  cases op with
  | extract => exact extractEffect_goes m n s
  | replace => exact replaceEffect_goes m n s
  | press => exact pressEffect_goes m n value s
  | receive => exact receiveEffect_goes m n s
  | dump => exact dumpEffect_goes m s
  | ramAdvance => exact worked (fun g => ramAdvanced g n value) (ramAdvanced_safe ..)
  | level => exact worked (fun g => Machine.levelDone g n) (levelDone_safe ..)
  | guideLock => exact worked (fun g => machineDone g m .guideLock n) (machineDone_safe ..)
  | guideRelease => exact worked (fun g => machineDone g m .guideRelease n) (machineDone_safe ..)
  | ramReturn => exact worked (fun g => machineDone g m .ramReturn n) (machineDone_safe ..)

theorem State.machineFrame_goes (s : State) (m : Machine) (r : MachineRecord) : Goes w s (s.machineFrame m r) := by
  cases r with
  | pos position moving loaded => exact State.record_goes fun s => s.posRecord_goes ..
  | done op n value => exact State.doneRecord_goes fun s => doneEffect_goes m n value op s
  | fault code => exact State.record_goes fun s => s.faultRecord_goes ..
  | chargeAsk n =>
    exact .ite (fun _ => State.record_goes fun s => State.work_goes (chargeAsked_safe ..)) fun _ => .refl w s
  | chargeEnd n mass =>
    exact .ite (fun _ => State.record_goes fun s => State.work_goes (chargeEndReport_safe ..)) fun _ => .refl w s

theorem State.frameArrived_goes (link : Link) (s : State) (f : Frame) : Goes w s (State.frameArrived link s f) := by
  unfold State.frameArrived
  split
  · exact s.modPort_goes _ fun _ h => portBounded_arrival _ _ h
  · split
    · exact (s.machineFrame_goes ..).trans (State.settled_goes _)
    · exact .refl w s
  · split
    · exact (s.otlReplied_goes ..).trans (State.settled_goes _)
    · exact .refl w s

theorem State.setRx_goes (s : State) (link : Link) (bytes : List Byte) : Goes w s (s.setRx link bytes) where

theorem State.portFrame_goes (s : State) (port : Port) (tag : Byte) (body : FrameBody) :
    Goes w s (s.portFrame port tag body) :=
  (s.received_goes _).trans (State.modPort_goes _ _ fun _ h => portBounded_arrival _ _ h)

/-! ## Start-up and the store -/

theorem State.coldStarted_goes (s : State) (byResetLine : Bool) : Goes (fun _ => true) s (s.coldStarted byResetLine) where
  clock := nofun
  lines := nofun
  start := nofun
  settings := nofun
  store := nofun
  run := nofun
  sched := nofun
  maint := nofun
  plant :=
    { ports := fun _ => ⟨⟨Nat.zero_le _, Nat.zero_le _⟩, Nat.zero_le _, Nat.zero_le _⟩
      lists := fun _ => ⟨Nat.zero_le _, Nat.zero_le _, Nat.zero_le _, Nat.zero_le _, Nat.zero_le _⟩
      spans := fun _ =>
        have created : CarSound CarRecord.created := ⟨fun _ => rfl, nofun, nofun, nofun, nofun⟩
        ⟨created, created, nofun⟩
      water := fun _ => .of_none fun c => by cases c <;> exact nofun }

theorem State.storeEnds_goes (h : w .store = true) (s : State) (store : StoreState) (im : Option Image) :
    Goes w s (s.storeEnds store im) where
  store x := by rw [h] at x; cases x

theorem State.storeFails_goes (h : w .store = true) (s : State) (failure : StoreFailure) : Goes w s (s.storeFails failure) :=
  (s.storeEnds_goes h ..).trans (State.raise_goes ..)

/-- The items that the store read's end writes. -/
def Items.ofStoreRead : Items
  | .start | .settings | .store | .run => true
  | _ => false

theorem State.openLinks_goes (h : w .run = true) (s : State) : Goes w s s.openLinks := by
  have masked : Goes w s
      ((s.modPort .sup fun x => { x with mask := s.ground.params.supMask }).modPort .pnl fun x =>
        { x with mask := s.ground.params.pnlMask }) :=
    (s.modPort_goes_of_eq .sup (f := fun x => { x with mask := s.ground.params.supMask }) fun _ => ⟨rfl, rfl⟩).trans
      (State.modPort_goes_of_eq _ .pnl (f := fun x => { x with mask := s.ground.params.pnlMask }) fun _ => ⟨rfl, rfl⟩)
  have polled : ∀ s : State, Goes w s { s with ground := { s.ground with poll := some (firstPoll s.plant) } } := fun _ => {}
  exact masked.trans <| (polled _).trans <| .ite (fun _ => State.halt_goes h ..) fun _ => .refl w _

theorem State.leaveStarting_goes (s : State) (store : StoreState) (im : Option Image) (failure : Option StoreFailure) :
    Goes .ofStoreRead s (s.leaveStarting store im failure) := by
  have read : Goes .ofStoreRead s { s with ground := s.ground.storeRead store im } :=
    { start := nofun
      settings := nofun
      store := nofun }
  have failed : ∀ s : State, Goes .ofStoreRead s
      (match failure with
      | some f => s.raise (.storeFail f)
      | none => s) := fun s => by
    cases failure with
    | none => exact .refl _ s
    | some f => exact s.raise_goes _
  have configured : ∀ (n split : Option Nat) (s : State), Goes .ofStoreRead s
      (match n, split with
      | some n, some split => s.configure n split
      | _, _ => s) := fun n split s => by
    split
    · exact s.configure_goes rfl ..
    · exact .refl _ s
  exact read.trans <| (State.openLinks_goes rfl _).trans <| (failed _).trans (configured _ _ _)

end

/-! ## Every command -/

/-- The items of the ground that a command may write. -/
def commandItems : Instr → Items
  | .coldStart _ => fun _ => true
  | .resetLineRelease => fun | .start => true | _ => false
  | .storeReadEnd _ | .storeReadTimeout => .ofStoreRead
  | .batteryClockTick => fun | .clock => true | _ => false
  | .estopAsserted => fun | .lines | .run => true | _ => false
  | .estopReleased | .keyLineChange _ => fun | .lines => true | _ => false
  | .maintRange .. => fun | .maint => true | _ => false
  | .schedStart .. | .schedStop .. => fun | .sched => true | _ => false
  | .pause .. | .resume .. => fun | .run => true | _ => false
  | .restart .. => fun | .run | .sched => true | _ => false
  | .paramSet .. | .storeLoad .. | .protectSet .. => fun | .settings => true | _ => false
  | .storeSave .. | .storeErase .. | .storeSaveEnd _ | .storeSaveTimeout | .storeEraseEnd _ | .storeEraseTimeout =>
    fun | .store => true | _ => false
  | _ => fun _ => false

/-- Every command answers a next state, and writes no item of the ground but those it may. -/
theorem exec_goes (c : Instr) (s : State) : ∃ t, exec c s = .next t ∧ Goes (commandItems c) s t := by
  cases c with
  | coldStart byResetLine => exact ⟨_, rfl, s.coldStarted_goes byResetLine⟩
  | resetLineRelease => exact ⟨_, rfl, s.opened_goes.trans { start := nofun }⟩
  | storeReadEnd found =>
    exact ⟨_, rfl, State.event_goes (.ite (fun _ => State.leaveStarting_goes ..) fun _ => .refl _ _)⟩
  | storeReadTimeout =>
    exact ⟨_, rfl, State.event_goes (.ite (fun _ => State.leaveStarting_goes ..) fun _ => .refl _ _)⟩
  | batteryClockTick =>
    exact ⟨_, rfl, .ite (fun _ => s.opened_goes) fun _ => s.opened_goes.trans { clock := nofun }⟩
  | estopAsserted =>
    have line : ∀ s : State, Goes (commandItems .estopAsserted) s { s with ground := { s.ground with estopLine := true } } :=
      fun s => { lines := nofun }
    exact ⟨_, rfl, State.event_goes (.ite (fun _ => line _) fun _ => (line _).trans (State.halt_goes rfl ..))⟩
  | estopReleased =>
    have line : ∀ s : State, Goes (commandItems .estopReleased) s { s with ground := { s.ground with estopLine := false } } :=
      fun s => { lines := nofun }
    exact ⟨_, rfl, State.event_goes (.ite (fun _ => line _) fun _ => (line _).trans (State.raise_goes ..))⟩
  | keyLineChange asserted => exact ⟨_, rfl, State.event_goes { lines := nofun }⟩
  | requestFrameArrival port tag body => exact ⟨_, rfl, s.opened_goes.trans (State.portFrame_goes ..)⟩
  | frameGapTimeout link bytes =>
    exact ⟨_, rfl, s.opened_goes.trans ((Goes.foldl _ (fun f s => s.frameArrived_goes link f) _).trans (State.received_goes ..))⟩
  | portFrameSent port =>
    exact ⟨_, rfl, s.opened_goes.trans (State.modPort_goes _ port fun x h => portBounded_pump (x := { x with sending := none }) h)⟩
  | status port tag sec => exact ⟨_, rfl, State.serve_goes fun s _ => s.modPort_goes_of_eq port fun _ => ⟨rfl, rfl⟩⟩
  | ovenQuery port tag n => exact ⟨_, rfl, State.serve_goes fun s _ => queryOven_goes n s⟩
  | ovenRestore port tag n fields => exact ⟨_, rfl, State.serve_goes fun s _ => restoreOven_goes n fields s⟩
  | ovenService port tag n state => exact ⟨_, rfl, State.serve_goes fun s _ => setService_goes n _ s⟩
  | ovenHold port tag n value =>
    exact ⟨_, rfl, State.serve_goes fun s _ => by
      dsimp only
      exact State.work_goes (modOven_keeps (k := .all) (Kinds.all_has _) (by exact fun _ => rfl) _).safe⟩
  | maintRange port tag range => exact ⟨_, rfl, State.serve_goes fun s _ => setRange_goes rfl range s⟩
  | ovenTrim port tag n trim =>
    exact ⟨_, rfl, State.serve_goes fun s _ => by
      dsimp only
      exact State.work_goes (modOven_keeps (k := .all) (Kinds.all_has _) (by exact fun _ => rfl) _).safe⟩
  | wallReport port tag first count readings =>
    exact ⟨_, rfl, .ite (fun _ => State.serve_goes fun s _ => reportWalls_goes first readings s)
      fun _ => s.opened_goes.trans (State.portFrame_goes ..)⟩
  | schedStart port tag =>
    have set : ∀ s : State, Goes (commandItems (.schedStart port tag)) s
        { s with ground := { s.ground with schedRunning := true } } := fun s => { sched := nofun }
    exact ⟨_, rfl, State.serve_goes fun s _ => by
      dsimp only
      exact (set s).trans (State.work_goes (start_keeps .all ..).safe)⟩
  | schedStop port tag => exact ⟨_, rfl, State.serve_goes fun s _ => s.stopSchedule_goes rfl⟩
  | cursorSet port tag index => exact ⟨_, rfl, State.serve_goes fun s _ => { plant := {} }⟩
  | catchupClear port tag =>
    exact ⟨_, rfl, State.serve_goes fun s _ => by
      dsimp only
      exact State.work_goes (clearCatchup_keeps (k := .all) (Kinds.all_has _) _).safe⟩
  | pushNow port tag n force =>
    exact ⟨_, rfl, State.serve_goes fun s hc => pushNow_goes (length_tickets_of_pushChecks hc)⟩
  | ticketCancel port tag num =>
    exact ⟨_, rfl, State.serve_goes fun s _ => by
      dsimp only
      exact State.work_goes (retireEarly_keeps (Kinds.all_serves _ num) rfl (fun _ => Kinds.all_has _) (fun _ => rfl) _ _).safe⟩
  | release port tag num outcome => exact ⟨_, rfl, State.serve_goes fun s _ => releaseTicket_goes num _ s⟩
  | logRead port tag index => exact ⟨_, rfl, State.serve_goes fun s _ => .refl _ s⟩
  | leakReport port tag n side level =>
    exact ⟨_, rfl, State.serve_goes fun s _ => .ite (fun _ => .refl _ s) fun _ => s.putDoor_goes ..⟩
  | doorReset port tag n side => exact ⟨_, rfl, State.serve_goes fun s _ => s.putDoor_goes ..⟩
  | valve port tag n form =>
    exact ⟨_, rfl, State.serve_goes fun s _ => by
      dsimp only
      exact State.work_goes (setValve_keeps (k := .all) (Kinds.all_has _) ..).safe⟩
  | carService port tag car state =>
    refine ⟨_, rfl, State.serve_goes fun s hc => ?_⟩
    have hc : firstRefusal (carServiceChecks (car.getD .a) (state.getD .inService) s) = none :=
      firstRefusal_eq_none.2 fun x hx => firstRefusal_eq_none.1 hc x (List.mem_append_right _ hx)
    dsimp only
    refine State.work_goes ?_
    split
    · rename_i hin
      rw [hin] at hc
      exact (carIn_keeps (k := .all) (Kinds.all_has _) (ordered_of_carServiceChecks hc)).safe
    · exact (carOut_keeps (k := .all) (Kinds.all_has _) _).safe
  | pause port tag =>
    exact ⟨_, rfl, State.serve_goes fun s _ => .ite (fun _ => s.halt_goes rfl ..) fun _ => .refl _ s⟩
  | resume port tag =>
    exact ⟨_, rfl, State.serve_goes fun s _ => .ite (fun _ => .refl _ s) fun _ => s.goOn_goes rfl⟩
  | maskSet port tag level => exact ⟨_, rfl, State.serve_goes fun s _ => s.modPort_goes_of_eq port fun _ => ⟨rfl, rfl⟩⟩
  | restart port tag => exact ⟨_, rfl, State.serve_goes fun s _ => restart_goes rfl rfl s⟩
  | paramGet port tag id => exact ⟨_, rfl, State.serve_goes fun s _ => .refl _ s⟩
  | paramSet port tag id value => exact ⟨_, rfl, State.serve_goes fun s _ => applySetting_goes rfl _ value s⟩
  | storeSave port tag => exact ⟨_, rfl, State.serve_goes fun s _ => { store := nofun }⟩
  | storeLoad port tag => exact ⟨_, rfl, State.serve_goes fun s _ => loadStore_goes rfl s⟩
  | storeErase port tag => exact ⟨_, rfl, State.serve_goes fun s _ => { store := nofun }⟩
  | protectSet port tag level => exact ⟨_, rfl, State.serve_goes fun s _ => { settings := nofun }⟩
  | storeSaveEnd failed =>
    refine ⟨_, rfl, State.event_goes ?_⟩
    split
    · exact (State.storeEnds_goes rfl ..).trans (State.raise_goes ..)
    · exact State.storeFails_goes rfl ..
    · exact .refl _ _
  | storeSaveTimeout =>
    refine ⟨_, rfl, State.event_goes ?_⟩
    split
    · exact State.storeFails_goes rfl ..
    · exact .refl _ _
  | storeEraseEnd ok =>
    refine ⟨_, rfl, State.event_goes ?_⟩
    split
    · exact .ite (fun _ => State.storeEnds_goes rfl ..) fun _ => State.storeFails_goes rfl ..
    · exact .refl _ _
  | storeEraseTimeout =>
    refine ⟨_, rfl, State.event_goes ?_⟩
    split
    · exact State.storeFails_goes rfl ..
    · exact .refl _ _
  | machinePos m position moving loaded =>
    exact ⟨_, rfl, State.event_goes (State.record_goes fun s => s.posRecord_goes ..)⟩
  | machineFault m code => exact ⟨_, rfl, State.event_goes (State.record_goes fun s => s.faultRecord_goes ..)⟩
  | extractDone m n => exact ⟨_, rfl, State.event_goes (State.doneRecord_goes (extractEffect_goes m n))⟩
  | replaceDone m n => exact ⟨_, rfl, State.event_goes (State.doneRecord_goes (replaceEffect_goes m n))⟩
  | pressDone m n force => exact ⟨_, rfl, State.event_goes (State.doneRecord_goes (pressEffect_goes m n force))⟩
  | guideLockDone m n =>
    exact ⟨_, rfl, State.event_goes (State.doneRecord_goes fun s => State.work_goes (machineDone_safe ..))⟩
  | guideReleaseDone m n =>
    exact ⟨_, rfl, State.event_goes (State.doneRecord_goes fun s => State.work_goes (machineDone_safe ..))⟩
  | ramAdvanceDone m n load =>
    exact ⟨_, rfl, State.event_goes (State.doneRecord_goes fun s => State.work_goes (ramAdvanced_safe ..))⟩
  | ramReturnDone m n =>
    exact ⟨_, rfl, State.event_goes (State.doneRecord_goes fun s => State.work_goes (machineDone_safe ..))⟩
  | levelDone m n =>
    exact ⟨_, rfl, State.event_goes (State.doneRecord_goes fun s => State.work_goes (levelDone_safe ..))⟩
  | receiveDone m n => exact ⟨_, rfl, State.event_goes (State.doneRecord_goes (receiveEffect_goes m n))⟩
  | dumpDone m n => exact ⟨_, rfl, State.event_goes (State.doneRecord_goes (dumpEffect_goes m))⟩
  | chargeAsk n =>
    exact ⟨_, rfl, State.event_goes (State.record_goes fun s => State.work_goes (chargeAsked_safe ..))⟩
  | chargeEnd n mass =>
    exact ⟨_, rfl, State.event_goes (State.record_goes fun s => State.work_goes (chargeEndReport_safe ..))⟩
  | otlReply address reply => exact ⟨_, rfl, State.event_goes (State.otlReplied_goes ..)⟩
  | replyWaitExpiry => exact ⟨_, rfl, State.event_goes (State.replyMissed_goes _)⟩
  | wallStalenessExpiry v => exact ⟨_, rfl, State.event_goes (State.wallStaled_goes ..)⟩
  | readinessExpiry n =>
    exact ⟨_, rfl, State.event_goes (State.work_goes (readinessReached_keeps (k := .all) (Kinds.all_has _) ..).safe)⟩
  | overdueTimerExpiry n =>
    exact ⟨_, rfl, State.event_goes (State.work_goes (overdueReached_keeps (k := .all) (Kinds.all_has _) ..).safe)⟩
  | pacingTimerExpiry => exact ⟨_, rfl, State.event_goes (State.work_goes (pacingReached_keeps (k := .all) rfl ..).safe)⟩
  | stepTimerExpiry num =>
    exact ⟨_, rfl, State.event_goes (State.work_goes (stepReached_keeps (Kinds.all_serves _ _) (Kinds.all_has _) _).safe)⟩
  | pacingWaitReached num =>
    exact ⟨_, rfl, State.event_goes (State.work_goes (pacingWaitReached_keeps (Kinds.all_serves _ _) rfl _).safe)⟩
  | serviceTimerExpiry side =>
    exact ⟨_, rfl, State.event_goes (State.work_goes (jobTimeout_keeps (k := .all) (Kinds.all_has _) ..).safe)⟩
  | chargeTimerExpiry =>
    exact ⟨_, rfl, State.event_goes
      (State.work_goes (chargeTimeout_keeps (k := .all) (Kinds.all_has _) (fun _ _ => Kinds.all_has _) _).safe)⟩
  | emptyDwellExpiry n =>
    exact ⟨_, rfl, State.event_goes (State.work_goes (dwellReached_keeps (k := .all) (Kinds.all_has _) ..).safe)⟩
  | silenceTimerExpiry m => exact ⟨_, rfl, State.event_goes (State.silenceReached_goes ..)⟩
  | quenchTimerExpiry c =>
    exact ⟨_, rfl, State.event_goes (State.work_goes (quenchReached_keeps (k := .all) (Kinds.all_has _) ..).safe)⟩
  | drainTimerExpiry c =>
    exact ⟨_, rfl, State.event_goes (State.work_goes (drainReached_keeps (k := .all) (Kinds.all_has _) ..).safe)⟩
  | hotDwellExpiry c =>
    exact ⟨_, rfl, State.event_goes (State.work_goes (hotReached_keeps (k := .all) (Kinds.all_has _) ..).safe)⟩
  | discardedFrame link cause =>
    refine ⟨_, rfl, s.opened_goes.trans ?_⟩
    cases cause with
    | receiver bytes => exact (Goes.foldl _ (fun f s => s.frameArrived_goes link f) _).trans (State.setRx_goes ..)
    | content => exact State.received_goes ..

end Sys2Proof.Machine
end

section
/-! The steps of the machine: the command at the front of the queue, the conditions that every step keeps, the clock, the run
state, and the state after reset. -/

namespace Sys2Proof.Machine

open Sys2Proof.Safety

/-! ## Steps -/

theorem step_of_cons {s : State} {c : Instr} {rest : List Instr} (h : s.pending = c :: rest) :
    step s = exec c { s with pending := rest } := by
  unfold step
  rw [h]

/-- What every command keeps of the ground and the plant, whatever commands wait, every step keeps. -/
theorem stepKeeps_of_exec {inv : State → Prop} (pending : ∀ (s : State) l, inv s → inv { s with pending := l })
    (h : ∀ (c : Instr) (s t : State), inv s → exec c s = .next t → inv t) : stepKeeps inv := by
  intro s t hs ht
  cases hp : s.pending with
  | nil =>
    unfold step at ht
    rw [hp] at ht
    cases ht
    exact hs
  | cons c rest =>
    rw [step_of_cons hp] at ht
    exact h c _ t (pending s rest hs) ht

/-- A command's next state is the one that `exec_goes` speaks of. -/
theorem goes_of_exec {c : Instr} {s t : State} (h : exec c s = .next t) : Goes (commandItems c) s t := by
  obtain ⟨t', ht, hg⟩ := exec_goes c s
  cases h.symm.trans ht
  exact hg

/-- Settles O1: the queue's front command is run on the state with the rest of the queue. -/
theorem stepRunsTheFrontCommand : Obligations.StepRunsTheFrontCommand := by
  unfold Obligations.StepRunsTheFrontCommand
  exact fun _ _ _ h => step_of_cons h

/-! ## Follow-up events -/

theorem opened_calm {s : State} (h : calm s) : calm s.opened := h

theorem modPort_calm {s : State} (h : calm s) (port : Port) (f : PortState → PortState) : calm (s.modPort port f) :=
  (Plant.modPort_agenda ..).trans h

theorem event_calm {s t : State} {f : State → State} (h : (.next (s.event f) : Answer) = .next t) :
    calm t := by
  cases h
  exact State.settled_agenda _

theorem serve_calm {s t : State} {port : Port} {tag : Byte} {r : Request} {checks : State → List Check}
    {act : State → State × OkData} (hc : calm s)
    (h : (.next (s.serve port tag r checks act) : Answer) = .next t) : calm t := by
  cases h
  obtain e | ⟨s₀, ht, ⟨reply, _, e⟩ | ⟨_, e⟩⟩ := s.serve_cases port tag r checks act
  · rw [e]
    exact hc
  · rw [e]
    exact modPort_calm (calm_of_takes ht hc) ..
  · rw [e]
    exact modPort_calm (State.settled_agenda _) ..

theorem frameArrived_calm (link : Link) {s : State} (f : Frame) (h : calm s) : calm (State.frameArrived link s f) := by
  unfold State.frameArrived
  split
  · exact modPort_calm h ..
  · split
    · exact State.settled_agenda _
    · exact h
  · split
    · exact State.settled_agenda _
    · exact h

theorem framesArrived_calm (link : Link) (l : List Frame) {s : State} (h : calm s) :
    calm (l.foldl (State.frameArrived link) s) := by
  induction l generalizing s with
  | nil => exact h
  | cons f l ih => exact ih (frameArrived_calm link f h)

/-- A command taken while no follow-up event waits leaves none waiting. -/
theorem exec_calm {c : Instr} {s t : State} (hc : calm s) (h : exec c s = .next t) : calm t := by
  cases c with
  | coldStart => cases h; rfl
  | resetLineRelease => cases h; exact hc
  | batteryClockTick =>
    cases h
    show calm (if s.ground.resetHeld then _ else _)
    split <;> exact hc
  | requestFrameArrival => cases h; exact modPort_calm (s := s.opened.received _) hc ..
  | portFrameSent => cases h; exact modPort_calm (opened_calm hc) ..
  | frameGapTimeout link bytes => cases h; exact framesArrived_calm link _ (opened_calm hc)
  | discardedFrame link cause =>
    cases h
    cases cause with
    | receiver bytes => exact framesArrived_calm link _ (opened_calm hc)
    | content => exact hc
  | wallReport port tag first count readings =>
    cases h
    show calm (if _ then _ else _)
    split
    · exact serve_calm hc rfl
    · exact modPort_calm (s := s.opened.received _) hc ..
  | storeReadEnd | storeReadTimeout | estopAsserted | estopReleased | keyLineChange | storeSaveEnd | storeSaveTimeout
  | storeEraseEnd | storeEraseTimeout | machinePos | machineFault | extractDone | replaceDone | pressDone | guideLockDone
  | guideReleaseDone | ramAdvanceDone | ramReturnDone | levelDone | receiveDone | dumpDone | chargeAsk | chargeEnd | otlReply
  | replyWaitExpiry | wallStalenessExpiry | readinessExpiry | overdueTimerExpiry | pacingTimerExpiry | stepTimerExpiry
  | pacingWaitReached | serviceTimerExpiry | chargeTimerExpiry | emptyDwellExpiry | silenceTimerExpiry | quenchTimerExpiry
  | drainTimerExpiry | hotDwellExpiry => exact event_calm h
  | status | ovenQuery | ovenRestore | ovenService | ovenHold | maintRange | ovenTrim | schedStart | schedStop | cursorSet
  | catchupClear | pushNow | ticketCancel | release | logRead | leakReport | doorReset | valve | carService | pause | resume
  | maskSet | restart | paramGet | paramSet | storeSave | storeLoad | storeErase | protectSet => exact serve_calm hc h

/-- Settles O2: `exec_goes` for the next state and the queue, `exec_calm` for the follow-up events. -/
theorem everyCommandGoesOn : Obligations.EveryCommandGoesOn := by
  unfold Obligations.EveryCommandGoesOn
  refine ⟨fun c s => ?_, stepKeeps_of_exec (fun _ _ h => h) fun _ _ _ hc h => exec_calm hc h⟩
  obtain ⟨t, ht, hg⟩ := exec_goes c s
  exact ⟨t, ht, hg.pending, fun hc => exec_calm hc ht⟩

/-! ## Bounds, spans and the water grant -/

/-- Settles O3: both bounds are kept by every command (`exec_goes`). -/
theorem holdsAndListsStayWithinBounds : Obligations.HoldsAndListsStayWithinBounds := by
  unfold Obligations.HoldsAndListsStayWithinBounds
  exact ⟨stepKeeps_of_exec (fun _ _ h => h) fun _ _ _ hs h => (goes_of_exec h).plant.ports hs,
    stepKeeps_of_exec (fun _ _ h => h) fun _ _ _ hs h => (goes_of_exec h).plant.lists hs⟩

/-- Settles O5: the two records stay sound and the spans apart under every command (`exec_goes`). -/
theorem spansStayApart : Obligations.SpansStayApart := by
  unfold Obligations.SpansStayApart
  exact stepKeeps_of_exec (fun _ _ h => h) fun _ _ _ hs h => (goes_of_exec h).plant.spans hs

/-- Settles O6: the grant stays with the car in QUENCHING under every command (`exec_goes`). -/
theorem quenchingCarHoldsTheGrant : Obligations.QuenchingCarHoldsTheGrant := by
  unfold Obligations.QuenchingCarHoldsTheGrant
  exact stepKeeps_of_exec (fun _ _ h => h) fun c s t hs h => (goes_of_exec h).plant.water hs

end Sys2Proof.Machine
end

section
/-! SUPPORT. The values of a parameter set: what a value set reads back as, and what the sets that pass R182 keep. -/

namespace Sys2Proof.Machine

/-! ## A value set -/

/-- The value has the form of the parameter, whatever its length. -/
def hasForm (id : ParamId) : ParamValue → Prop
  | .plan _ => id = .plan
  | .profile _ => id = .profile
  | .policy _ => id = .policy
  | .number _ => id ≠ .plan ∧ id ≠ .profile ∧ id ≠ .policy

theorem hasForm_of_valueFits {id : ParamId} {v : ParamValue} (h : valueFits id v = true) : hasForm id v := by
  cases v with
  | plan pl =>
    simp only [valueFits, Bool.and_eq_true, decide_eq_true_eq] at h
    obtain ⟨⟨h, -⟩, -⟩ := h
    exact h
  | profile points =>
    simp only [valueFits, Bool.and_eq_true, decide_eq_true_eq] at h
    obtain ⟨⟨h, -⟩, -⟩ := h
    exact h
  | policy po => exact of_decide_eq_true (p := id = .policy) h
  | number n => simpa [valueFits, hasForm, and_assoc] using h

theorem paramValue_ovenCount {q : Params} {v : ParamValue} (h : paramValue q .ovenCount = some v) :
    ∃ n : Nat, q.ovenCount = some n ∧ v = .number n := by
  cases hq : q.ovenCount with
  | none => simp [paramValue, hq] at h
  | some n =>
    rw [paramValue, hq] at h
    exact ⟨n, rfl, (Option.some.inj h).symm⟩

theorem paramValue_carSplit {q : Params} {v : ParamValue} (h : paramValue q .carSplit = some v) :
    ∃ n : Nat, q.carSplit = some n ∧ v = .number n := by
  cases hq : q.carSplit with
  | none => simp [paramValue, hq] at h
  | some n =>
    rw [paramValue, hq] at h
    exact ⟨n, rfl, (Option.some.inj h).symm⟩

theorem hasForm_of_paramValue {q : Params} {id : ParamId} {v : ParamValue} (h : paramValue q id = some v) : hasForm id v := by
  cases id with
  | ovenCount =>
    obtain ⟨n, -, rfl⟩ := paramValue_ovenCount h
    exact ⟨nofun, nofun, nofun⟩
  | carSplit =>
    obtain ⟨n, -, rfl⟩ := paramValue_carSplit h
    exact ⟨nofun, nofun, nofun⟩
  | plan | policy | profile => cases h; rfl
  | _ => cases h; exact ⟨nofun, nofun, nofun⟩

theorem paramValue_setNumber_other (q : Params) {id other : ParamId} (h : other ≠ id) (n : Int) :
    paramValue (setNumber q id n) other = paramValue q other := by
  cases id <;> cases other <;> first | rfl | exact absurd rfl h

/-- A value set leaves every other parameter's value. -/
theorem paramValue_setParam_other {q : Params} {id other : ParamId} {v : ParamValue} (hf : hasForm id v) (h : other ≠ id) :
    paramValue (setParam q id v) other = paramValue q other := by
  cases v with
  | number n => exact paramValue_setNumber_other q h n
  | plan pl =>
    cases hf
    cases other with
    | plan => exact absurd rfl h
    | _ => rfl
  | profile points =>
    cases hf
    cases other with
    | profile => exact absurd rfl h
    | _ => rfl
  | policy po =>
    cases hf
    cases po with
    | none => rfl
    | some po =>
      cases other with
      | policy => exact absurd rfl h
      | _ => rfl

/-- A value that some set holds reads back. -/
theorem paramValue_setParam_of_paramValue {q im : Params} {id : ParamId} {v : ParamValue} (h : paramValue im id = some v) :
    paramValue (setParam q id v) id = some v := by
  cases id with
  | ovenCount =>
    obtain ⟨n, -, rfl⟩ := paramValue_ovenCount h
    rfl
  | carSplit =>
    obtain ⟨n, -, rfl⟩ := paramValue_carSplit h
    rfl
  | _ => cases h; rfl

/-- A value within its range reads back. -/
theorem paramValue_setParam_of_inRange {q : Params} {id : ParamId} {v : ParamValue} (hf : hasForm id v)
    (h : valueInRange q id v = true) : paramValue (setParam q id v) id = some v := by
  cases v with
  | plan pl => cases hf; rfl
  | profile points => cases hf; rfl
  | policy po =>
    cases hf
    cases po with
    | none => cases h
    | some po => rfl
  | number n =>
    obtain ⟨hplan, hprofile, hpolicy⟩ := hf
    have hn : (numberRange q id).1 ≤ n := by
      simp only [valueInRange, Bool.and_eq_true, decide_eq_true_eq] at h
      exact h.1
    cases id with
    | plan => exact absurd rfl hplan
    | profile => exact absurd rfl hprofile
    | policy => exact absurd rfl hpolicy
    | pFloor | pMain => rfl
    | ovenCount =>
      have hn : (n.toNat : Int) = n := Int.toNat_of_nonneg (Int.le_trans (by simp [numberRange]) hn)
      exact congrArg (fun x => some (ParamValue.number x)) hn
    | _ =>
      have hn : (n.toNat : Int) = n := Int.toNat_of_nonneg (Int.le_trans (by simp [numberRange]) hn)
      exact congrArg (fun x => some (ParamValue.number x)) hn

theorem valueInRange_number {q : Params} {id : ParamId} {n : Int} :
    valueInRange q id (.number n) = true ↔ (numberRange q id).1 ≤ n ∧ n ≤ (numberRange q id).2 := by
  simp [valueInRange]

/-! ## A set rebuilt from values -/

/-- A set takes the value that `f` has for a parameter, where it has one. -/
def takeValue (f : ParamId → Option ParamValue) (r : Params) (id : ParamId) : Params :=
  match f id with
  | some v => setParam r id v
  | none => r

/-- A set is what its values make of the defaults. -/
theorem foldl_takeValue_defaultParams (q : Params) : allParams.foldl (takeValue (paramValue q)) defaultParams = q := by
  match q with
  | { ovenCount := none, carSplit := none, .. } => rfl
  | { ovenCount := none, carSplit := some _, .. } => rfl
  | { ovenCount := some _, carSplit := none, .. } => rfl
  | { ovenCount := some _, carSplit := some _, .. } => rfl

theorem params_ext {q r : Params} (h : ∀ id, paramValue q id = paramValue r id) : q = r := by
  rw [← foldl_takeValue_defaultParams q, ← foldl_takeValue_defaultParams r, funext h]

/-- The values of a set that has taken some of those of another set. -/
theorem paramValue_foldl_takeValue (im : Params) (ids : List ParamId) (q : Params) (id : ParamId) :
    paramValue (ids.foldl (takeValue (paramValue im)) q) id =
      if id ∈ ids then (paramValue im id).or (paramValue q id) else paramValue q id := by
  induction ids generalizing q with
  | nil => rfl
  | cons x ids ih =>
    have taken : paramValue (takeValue (paramValue im) q x) id =
        if id = x then (paramValue im id).or (paramValue q id) else paramValue q id := by
      unfold takeValue
      split
      · rename_i v hv
        split
        · rename_i e
          rw [e, hv]
          exact paramValue_setParam_of_paramValue hv
        · rename_i hne
          exact paramValue_setParam_other (hasForm_of_paramValue hv) hne
      · rename_i hv
        split
        · rename_i e
          rw [e, hv]
          rfl
        · rfl
    rw [List.foldl_cons, ih, taken]
    by_cases hx : id = x
    · cases hv : paramValue im id <;> simp [hx]
    · simp [hx]

/-! ## Ranges and relations -/

theorem paramsOk_iff {q : Params} :
    paramsOk q = true ↔
      (∀ id v, paramValue q id = some v → valueInRange q id v = true) ∧ relationsHold q = true ∧
        q.ovenCount.isSome = q.carSplit.isSome := by
  constructor
  · intro h
    refine ⟨fun _ _ => valueInRange_of_paramsOk h, relationsHold_of_paramsOk h, ?_⟩
    simp only [paramsOk, Bool.and_eq_true, beq_iff_eq] at h
    exact h.2
  · rintro ⟨hrange, hrel, hsplit⟩
    simp only [paramsOk, Bool.and_eq_true, beq_iff_eq, List.all_eq_true]
    refine ⟨⟨fun id _ => ?_, hrel⟩, hsplit⟩
    split
    · rename_i v hv
      exact hrange id v hv
    · rfl

theorem relationsHold_iff {q : Params} :
    relationsHold q = true ↔
      (q.mMin ≤ q.mNom ∧ q.mNom ≤ q.mMax ∧ q.tMin ≤ q.tMax ∧ q.issueLead ≤ q.pushGap ∧ q.pressLo ≤ q.pressHi) ∧
        ∀ n k, q.ovenCount = some n → q.carSplit = some k → k < n := by
  unfold relationsHold
  cases q.ovenCount <;> cases q.carSplit <;> simp [and_assoc]

/-- The parameters whose range hangs on another parameter's value (11.1). -/
def rangeHangs : ParamId → Bool
  | .carSplit | .issueLead | .tMax => true
  | _ => false

theorem numberRange_eq {id : ParamId} (h : rangeHangs id = false) (q r : Params) : numberRange q id = numberRange r id := by
  cases id with
  | carSplit | issueLead | tMax => cases h
  | _ => rfl

theorem valueInRange_eq {id : ParamId} (h : rangeHangs id = false) (q r : Params) (v : ParamValue) :
    valueInRange q id v = valueInRange r id v := by
  cases v with
  | number n => rw [valueInRange, valueInRange, numberRange_eq h q r]
  | _ => rfl

theorem setParam_ovenCount {q : Params} {id : ParamId} {v : ParamValue} (hid : id ≠ .ovenCount) :
    (setParam q id v).ovenCount = q.ovenCount := by
  cases v with
  | number n =>
    cases id with
    | ovenCount => exact absurd rfl hid
    | _ => rfl
  | policy po => cases po <;> rfl
  | _ => rfl

theorem setParam_carSplit {q : Params} {id : ParamId} {v : ParamValue} (hid : id ≠ .carSplit) :
    (setParam q id v).carSplit = q.carSplit := by
  cases v with
  | number n =>
    cases id with
    | carSplit => exact absurd rfl hid
    | _ => rfl
  | policy po => cases po <;> rfl
  | _ => rfl

/-- A value does not move its own range. -/
theorem valueInRange_setParam_self (q : Params) (id : ParamId) (v : ParamValue) :
    valueInRange (setParam q id v) id v = valueInRange q id v := by
  cases v with
  | number n =>
    cases id with
    | carSplit | issueLead | tMax => rfl
    | _ => exact valueInRange_eq rfl _ _ _
  | _ => rfl

/-- The ranges that hang on another parameter are among the relations of R182, so that a value set which breaks none leaves the
values of the others within their ranges. -/
theorem valueInRange_setParam_other {q : Params} {id other : ParamId} {v w : ParamValue} (hf : hasForm id v) (h : other ≠ id)
    (hid : id ≠ .ovenCount) (hrel : relationsHold (setParam q id v) = true) (hw : paramValue q other = some w)
    (hin : valueInRange q other w = true) : valueInRange (setParam q id v) other w = true := by
  obtain ⟨⟨-, -, htimes, hlead, -⟩, -⟩ := relationsHold_iff.1 hrel
  have hw' := paramValue_setParam_other (q := q) hf h ▸ hw
  cases other with
  | carSplit =>
    obtain ⟨k, -, rfl⟩ := paramValue_carSplit hw
    rw [valueInRange, numberRange, setParam_ovenCount hid]
    exact hin
  | issueLead =>
    obtain ⟨n, rfl, rfl⟩ : ∃ n : Nat, w = .number n ∧ n = (setParam q id v).issueLead := ⟨_, (Option.some.inj hw').symm, rfl⟩
    exact Bool.and_eq_true_iff.2 ⟨decide_eq_true (Int.natCast_nonneg (setParam q id v).issueLead), decide_eq_true (Int.ofNat_le.2 hlead)⟩
  | tMax =>
    obtain ⟨n, rfl, rfl⟩ : ∃ n : Nat, w = .number n ∧ n = (setParam q id v).tMax := ⟨_, (Option.some.inj hw').symm, rfl⟩
    exact Bool.and_eq_true_iff.2 ⟨decide_eq_true (Int.ofNat_le.2 htimes), (Bool.and_eq_true_iff.1 hin).2⟩
  | _ => exact (valueInRange_eq rfl _ q w).trans hin

/-- A set that passes R182, but for one value, which stands within its range and breaks no relation, passes it. -/
theorem paramsOk_setParam {q : Params} {id : ParamId} {v : ParamValue} (h : paramsOk q = true) (hf : hasForm id v)
    (hv : valueInRange q id v = true) (hrel : relationsHold (setParam q id v) = true) (hid : id ≠ .ovenCount)
    (hsplit : id = .carSplit → q.ovenCount.isSome = true) : paramsOk (setParam q id v) = true := by
  obtain ⟨hrange, -, hcount⟩ := paramsOk_iff.1 h
  refine paramsOk_iff.2 ⟨fun other w hw => ?range, hrel, ?split⟩
  case range =>
    by_cases he : other = id
    · subst he
      cases (paramValue_setParam_of_inRange hf hv).symm.trans hw
      rw [valueInRange_setParam_self]
      exact hv
    · rw [paramValue_setParam_other hf he] at hw
      exact valueInRange_setParam_other hf he hid hrel hw (hrange other w hw)
  case split =>
    rw [setParam_ovenCount hid]
    by_cases he : id = .carSplit
    · rw [hsplit he]
      subst he
      cases v with
      | number n => rfl
      | _ => cases hf
    · rw [setParam_carSplit he]
      exact hcount

end Sys2Proof.Machine
end

section
/-! SUPPORT. The taking of a request, for the statements about single commands: what the state taken keeps, and the two ends of a
request, refused and carried out. -/

namespace Sys2Proof.Machine

open Sys2Proof.Safety

/-- A request taken changes the ports, and begins the records sent anew; nothing else (R172). -/
theorem state_of_takes {s s₀ : State} {port : Port} {tag : Byte} {r : Request} (h : takes s port tag r s₀) :
    ∃ sup pnl, s₀ = { s with plant := { s.plant with sup := sup, pnl := pnl, sent := [] } } := by
  rcases State.takeRequest_eq_some.1 h with ⟨-, rfl⟩ | ⟨_, -, rfl⟩
  · exact ⟨_, _, rfl⟩
  · cases port <;> exact ⟨_, _, rfl⟩

/-- What does not hang on the ports and the records sent is as it was. -/
theorem plant_of_takes {α : Type} {s s₀ : State} {port : Port} {tag : Byte} {r : Request} (h : takes s port tag r s₀)
    (f : Plant → α) (hf : ∀ p sup pnl sent, f { p with sup := sup, pnl := pnl, sent := sent } = f p) :
    f s₀.plant = f s.plant := by
  obtain ⟨_, _, rfl⟩ := state_of_takes h
  exact hf ..

theorem ticket?_of_takes {s s₀ : State} {port : Port} {tag : Byte} {r : Request} (h : takes s port tag r s₀) (num : Nat) :
    s₀.plant.ticket? num = s.plant.ticket? num := plant_of_takes h (fun p => p.ticket? num) fun _ _ _ _ => rfl

theorem oven_of_takes {s s₀ : State} {port : Port} {tag : Byte} {r : Request} (h : takes s port tag r s₀) (n : Nat) :
    s₀.plant.oven n = s.plant.oven n := plant_of_takes h (fun p => p.oven n) fun _ _ _ _ => rfl

theorem ground_of_takes {s s₀ : State} {port : Port} {tag : Byte} {r : Request} (h : takes s port tag r s₀) :
    s₀.ground = s.ground := (State.takeRequest_ground h).1

section
variable {s s₀ : State} {port : Port} {tag : Byte} {r : Request} {checks : State → List Check} {act : State → State × OkData}

/-- A request refused, as its command's answer. -/
theorem refused_of_takes (h : takes s port tag r s₀) {reply : Reply} (hr : firstRefusal (checks s₀) = some reply) :
    (.next (s.serve port tag r checks act) : Answer) = .next (s₀.answer port tag reply) :=
  congrArg Host.Outcome.next (State.serve_refused h hr)

/-- A request carried out, as its command's answer. -/
theorem accepted_of_takes (h : takes s port tag r s₀) (hr : firstRefusal (checks s₀) = none) :
    (.next (s.serve port tag r checks act) : Answer) = .next ((act s₀).1.settled.answer port tag (.ok (act s₀).2)) :=
  congrArg Host.Outcome.next (State.serve_accepted h hr)

/-- A request carried out whose effects start no follow-up event, as its command's answer. -/
theorem accepted_of_takes_calm (h : takes s port tag r s₀) (hr : firstRefusal (checks s₀) = none)
    (hc : (act s₀).1.plant.agenda = []) :
    (.next (s.serve port tag r checks act) : Answer) = .next ((act s₀).1.answer port tag (.ok (act s₀).2)) := by
  rw [accepted_of_takes h hr, State.settled_of_calm hc]

/-- What a request leaves of the ground: as it was, or as its effects leave it. -/
theorem State.serve_ground_cases (s : State) (port : Port) (tag : Byte) (r : Request) (checks : State → List Check)
    (act : State → State × OkData) :
    (s.serve port tag r checks act).ground = s.ground ∨
      ∃ s₀, s₀.ground = s.ground ∧ firstRefusal (checks s₀) = none ∧
        (s.serve port tag r checks act).ground = (act s₀).1.ground := by
  obtain e | ⟨s₀, ht, ⟨reply, _, e⟩ | ⟨hc, e⟩⟩ := s.serve_cases port tag r checks act
  · exact .inl (by rw [e]; rfl)
  · exact .inl (by rw [e, State.answer_ground]; exact ground_of_takes ht)
  · exact .inr ⟨s₀, ground_of_takes ht, hc, by rw [e]; rfl⟩

end

/-- A command whose effects start no follow-up event, as its answer. -/
theorem event_eq_of_calm {s t : State} {f : State → State} (h : f s.opened = t) (hc : calm t) :
    (.next (s.event f) : Answer) = .next t := by
  subst h
  exact congrArg Host.Outcome.next (State.event_of_calm hc)

end Sys2Proof.Machine
end

section
/-! The parameters and the store (chapter 11): settings, STORE LOAD, the store's operations, and what every step keeps of them. -/

namespace Sys2Proof.Machine

open Sys2Proof.Safety

/-! ## Settings -/

/-- A setting handed on leaves the parameters, the protection level and the store as they are. -/
theorem State.handOn_settings (old : Ground) (id : ParamId) (s : State) :
    (State.handOn old id s).ground.params = s.ground.params ∧
      (State.handOn old id s).ground.protection = s.ground.protection := by
  by_cases h : id = .plan
  · subst h
    show s.reorder.ground.params = _ ∧ s.reorder.ground.protection = _
    unfold State.reorder
    split <;> exact ⟨rfl, rfl⟩
  · obtain ⟨hp, hl, -⟩ := (State.handOn_goes (w := fun _ => false) (fun e => absurd e h) old s).settings rfl
    exact ⟨hp, hl⟩

theorem State.takeParam_settings (s : State) (id : ParamId) (v : ParamValue) :
    (s.takeParam id v).ground.params = setParam s.ground.params id v ∧
      (s.takeParam id v).ground.protection = s.ground.protection :=
  State.handOn_settings ..

theorem State.loadParam_settings (im : Params) (s : State) (id : ParamId) :
    (State.loadParam im s id).ground.params = takeValue (paramValue im) s.ground.params id ∧
      (State.loadParam im s id).ground.protection = s.ground.protection := by
  cases hv : paramValue im id with
  | none => simp only [State.loadParam, takeValue, hv, and_self]
  | some v =>
    simp only [State.loadParam, takeValue, hv]
    exact s.takeParam_settings ..

theorem foldl_loadParam_settings (im : Params) (ids : List ParamId) (s : State) :
    (ids.foldl (State.loadParam im) s).ground.params = ids.foldl (takeValue (paramValue im)) s.ground.params ∧
      (ids.foldl (State.loadParam im) s).ground.protection = s.ground.protection := by
  induction ids generalizing s with
  | nil => exact ⟨rfl, rfl⟩
  | cons id ids ih =>
    obtain ⟨hp, hl⟩ := State.loadParam_settings im s id
    rw [List.foldl_cons, List.foldl_cons, ← hp, ← hl]
    exact ih _

/-- The parameters that differ, once they have taken the image's values, leave none that differs where the image has a value. -/
theorem paramValue_loaded (im q : Params) (id : ParamId) :
    paramValue ((changedParams im q).foldl (takeValue (paramValue im)) q) id = (paramValue im id).or (paramValue q id) := by
  rw [paramValue_foldl_takeValue]
  split
  · rfl
  · rename_i h
    have same : paramValue im id = paramValue q id := by
      simpa [changedParams, mem_allParams] using h
    rw [same]
    cases paramValue q id <;> rfl

/-- STORE LOAD takes the whole image, where the sets have values for the same parameters. -/
theorem loaded_eq_image {im q : Params} (hn : im.ovenCount = q.ovenCount) (hsplit : im.ovenCount.isSome = im.carSplit.isSome)
    (hsplit' : q.ovenCount.isSome = q.carSplit.isSome) :
    (changedParams im q).foldl (takeValue (paramValue im)) q = im := by
  refine params_ext fun id => ?_
  rw [paramValue_loaded]
  cases id with
  | ovenCount =>
    cases ho : im.ovenCount <;> simp [paramValue, ← hn, ho]
  | carSplit =>
    rw [← hn, hsplit] at hsplit'
    cases hs : im.carSplit <;> cases hs' : q.carSplit <;> simp_all [paramValue]
  | _ => rfl

/-! ## PARAM GET and PARAM SET (R181 to R183) -/

/-- The checks of PARAM SET on a machine past STARTING, for a value of the parameter's form and length. -/
theorem firstRefusal_paramSet {s : State} (hs : started s) {id : ParamId} {v : ParamValue} (hf : valueFits id v = true) :
    firstRefusal ([whileStarting s, badField ((some id).isNone || !valueFits ((some id).getD .ovenCount) v)] ++
      settingChecks s ((some id).getD .ovenCount) v) = firstRefusal (settingChecks s id v) := by
  have hstarting : s.ground.starting = false := hs
  simp [whileStarting, badField, hstarting, hf]

/-- The checks of a setting look at the ground, the tickets, the charge record and the ovens. -/
theorem settingChecks_of_takes {s s₀ : State} {port : Port} {tag : Byte} {r : Request} (h : takes s port tag r s₀)
    (id : ParamId) (v : ParamValue) : settingChecks s₀ id v = settingChecks s id v := by
  obtain ⟨_, _, rfl⟩ := state_of_takes h
  rfl

/-- What an accepted setting has been checked for (R182). -/
theorem settingChecks_eq_none {s : State} {id : ParamId} {v : ParamValue} (h : firstRefusal (settingChecks s id v) = none) :
    (paramClass id = .once → s.ground.configured = false) ∧ (id = .carSplit → s.ground.configured = true) ∧
      valueInRange s.ground.params id v = true ∧ relationsHold (setParam s.ground.params id v) = true := by
  have checked := firstRefusal_eq_none.1 h
  simp only [settingChecks, List.forall_mem_cons] at checked
  obtain ⟨-, honce, -, hsplit, hrange, hrel, -⟩ := checked
  refine ⟨fun e => ?_, fun e => ?_, by simpa using hrange, by simpa using hrel⟩
  · simpa [e] using honce
  · simpa [e] using hsplit

/-- A setting of another parameter than the oven count. -/
theorem applySetting_eq {id : ParamId} (h : id ≠ .ovenCount) (v : ParamValue) (s : State) :
    applySetting id v s = (s.takeParam id v, .value (paramValue (setParam s.ground.params id v) id)) := by
  unfold applySetting
  split
  · exact absurd rfl h
  · rfl

/-- A parameter that acts when it is next read is handed on to no block. -/
theorem State.takeParam_readLater {id : ParamId} (h : readLater id = true) (s : State) (v : ParamValue) :
    s.takeParam id v = { s with ground := { s.ground with params := setParam s.ground.params id v } } := by
  cases id <;> first | rfl | cases h

section
variable {s s₀ : State} {port : Port} {tag : Byte} {id : ParamId} {v : ParamValue}

theorem exec_paramSet_unfit (hs : started s) (ht : takes s port tag (.paramSet (some id) v) s₀) (hf : valueFits id v = false) :
    exec (.paramSet port tag (some id) v) s = .next (s₀.answer port tag (.refused .range .field)) := by
  have hstarting : s₀.ground.starting = false := started_of_takes ht hs
  exact refused_of_takes ht (by simp [whileStarting, badField, hstarting, hf])

theorem exec_paramSet_refused (hs : started s) (ht : takes s port tag (.paramSet (some id) v) s₀) (hf : valueFits id v = true)
    {reply : Reply} (hr : firstRefusal (settingChecks s id v) = some reply) :
    exec (.paramSet port tag (some id) v) s = .next (s₀.answer port tag reply) := by
  rw [← settingChecks_of_takes ht] at hr
  exact refused_of_takes ht ((firstRefusal_paramSet (started_of_takes ht hs) hf).trans hr)

theorem exec_paramSet_accepted (hs : started s) (ht : takes s port tag (.paramSet (some id) v) s₀) (hf : valueFits id v = true)
    (hr : firstRefusal (settingChecks s id v) = none) :
    exec (.paramSet port tag (some id) v) s =
      .next ((applySetting id v s₀).1.settled.answer port tag (.ok (applySetting id v s₀).2)) := by
  rw [← settingChecks_of_takes ht] at hr
  exact accepted_of_takes ht ((firstRefusal_paramSet (started_of_takes ht hs) hf).trans hr)

/-- Another parameter than the oven count takes its value, and is answered with it. -/
theorem exec_paramSet_value (hs : started s) (ht : takes s port tag (.paramSet (some id) v) s₀) (hf : valueFits id v = true)
    (hr : firstRefusal (settingChecks s id v) = none) (hid : id ≠ .ovenCount) :
    exec (.paramSet port tag (some id) v) s =
      .next ((s₀.takeParam id v).settled.answer port tag (.ok (.value (some v)))) := by
  obtain ⟨-, -, hrange, -⟩ := settingChecks_eq_none hr
  rw [exec_paramSet_accepted hs ht hf hr, applySetting_eq hid, ground_of_takes ht,
    paramValue_setParam_of_inRange (hasForm_of_valueFits hf) hrange]

end

theorem exec_paramGet (port : Port) (tag : Byte) (id : Option ParamId) (s : State) :
    exec (.paramGet port tag id) s = execParamGet port tag id s := rfl

theorem numbered_replicate_getD {α : Type} (n k : Nat) (x : α) : (numbered (List.replicate n x) k).getD x = x := by
  cases k with
  | zero => rfl
  | succ k =>
    rw [numbered, List.getElem?_replicate]
    split <;> rfl

/-- The records of a 2480 configured: ovens, nodes and doors are as created. -/
theorem State.configure_records (s : State) (n split : Nat) {k : Nat} (h1 : 1 ≤ k) (hk : k ≤ n) :
    (s.configure n split).plant.oven k = Oven.created k ∧ (s.configure n split).ground.ovenNode k = .created ∧
      ∀ side, (s.configure n split).ground.door k side = .created := by
  refine ⟨?oven, numbered_replicate_getD n k _, fun side => ?door⟩
  case oven =>
    obtain ⟨k, rfl⟩ := Nat.exists_eq_add_of_le' h1
    have hk : k < n := hk
    have created : numbered ((ovenNumbers n).map Oven.created) (k + 1) = some (Oven.created (k + 1)) := by
      simp [numbered, ovenNumbers, hk]
    exact congrArg (fun o => Option.getD o (Oven.created (k + 1))) created
  case door =>
    have created : (s.configure n split).ground.doorPair k = { ps := Door.created, cs := Door.created } :=
      numbered_replicate_getD n k _
    rw [Ground.door, created]
    cases side <;> rfl

/-- Settles O57: the values of a set read back (`paramValue_setParam_of_inRange`), and PARAM SET by the outcome of its
checks. -/
theorem parametersAreReadAndSet : Obligations.ParametersAreReadAndSet := by
  unfold Obligations.ParametersAreReadAndSet
  refine ⟨fun q id v hf hv => ⟨paramValue_setParam_of_inRange (hasForm_of_valueFits hf) hv, fun other h =>
    paramValue_setParam_other (hasForm_of_valueFits hf) h⟩, fun s s₀ port tag id hs => ⟨fun ht hc => ?read, fun v ht =>
    ⟨exec_paramSet_unfit hs ht, fun hf _ hr => exec_paramSet_refused hs ht hf hr, fun hf hr hid => ?value,
      fun hf hr hlater hc => ?later, fun n hid hv hc hr => ?count⟩⟩⟩
  case read =>
    have hstarting : s₀.ground.starting = false := started_of_takes ht hs
    rw [← ground_of_takes ht]
    exact accepted_of_takes_calm ht (by simp [whileStarting, badField, hstarting]) (calm_of_takes ht hc)
  case value =>
    refine ⟨_, exec_paramSet_value hs ht hf hr hid, ?_⟩
    obtain ⟨hp, -⟩ := s₀.takeParam_settings id v
    rw [hp, ground_of_takes ht]
  case later =>
    have hid : id ≠ .ovenCount := by
      rintro rfl
      cases hlater
    have hcalm : (s₀.takeParam id v).plant.agenda = [] := by
      have hcalm : calm s₀ := calm_of_takes ht hc
      rw [State.takeParam_readLater hlater]
      exact hcalm
    rw [exec_paramSet_value hs ht hf hr hid, State.settled_of_calm hcalm, State.takeParam_readLater hlater,
      ground_of_takes ht]
  case count =>
    subst hid hv
    have ground := ground_of_takes ht
    refine ⟨?answer, by rw [← ground]; rfl, by simp [State.configure, Plant.configure, ovenNumbers], ?doors, ?nodes, ?walls,
      by rw [← ground]; rfl, fun k h1 hk => s₀.configure_records n _ h1 hk⟩
    case answer =>
      have hcalm : calm s₀ := calm_of_takes ht hc
      rw [exec_paramSet_accepted hs ht rfl hr]
      exact congrArg (fun x : State => Host.Outcome.next (x.answer port tag (.ok (.configured n (n / 2)))))
        (State.settled_of_calm (s := s₀.configure n (n / 2)) hcalm)
    all_goals simp [State.configure, Ground.configure]

/-! ## STORE LOAD (R186) -/

/-- The image present is taken whole by its changed parameters. -/
theorem loadStore_of_verified {s : State} {im : Image} (h : s.ground.verified = some im) :
    loadStore s =
      ((changedParams im.params s.ground.params).foldl (State.loadParam im.params) s,
        .loaded (changedParams im.params s.ground.params).length) := by
  unfold loadStore
  rw [h]

theorem loadStore_settings {s : State} {im : Image} (h : s.ground.verified = some im) :
    (loadStore s).1.ground.params =
        (changedParams im.params s.ground.params).foldl (takeValue (paramValue im.params)) s.ground.params ∧
      (loadStore s).1.ground.protection = s.ground.protection := by
  rw [loadStore_of_verified h]
  exact foldl_loadParam_settings ..

/-- The checks of STORE LOAD. -/
def loadChecks (s : State) : List Check :=
  [ whileStarting s, storeBusy s,
    ⟨s.ground.protection ≠ 0 && !s.ground.keyLine, .locked, .keyLine⟩,
    unlessQuiet s,
    ⟨s.ground.store ≠ .verified || s.ground.verified.isNone, .state, .notVerified⟩,
    ⟨s.ground.verified.any fun im => im.params.ovenCount ≠ s.ground.params.ovenCount, .state, .ovenCount⟩,
    ⟨s.ground.verified.any fun im => tMinTooHigh s.ground s.plant im.params.tMin, .state, .netCoking⟩ ]

theorem exec_storeLoad (port : Port) (tag : Byte) (s : State) :
    exec (.storeLoad port tag) s = .next (s.serve port tag .storeLoad loadChecks loadStore) := rfl

theorem loadChecks_of_takes {s s₀ : State} {port : Port} {tag : Byte} {r : Request} (h : takes s port tag r s₀) :
    loadChecks s₀ = loadChecks s := by
  obtain ⟨_, _, rfl⟩ := state_of_takes h
  rfl

/-- Settles O60: the checks of STORE LOAD, and the values that the changed parameters take (`paramValue_loaded`). -/
theorem storeLoadTakesTheImage : Obligations.StoreLoadTakesTheImage := by
  unfold Obligations.StoreLoadTakesTheImage
  intro s s₀ port tag hs ht
  have hstarting : s.ground.starting = false := hs
  have checks := loadChecks_of_takes ht
  have ground := ground_of_takes ht
  have refused : ∀ code detail, firstRefusal (loadChecks s) = some (.refused code detail) →
      exec (.storeLoad port tag) s = .next (s₀.answer port tag (.refused code detail)) := fun _ _ h =>
    refused_of_takes ht ((congrArg firstRefusal checks).trans h)
  refine ⟨fun im hop hkey htickets hcharge hstore him _ hcount htmin => ?accepted, fun hbusy => refused _ _ ?busy,
    fun hop hkey htickets hcharge hstore => refused _ _ ?absent⟩
  case accepted =>
    have pass : firstRefusal (loadChecks s) = none := by
      rcases hkey with h | h <;>
        simp [loadChecks, whileStarting, storeBusy, unlessQuiet, isQuiet, hstarting, hop, htickets, hcharge, hstore, him, hcount,
          htmin, h]
    have him₀ : s₀.ground.verified = some im := by rw [ground]; exact him
    obtain ⟨hparams, hlevel⟩ := loadStore_settings him₀
    have hanswer : (loadStore s₀).2 = .loaded (changedParams im.params s.ground.params).length := by
      rw [loadStore_of_verified him₀, ground]
    have hanother : (loadStore s₀).1.ground.store = s₀.ground.store ∧ (loadStore s₀).1.ground.storeOp = s₀.ground.storeOp ∧
        (loadStore s₀).1.ground.verified = s₀.ground.verified :=
      (loadStore_goes (w := fun | .settings => true | _ => false) rfl s₀).store rfl
    obtain ⟨hstore', -, hverified⟩ := hanother
    refine ⟨(loadStore s₀).1, ?_, fun id v hv => ?_, ?_, ?_, ?_⟩
    · rw [exec_storeLoad, accepted_of_takes ht ((congrArg firstRefusal checks).trans pass), hanswer]
    · rw [hparams, paramValue_loaded, hv]
      rfl
    · rw [hlevel, ground]
    · rw [hstore', ground]
      exact hstore
    · rw [hverified, him₀]
  case busy =>
    have hbusy : s.ground.storeOp.isSome = true := Option.isSome_iff_ne_none.2 hbusy
    simp [loadChecks, whileStarting, storeBusy, hstarting, hbusy]
  case absent =>
    rcases hkey with h | h <;>
      simp [loadChecks, whileStarting, storeBusy, unlessQuiet, isQuiet, hstarting, hop, htickets, hcharge, hstore, h]

/-! ## The store's operations (R185, R187) -/

/-- Settles O59: the checks of STORE SAVE and STORE ERASE in order, and the end of each operation by what is in progress. -/
theorem storeOperationsBeginAndEnd : Obligations.StoreOperationsBeginAndEnd := by
  unfold Obligations.StoreOperationsBeginAndEnd
  refine ⟨fun s s₀ port tag hs hc => ⟨fun ht => ?save, fun ht => ?erase⟩, fun s hc => ⟨fun im hop => ?saveEnds, fun hop => ?eraseEnds⟩⟩
  case save =>
    have hstarting : s.ground.starting = false := hs
    have hcalm : calm s₀ := calm_of_takes ht hc
    obtain ⟨_, _, rfl⟩ := state_of_takes ht
    refine ⟨fun hop hstore => accepted_of_takes_calm ht ?_ hcalm, fun hop => refused_of_takes ht ?_,
      fun hop hstore => refused_of_takes ht ?_⟩
    · simp [whileStarting, storeBusy, hstarting, hop, hstore]
    · have hop : s.ground.storeOp.isSome = true := Option.isSome_iff_ne_none.2 hop
      simp [whileStarting, storeBusy, hstarting, hop]
    · simp [whileStarting, storeBusy, hstarting, hop, hstore]
  case erase =>
    have hstarting : s.ground.starting = false := hs
    have hcalm : calm s₀ := calm_of_takes ht hc
    obtain ⟨_, _, rfl⟩ := state_of_takes ht
    refine ⟨fun hp => refused_of_takes ht ?_, fun hp hkey => refused_of_takes ht ?_, fun hp hkey hop => refused_of_takes ht ?_,
      fun hp hkey hop hquiet => refused_of_takes ht ?_, fun hp hkey hop htickets hcharge hstore => refused_of_takes ht ?_,
      fun hp hkey hop htickets hcharge hstore => accepted_of_takes_calm ht ?_ hcalm⟩
    · simp [whileStarting, panelOnly, hstarting, hp]
    · simp [whileStarting, panelOnly, keyReleased, hstarting, hp, hkey]
    · have hop : s.ground.storeOp.isSome = true := Option.isSome_iff_ne_none.2 hop
      simp [whileStarting, panelOnly, keyReleased, storeBusy, hstarting, hp, hkey, hop]
    · have hquiet : ¬(s.plant.tickets.isEmpty = true ∧ s.plant.charge.isNone = true) := fun h =>
        hquiet.elim (fun h' => h' (List.isEmpty_iff.1 h.1)) fun h' => h' (Option.isNone_iff_eq_none.1 h.2)
      simpa [whileStarting, panelOnly, keyReleased, storeBusy, unlessQuiet, isQuiet, hstarting, hp, hkey, hop] using hquiet
    · simp [whileStarting, panelOnly, keyReleased, storeBusy, unlessQuiet, isQuiet, hstarting, hp, hkey, hop, htickets, hcharge,
        hstore]
    · simp [whileStarting, panelOnly, keyReleased, storeBusy, unlessQuiet, isQuiet, hstarting, hp, hkey, hop, htickets, hcharge,
        hstore]
  case saveEnds =>
    refine ⟨event_eq_of_calm (by simp only [State.opened_ground, hop]; rfl) hc,
      event_eq_of_calm (by simp only [State.opened_ground, hop]; rfl) hc,
      event_eq_of_calm (by simp only [State.opened_ground, hop]; rfl) hc,
      event_eq_of_calm (by simp only [State.opened_ground, hop]; rfl) hc,
      fun ok => event_eq_of_calm (by simp only [State.opened_ground, hop]) hc,
      event_eq_of_calm (by simp only [State.opened_ground, hop]) hc⟩
  case eraseEnds =>
    refine ⟨event_eq_of_calm (by simp only [State.opened_ground, hop]; rfl) hc,
      event_eq_of_calm (by simp only [State.opened_ground, hop]; rfl) hc,
      event_eq_of_calm (by simp only [State.opened_ground, hop]; rfl) hc,
      fun step => event_eq_of_calm (by simp only [State.opened_ground, hop]) hc,
      event_eq_of_calm (by simp only [State.opened_ground, hop]) hc⟩

end Sys2Proof.Machine
end

section
/-! What every step keeps of the store and the parameters, of the run state, the oven count and the clock; the state after
reset. -/

namespace Sys2Proof.Machine

open Sys2Proof.Safety

/-! ## The end of the store read (R188, R189) -/

theorem State.halt_ground (s : State) (new : RunState) (cause : RunCause) :
    (s.halt new cause).ground = { s.ground with runState := new } := State.setRunState_ground s new cause

theorem State.goOn_ground (s : State) : s.goOn.ground = { s.ground with runState := .running } :=
  State.setRunState_ground s .running .resume

theorem State.openLinks_ground (s : State) :
    s.openLinks.ground = { s.ground with
      poll := some (firstPoll s.plant)
      runState := if s.ground.estopLine then .stopped else s.ground.runState } := by
  unfold State.openLinks
  dsimp only
  split
  · rename_i h
    have h : s.ground.estopLine = true := h
    rw [State.halt_ground, if_pos h]
    rfl
  · rename_i h
    have h : ¬s.ground.estopLine = true := h
    rw [if_neg h]
    rfl

/-- What the store read's end leaves of the ground, configured or not. -/
structure StoreRead (g : Ground) (store : StoreState) (im : Option Image) (g' : Ground) : Prop where
  starting : g'.starting = false
  partWritten : g'.partWritten = false
  store : g'.store = store
  verified : g'.verified = im
  storeOp : g'.storeOp = g.storeOp
  params : g'.params = (im.map fun x => x.params).getD defaultParams
  protection : g'.protection = (im.map fun x => x.level).getD 0
  runState : g'.runState = if g.estopLine then .stopped else g.runState
  poll : (g'.poll.map fun x => x.address) = some 0

theorem State.leaveStarting_ground (s : State) (store : StoreState) (im : Option Image) (failure : Option StoreFailure) :
    StoreRead s.ground store im (s.leaveStarting store im failure).ground := by
  have opened : StoreRead s.ground store im ({ s with ground := s.ground.storeRead store im } : State).openLinks.ground := by
    rw [State.openLinks_ground]
    exact ⟨rfl, rfl, rfl, rfl, rfl, rfl, rfl, rfl, rfl⟩
  have failed : ∀ u : State, StoreRead s.ground store im u.ground → StoreRead s.ground store im
      (match failure with
      | some f => u.raise (.storeFail f)
      | none => u).ground := fun u h => by
    cases failure <;> exact h
  have configured : ∀ u : State, StoreRead s.ground store im u.ground → StoreRead s.ground store im
      (match u.ground.params.ovenCount, u.ground.params.carSplit with
      | some n, some split => u.configure n split
      | _, _ => u).ground := fun u h => by
    split
    · rename_i n split hn hsplit
      have params : (u.configure n split).ground.params = u.ground.params := by
        show { u.ground.params with ovenCount := some n, carSplit := some split } = u.ground.params
        rw [← hn, ← hsplit]
      exact { h with params := params.trans h.params }
    · exact h
  exact configured _ (failed _ opened)

/-- A command that handles the store read's end leaves the ground as it was, or as the read sets it. -/
theorem storeReadEnd_ground {found : StoreFound} {s t : State} (h : exec (.storeReadEnd found) s = .next t) :
    t.ground = s.ground ∨ s.ground.starting = true ∧ StoreRead s.ground (judgeStore s.ground.partWritten found).1
      (judgeStore s.ground.partWritten found).2.1 t.ground := by
  cases h
  by_cases hr : reading s.opened.ground = true
  · refine .inr ⟨(Bool.and_eq_true_iff.1 hr).1, ?_⟩
    show StoreRead _ _ _ (ite _ _ _ : State).settled.ground
    rw [if_pos hr]
    exact State.leaveStarting_ground s.opened ..
  · refine .inl ?_
    show (ite _ _ _ : State).settled.ground = _
    rw [if_neg hr]
    rfl

theorem storeReadTimeout_ground {s t : State} (h : exec .storeReadTimeout s = .next t) :
    t.ground = s.ground ∨ s.ground.starting = true ∧ StoreRead s.ground .absent none t.ground := by
  cases h
  by_cases hr : reading s.opened.ground = true
  · refine .inr ⟨(Bool.and_eq_true_iff.1 hr).1, ?_⟩
    show StoreRead _ _ _ (ite _ _ _ : State).settled.ground
    rw [if_pos hr]
    exact State.leaveStarting_ground s.opened ..
  · refine .inl ?_
    show (ite _ _ _ : State).settled.ground = _
    rw [if_neg hr]
    rfl

/-- The store read takes an image exactly when it finds the store VERIFIED, and one whose values stand (R188). -/
theorem judgeStore_image (partWritten : Bool) (found : StoreFound) :
    (judgeStore partWritten found).2.1.isSome = decide ((judgeStore partWritten found).1 = .verified) ∧
      ∀ im, (judgeStore partWritten found).2.1 = some im → paramsOk im.params = true ∧ im.level ≤ 3 := by
  unfold judgeStore
  split
  · cases partWritten <;> exact ⟨rfl, nofun⟩
  · exact ⟨rfl, nofun⟩
  · exact ⟨rfl, nofun⟩
  · split
    · exact ⟨rfl, nofun⟩
    · split
      · rename_i h
        obtain ⟨hok, hlevel⟩ := Bool.and_eq_true_iff.1 h
        refine ⟨rfl, fun im e => ?_⟩
        cases e
        exact ⟨hok, of_decide_eq_true hlevel⟩
      · exact ⟨rfl, nofun⟩

/-! ## The store's state and its image -/

theorem imagePresent_of_storeRead {g g' : Ground} {store : StoreState} {im : Option Image} (h : StoreRead g store im g')
    (hs : im.isSome = decide (store = .verified)) : g'.verified.isSome = decide (g'.store = .verified) := by
  rw [h.verified, h.store]
  exact hs

/-- What the end of a store operation leaves of the ground (R185, R187). -/
inductive StoreEnded (g : Ground) : Ground → Prop where
  | kept : StoreEnded g g
  | saved (im : Image) : g.storeOp = some (.save im) →
      StoreEnded g { g with store := .verified, verified := some im, storeOp := none }
  | erased : StoreEnded g { g with store := .blank, verified := none, storeOp := none }
  | failed : StoreEnded g { g with store := .corrupt, verified := none, storeOp := none }

theorem storeSaveEnd_ground {failed : Option StoreStep} {s t : State} (h : exec (.storeSaveEnd failed) s = .next t) :
    StoreEnded s.ground t.ground := by
  have judged : ∀ op : Option StoreOp, s.ground.storeOp = op → StoreEnded s.ground (match op, failed with
      | some (.save im), none => (s.opened.storeEnds .verified (some im)).raise .storeSaved
      | some (.save _), some step => s.opened.storeFails (stepFailure step)
      | _, _ => s.opened).ground := fun op hop => by
    split
    · exact .saved _ hop
    · exact .failed
    · exact .kept
  cases h
  exact judged _ rfl

theorem storeSaveTimeout_ground {s t : State} (h : exec .storeSaveTimeout s = .next t) : StoreEnded s.ground t.ground := by
  have judged : ∀ op : Option StoreOp, StoreEnded s.ground (match op with
      | some (.save _) => s.opened.storeFails .bound
      | _ => s.opened).ground := fun op => by
    split
    · exact .failed
    · exact .kept
  cases h
  exact judged s.ground.storeOp

theorem storeEraseEnd_ground {ok : Bool} {s t : State} (h : exec (.storeEraseEnd ok) s = .next t) :
    StoreEnded s.ground t.ground := by
  have judged : ∀ op : Option StoreOp, StoreEnded s.ground (match op with
      | some .erase => if ok then s.opened.storeEnds .blank none else s.opened.storeFails .erase
      | _ => s.opened).ground := fun op => by
    split
    · cases ok
      · exact .failed
      · exact .erased
    · exact .kept
  cases h
  exact judged s.ground.storeOp

theorem storeEraseTimeout_ground {s t : State} (h : exec .storeEraseTimeout s = .next t) : StoreEnded s.ground t.ground := by
  have judged : ∀ op : Option StoreOp, StoreEnded s.ground (match op with
      | some .erase => s.opened.storeFails .bound
      | _ => s.opened).ground := fun op => by
    split
    · exact .failed
    · exact .kept
  cases h
  exact judged s.ground.storeOp

/-- An accepted STORE SAVE or STORE ERASE leaves all of the ground but the operation in progress (R185, R187). -/
theorem storeSave_ground {port : Port} {tag : Byte} {s t : State} (h : exec (.storeSave port tag) s = .next t) :
    t.ground = s.ground ∨ t.ground = { s.ground with storeOp := some (.save s.ground.snapshot) } := by
  cases h
  obtain e | ⟨s₀, hg, -, e⟩ := s.serve_ground_cases port tag .storeSave _ _
  · exact .inl e
  · exact .inr (by rw [← hg]; exact e)

theorem storeErase_ground {port : Port} {tag : Byte} {s t : State} (h : exec (.storeErase port tag) s = .next t) :
    t.ground = s.ground ∨ t.ground = { s.ground with storeOp := some .erase } := by
  cases h
  obtain e | ⟨s₀, hg, -, e⟩ := s.serve_ground_cases port tag .storeErase _ _
  · exact .inl e
  · exact .inr (by rw [← hg]; exact e)

theorem exec_imagePresent {c : Instr} {s t : State} (hs : imagePresent s) (h : exec c s = .next t) : imagePresent t := by
  have kept : t.ground.store = s.ground.store → t.ground.verified = s.ground.verified → imagePresent t := fun e e' => by
    rw [imagePresent, e, e']
    exact hs
  have ended : StoreEnded s.ground t.ground → imagePresent t := by
    rw [imagePresent]
    generalize t.ground = g
    rintro (_ | _ | _ | _)
    · exact hs
    all_goals rfl
  cases c with
  | coldStart => cases h; rfl
  | storeReadEnd found =>
    obtain e | ⟨-, hr⟩ := storeReadEnd_ground h
    · exact kept (by rw [e]) (by rw [e])
    · exact imagePresent_of_storeRead hr (judgeStore_image ..).1
  | storeReadTimeout =>
    obtain e | ⟨-, hr⟩ := storeReadTimeout_ground h
    · exact kept (by rw [e]) (by rw [e])
    · exact imagePresent_of_storeRead hr rfl
  | storeSave port tag => obtain e | e := storeSave_ground h <;> exact kept (by rw [e]) (by rw [e])
  | storeErase port tag => obtain e | e := storeErase_ground h <;> exact kept (by rw [e]) (by rw [e])
  | storeSaveEnd failed => exact ended (storeSaveEnd_ground h)
  | storeSaveTimeout => exact ended (storeSaveTimeout_ground h)
  | storeEraseEnd ok => exact ended (storeEraseEnd_ground h)
  | storeEraseTimeout => exact ended (storeEraseTimeout_ground h)
  | _ =>
    obtain ⟨e, -, e'⟩ := (goes_of_exec h).store rfl
    exact kept e e'

/-! ## The parameters and the levels -/

theorem paramsOk_defaultParams : paramsOk defaultParams = true := by decide +kernel

theorem paramsKept_of_storeRead {s t : State} {store : StoreState} {im : Option Image} (hs : paramsKept s)
    (h : StoreRead s.ground store im t.ground) (hok : ∀ x, im = some x → paramsOk x.params = true ∧ x.level ≤ 3) : paramsKept t := by
  obtain ⟨-, -, -, hop⟩ := hs
  refine ⟨?_, ?_, ?_, ?_⟩
  · rw [h.params]
    cases im with
    | none => exact paramsOk_defaultParams
    | some im => exact (hok im rfl).1
  · rw [h.protection]
    cases im with
    | none => exact Nat.zero_le 3
    | some im => exact (hok im rfl).2
  · rw [h.verified]
    exact hok
  · rw [h.storeOp]
    exact hop

/-- The oven count set, with half of it for CAR_SPLIT, leaves the values within their ranges and relations (R183). -/
theorem paramsOk_configured {q : Params} (h : paramsOk q = true) {n : Nat} (hn : valueInRange q .ovenCount (.number n) = true) :
    paramsOk { q with ovenCount := some n, carSplit := some (n / 2) } = true := by
  obtain ⟨hrange, hrel, -⟩ := paramsOk_iff.1 h
  obtain ⟨hrel, -⟩ := relationsHold_iff.1 hrel
  obtain ⟨hlow, hhigh⟩ := valueInRange_number.1 hn
  have hlow : 8 ≤ n := Int.ofNat_le.1 hlow
  refine paramsOk_iff.2 ⟨fun id v hv => ?_, relationsHold_iff.2 ⟨hrel, fun m k hm hk => ?_⟩, rfl⟩
  · cases id with
    | ovenCount =>
      cases hv
      exact hn
    | carSplit =>
      cases hv
      have h1 : (1 : Int) ≤ (n / 2 : Nat) := by omega
      have h2 : ((n / 2 : Nat) : Int) ≤ n - 1 := by omega
      exact valueInRange_number.2 ⟨h1, h2⟩
    | issueLead => exact hrange .issueLead v hv
    | tMax => exact hrange .tMax v hv
    | _ => exact (valueInRange_eq rfl _ q v).trans (hrange _ v hv)
  · cases hm
    cases hk
    omega

/-- An accepted setting leaves the values within their ranges and relations (R182, R183). -/
theorem applySetting_params {s : State} {id : ParamId} {v : ParamValue} (hq : paramsOk s.ground.params = true)
    (hf : valueFits id v = true) (hr : firstRefusal (settingChecks s id v) = none) :
    paramsOk (applySetting id v s).1.ground.params = true ∧
      (applySetting id v s).1.ground.protection = s.ground.protection := by
  obtain ⟨-, hsplit, hrange, hrel⟩ := settingChecks_eq_none hr
  have hf := hasForm_of_valueFits hf
  by_cases hid : id = .ovenCount
  · subst hid
    cases v with
    | number n =>
      have h8 : (8 : Int) ≤ n := (valueInRange_number.1 hrange).1
      obtain ⟨n, rfl⟩ : ∃ m : Nat, n = m := Int.eq_ofNat_of_zero_le (by omega)
      exact ⟨paramsOk_configured hq hrange, rfl⟩
    | _ => cases hf
  · rw [applySetting_eq hid]
    obtain ⟨hp, hl⟩ := s.takeParam_settings id v
    rw [hp, hl]
    exact ⟨paramsOk_setParam hq hf hrange hrel hid hsplit, rfl⟩

theorem paramSet_checked {s : State} {id : Option ParamId} {v : ParamValue}
    (h : firstRefusal ([whileStarting s, badField (id.isNone || !valueFits (id.getD .ovenCount) v)] ++
      settingChecks s (id.getD .ovenCount) v) = none) :
    valueFits (id.getD .ovenCount) v = true ∧ firstRefusal (settingChecks s (id.getD .ovenCount) v) = none := by
  have checked := firstRefusal_eq_none.1 h
  have hbad := checked (badField (id.isNone || !valueFits (id.getD .ovenCount) v)) (by simp)
  refine ⟨?_, firstRefusal_eq_none.2 fun c hc => checked c (List.mem_append_right _ hc)⟩
  simpa [badField] using (Bool.or_eq_false_iff.1 hbad).2

/-- An accepted STORE LOAD leaves the image's values (R186). -/
theorem loadStore_params {s : State} (hs : paramsKept s) (hr : firstRefusal (loadChecks s) = none) :
    (∃ im, s.ground.verified = some im ∧ im.params.ovenCount = s.ground.params.ovenCount ∧
      (loadStore s).1.ground.params = im.params) ∧ (loadStore s).1.ground.protection = s.ground.protection := by
  obtain ⟨hq, -, him, -⟩ := hs
  have checked := firstRefusal_eq_none.1 hr
  simp only [loadChecks, List.forall_mem_cons] at checked
  obtain ⟨-, -, -, -, hverified, hcount, -⟩ := checked
  cases hv : s.ground.verified with
  | none => simp [hv] at hverified
  | some im =>
    have hcount : im.params.ovenCount = s.ground.params.ovenCount := by simpa [hv] using hcount
    obtain ⟨hp, hl⟩ := loadStore_settings hv
    obtain ⟨-, -, hsplit⟩ := paramsOk_iff.1 (him im hv).1
    obtain ⟨-, -, hsplit'⟩ := paramsOk_iff.1 hq
    exact ⟨⟨im, rfl, hcount, hp.trans (loaded_eq_image hcount hsplit hsplit')⟩, hl⟩

theorem loadStore_ovenCount {s : State} {n : Nat} (hn : s.ground.params.ovenCount = some n)
    (hr : firstRefusal (loadChecks s) = none) : (loadStore s).1.ground.params.ovenCount = some n := by
  have checked := firstRefusal_eq_none.1 hr
  simp only [loadChecks, List.forall_mem_cons] at checked
  obtain ⟨-, -, -, -, hverified, hcount, -⟩ := checked
  cases hv : s.ground.verified with
  | none => simp [hv] at hverified
  | some im =>
    have hcount : im.params.ovenCount = some n := by simpa [hv, hn] using hcount
    have hvalue : paramValue im.params .ovenCount = some (.number n) := by rw [paramValue, hcount]; rfl
    have hloaded : paramValue (loadStore s).1.ground.params .ovenCount = some (.number n) := by
      rw [(loadStore_settings hv).1, paramValue_loaded, hvalue]
      rfl
    obtain ⟨m, hm, e⟩ := paramValue_ovenCount hloaded
    injection e with e
    rw [hm, Int.ofNat_inj.1 e]

theorem protectSet_ground {port : Port} {tag : Byte} {level : Nat} {s t : State} (h : exec (.protectSet port tag level) s = .next t) :
    t.ground = s.ground ∨ level ≤ 3 ∧ t.ground = { s.ground with protection := level } := by
  cases h
  obtain e | ⟨s₀, hg, hr, e⟩ := s.serve_ground_cases port tag (.protectSet level) _ _
  · exact .inl e
  · have hlevel := firstRefusal_eq_none.1 hr (badField (3 < level)) (by simp)
    exact .inr ⟨by simpa [badField] using hlevel, by rw [← hg]; exact e⟩

theorem exec_paramsKept {c : Instr} {s t : State} (hs : paramsKept s) (h : exec c s = .next t) : paramsKept t := by
  obtain ⟨hq, hl, him, hop⟩ := hs
  have stored : t.ground.verified = s.ground.verified → t.ground.storeOp = s.ground.storeOp →
      paramsOk t.ground.params = true → t.ground.protection ≤ 3 → paramsKept t := fun hv ho hq' hl' =>
    ⟨hq', hl', by rw [hv]; exact him, by rw [ho]; exact hop⟩
  have same : t.ground = s.ground → paramsKept t := fun e => stored (by rw [e]) (by rw [e]) (by rw [e]; exact hq) (by rw [e]; exact hl)
  have ended : StoreEnded s.ground t.ground → paramsKept t := by
    rw [paramsKept]
    generalize t.ground = g
    rintro (_ | ⟨im, hsave⟩ | _ | _)
    · exact ⟨hq, hl, him, hop⟩
    · refine ⟨hq, hl, fun x e => ?_, nofun⟩
      cases e
      exact hop _ hsave
    · exact ⟨hq, hl, nofun, nofun⟩
    · exact ⟨hq, hl, nofun, nofun⟩
  have kept : commandItems c .store = false → paramsOk t.ground.params = true → t.ground.protection ≤ 3 → paramsKept t :=
    fun hc => by
      obtain ⟨-, ho, hv⟩ := (goes_of_exec h).store hc
      exact stored hv ho
  cases c with
  | coldStart => cases h; exact ⟨paramsOk_defaultParams, Nat.zero_le 3, nofun, nofun⟩
  | storeReadEnd found =>
    obtain e | ⟨-, hr⟩ := storeReadEnd_ground h
    · exact same e
    · exact paramsKept_of_storeRead ⟨hq, hl, him, hop⟩ hr (judgeStore_image ..).2
  | storeReadTimeout =>
    obtain e | ⟨-, hr⟩ := storeReadTimeout_ground h
    · exact same e
    · exact paramsKept_of_storeRead ⟨hq, hl, him, hop⟩ hr nofun
  | storeSave port tag =>
    obtain e | e := storeSave_ground h
    · exact same e
    · rw [paramsKept, e]
      refine ⟨hq, hl, him, fun im e => ?_⟩
      cases e
      exact ⟨hq, hl⟩
  | storeErase port tag =>
    obtain e | e := storeErase_ground h
    · exact same e
    · rw [paramsKept, e]
      exact ⟨hq, hl, him, nofun⟩
  | storeSaveEnd failed => exact ended (storeSaveEnd_ground h)
  | storeSaveTimeout => exact ended (storeSaveTimeout_ground h)
  | storeEraseEnd ok => exact ended (storeEraseEnd_ground h)
  | storeEraseTimeout => exact ended (storeEraseTimeout_ground h)
  | paramSet port tag id v =>
    cases h
    obtain e | ⟨s₀, hg, hr, e⟩ := s.serve_ground_cases port tag (.paramSet id v) _ _
    · exact same e
    · obtain ⟨hf, hr⟩ := paramSet_checked hr
      obtain ⟨hp, hl'⟩ := applySetting_params (s := s₀) (by rw [hg]; exact hq) hf hr
      exact kept rfl ((congrArg (fun g : Ground => paramsOk g.params) e).trans hp)
        (((congrArg (fun g : Ground => g.protection) e).trans (hl'.trans (by rw [hg]))) ▸ hl)
  | storeLoad port tag =>
    cases h
    obtain e | ⟨s₀, hg, hr, e⟩ := s.serve_ground_cases port tag .storeLoad loadChecks loadStore
    · exact same e
    · have hs₀ : paramsKept s₀ := by
        rw [paramsKept, hg]
        exact ⟨hq, hl, him, hop⟩
      obtain ⟨⟨im, hv, -, hp⟩, hl'⟩ := loadStore_params hs₀ hr
      rw [hg] at hv
      exact kept rfl (((congrArg (fun g : Ground => g.params) e).trans hp) ▸ (him im hv).1)
        (((congrArg (fun g : Ground => g.protection) e).trans (hl'.trans (by rw [hg]))) ▸ hl)
  | protectSet port tag level =>
    obtain e | ⟨hlevel, e⟩ := protectSet_ground h
    · exact same e
    · exact stored (by rw [e]) (by rw [e]) (by rw [e]; exact hq) (by rw [e]; exact hlevel)
  | _ =>
    obtain ⟨hp, hl', -⟩ := (goes_of_exec h).settings rfl
    exact kept rfl (by rw [hp]; exact hq) (by rw [hl']; exact hl)

/-- Settles O4: every command keeps both, the store's and the parameters' own commands by what each leaves of the ground. -/
theorem storeAndParametersStaySound : Obligations.StoreAndParametersStaySound := by
  unfold Obligations.StoreAndParametersStaySound
  exact ⟨stepKeeps_of_exec (fun _ _ h => h) fun _ _ _ hs h => exec_imagePresent hs h,
    stepKeeps_of_exec (fun _ _ h => h) fun _ _ _ hs h => exec_paramsKept hs h⟩

/-! ## The run state, the oven count and the clock -/

theorem estopAsserted_runState {s t : State} (h : exec .estopAsserted s = .next t) :
    t.ground.runState = s.ground.runState ∨ t.ground.runState = .stopped := by
  have judged : ∀ b : Bool, (if b then ({ s.opened with ground := { s.ground with estopLine := true } } : State)
      else ({ s.opened with ground := { s.ground with estopLine := true } } : State).halt .stopped .estop).ground.runState =
        s.ground.runState ∨
      (if b then ({ s.opened with ground := { s.ground with estopLine := true } } : State)
      else ({ s.opened with ground := { s.ground with estopLine := true } } : State).halt .stopped .estop).ground.runState =
        .stopped := fun b => by
    cases b with
    | true => exact .inl rfl
    | false => exact .inr (congrArg (fun g : Ground => g.runState) (State.halt_ground ..))
  cases h
  exact judged (s.ground.starting || s.ground.estopLine || s.ground.runState = .stopped)

/-- Settles O9: the commands that may write the run state (`commandItems`), each by the value it gives it. -/
theorem runStateChangesOnlyByItsEvents : Obligations.RunStateChangesOnlyByItsEvents := by
  unfold Obligations.RunStateChangesOnlyByItsEvents
  intro c s t h hne
  have read : ∀ {store : StoreState} {im : Option Image}, t.ground = s.ground ∨ s.ground.starting = true ∧
      StoreRead s.ground store im t.ground → t.ground.runState = .stopped := fun h => by
    obtain e | ⟨-, hr⟩ := h
    · exact absurd (congrArg (fun g : Ground => g.runState) e) hne
    · have e := hr.runState
      split at e
      · exact e
      · exact absurd e hne
  cases c with
  | coldStart byLine => cases h; exact .inr ⟨_, rfl⟩
  | storeReadEnd found =>
    rw [read (storeReadEnd_ground h)]
    exact .inr (.inr ⟨_, rfl⟩)
  | storeReadTimeout =>
    rw [read (storeReadTimeout_ground h)]
    exact .inr (.inl rfl)
  | estopAsserted =>
    obtain e | e := estopAsserted_runState h
    · exact absurd e hne
    · rw [e]
      exact .inl rfl
  | pause port tag =>
    cases h
    obtain e | ⟨s₀, hg, -, e⟩ := s.serve_ground_cases port tag .pause _ _
    · exact absurd (congrArg (fun g : Ground => g.runState) e) hne
    · rw [e] at hne ⊢
      by_cases hr : s₀.ground.running = true
      · rw [if_pos hr, State.halt_ground]
        exact .inl ⟨_, _, .inl rfl⟩
      · rw [if_neg hr, hg] at hne
        exact absurd rfl hne
  | resume port tag =>
    cases h
    obtain e | ⟨s₀, hg, -, e⟩ := s.serve_ground_cases port tag .resume _ _
    · exact absurd (congrArg (fun g : Ground => g.runState) e) hne
    · rw [e] at hne ⊢
      by_cases hr : s₀.ground.running = true
      · rw [if_pos hr, hg] at hne
        exact absurd rfl hne
      · rw [if_neg hr, State.goOn_ground]
        exact ⟨_, _, rfl⟩
  | restart port tag =>
    cases h
    obtain e | ⟨s₀, hg, -, e⟩ := s.serve_ground_cases port tag .restart _ _
    · exact absurd (congrArg (fun g : Ground => g.runState) e) hne
    · rw [e, restart_ground] at hne ⊢
      by_cases hr : s₀.ground.running = true
      · dsimp only
        rw [if_pos hr]
        exact .inl ⟨_, _, .inr rfl⟩
      · dsimp only at hne
        rw [if_neg hr, hg] at hne
        exact absurd rfl hne
  | _ => exact absurd ((goes_of_exec h).run rfl) hne

/-- Settles O10: the commands that may write the settings, each by what it leaves of the oven count. -/
theorem ovenCountIsSetOnce : Obligations.OvenCountIsSetOnce := by
  unfold Obligations.OvenCountIsSetOnce
  intro c s t n hs hn h hcold
  have same : t.ground = s.ground → t.ground.params.ovenCount = some n := fun e => by rw [e]; exact hn
  cases c with
  | coldStart byLine => exact absurd rfl (hcold byLine)
  | storeReadEnd found =>
    obtain e | ⟨hstarting, -⟩ := storeReadEnd_ground h
    · exact same e
    · exact absurd (hs.symm.trans hstarting) (by decide)
  | storeReadTimeout =>
    obtain e | ⟨hstarting, -⟩ := storeReadTimeout_ground h
    · exact same e
    · exact absurd (hs.symm.trans hstarting) (by decide)
  | paramSet port tag id v =>
    cases h
    obtain e | ⟨s₀, hg, hr, e⟩ := s.serve_ground_cases port tag (.paramSet id v) _ _
    · exact same e
    · obtain ⟨-, hr⟩ := paramSet_checked hr
      obtain ⟨honce, -⟩ := settingChecks_eq_none hr
      have hid : id.getD .ovenCount ≠ .ovenCount := fun e => by
        have hconf := honce (by rw [e]; rfl)
        rw [hg, Ground.configured, hn] at hconf
        cases hconf
      have hp : (applySetting (id.getD .ovenCount) v s₀).1.ground.params.ovenCount = some n := by
        rw [applySetting_eq hid, (s₀.takeParam_settings _ v).1, setParam_ovenCount hid, hg]
        exact hn
      exact (congrArg (fun g : Ground => g.params.ovenCount) e).trans hp
  | storeLoad port tag =>
    cases h
    obtain e | ⟨s₀, hg, hr, e⟩ := s.serve_ground_cases port tag .storeLoad loadChecks loadStore
    · exact same e
    · exact (congrArg (fun g : Ground => g.params.ovenCount) e).trans (loadStore_ovenCount (by rw [hg]; exact hn) hr)
  | protectSet port tag level =>
    obtain e | ⟨-, e⟩ := protectSet_ground h
    · exact same e
    · rw [e]
      exact hn
  | _ =>
    rw [((goes_of_exec h).settings rfl).1]
    exact hn

/-- Settles O11: the two outcomes of a tick, and the clock among the items of `exec_goes`. -/
theorem clockAdvancesByTicks : Obligations.ClockAdvancesByTicks := by
  unfold Obligations.ClockAdvancesByTicks
  refine ⟨fun s hr => congrArg Host.Outcome.next (if_neg (by simp [hr])), fun s hr => congrArg Host.Outcome.next (if_pos hr),
    fun c s t h htick hcold => ?_⟩
  cases c with
  | coldStart byLine => exact absurd rfl (hcold byLine)
  | batteryClockTick => exact absurd rfl htick
  | _ => exact (goes_of_exec h).clock rfl

/-! ## The state after reset -/

theorem carSound_created : CarSound CarRecord.created := ⟨fun _ => rfl, nofun, nofun, nofun, nofun⟩

/-- Without tickets and STARTING a push is sound. -/
theorem pushSound_of_nil {s : State} (ht : s.plant.tickets = []) (hs : s.ground.configured = false) : PushSound s := by
  constructor
  case configured => exact fun h => absurd ht h
  case starting => exact fun _ => hs
  all_goals simp [ht]

theorem waterHeld_reset : waterHeld State.reset := fun c h => by
  cases c <;> exact absurd h (by decide)

/-- Settles O8: the state after reset, condition by condition. -/
theorem resetIsSafe : Obligations.ResetIsSafe := by
  unfold Obligations.ResetIsSafe
  have ports : portsBounded State.reset := ⟨⟨Nat.zero_le 4, Nat.zero_le 32⟩, Nat.zero_le 4, Nat.zero_le 32⟩
  have lists : listsBounded State.reset := ⟨Nat.zero_le 2, Nat.zero_le 8, Nat.zero_le 16, Nat.zero_le 16, Nat.zero_le 64⟩
  have params : paramsKept State.reset := ⟨paramsOk_defaultParams, Nat.zero_le 3, nofun, nofun⟩
  have spans : spansApart State.reset := ⟨carSound_created, carSound_created, nofun⟩
  exact ⟨⟨ports, lists, rfl, params, spans, waterHeld_reset, pushSound_of_nil rfl rfl⟩, rfl⟩

end Sys2Proof.Machine
end

section
/-! Start-up and the lines: what a cold start leaves, the end of the store read, the emergency stop line and PAUSE, and RESTART. -/

namespace Sys2Proof.Machine

open Sys2Proof.Safety

/-- Settles O12: the state a cold start leaves, field by field. -/
theorem coldStartBeginsStarting : Obligations.ColdStartBeginsStarting := by
  unfold Obligations.ColdStartBeginsStarting
  refine ⟨fun s byLine => ?_, fun s => rfl⟩
  have written : (s.ground.partWritten || saving s.ground) = true ↔
      s.ground.partWritten = true ∨ ∃ im, s.ground.storeOp = some (.save im) := by
    rw [Bool.or_eq_true]
    refine or_congr_right ?_
    unfold saving
    split
    · rename_i im h
      simp [h]
    · rename_i h
      simpa using h
  exact ⟨_, rfl, rfl, rfl, rfl, rfl, rfl, rfl, written, rfl, rfl, rfl, rfl, rfl, rfl, rfl, rfl, rfl, rfl, rfl, rfl, rfl, rfl, rfl,
    rfl, fun m => by cases m <;> rfl, fun link => by
      rcases link with (_ | _) | (_ | _ | _ | _ | _) | _ <;> rfl, rfl, rfl, rfl, rfl, rfl, rfl, rfl, rfl, rfl, rfl, rfl,
    rfl, rfl, rfl, rfl, rfl, rfl, rfl, rfl, rfl, rfl, rfl, rfl, rfl, rfl, rfl, rfl, rfl, rfl⟩

/-! ## The halt of the battery (R168, R169) -/

/-- The work suspended (R86, R107, R119). -/
def suspendedWork (g : Ground) (p : Plant) : Plant := suspendCharge g (suspendJob .cs (suspendJob .ps (suspendTickets p)))

theorem suspendWork_eq (g : Ground) (p : Plant) : suspendWork g p = recheckAsk g (suspendedWork g p) := rfl

theorem recheckAsk_of_none {g : Ground} {p : Plant} (h : p.ask = none) : recheckAsk g p = p := by
  unfold recheckAsk
  rw [h]

@[simp] theorem suspendedWork_ask (g : Ground) (p : Plant) : (suspendedWork g p).ask = p.ask := rfl

theorem settle_sent (g : Ground) (k : Nat) (p : Plant) : p.sent <+: (settle g k p).sent :=
  settle_induction (I := fun q => p.sent <+: q.sent) g (fun _ _ h => h) (fun t q h => h.trans (runTask_keeps g t q).sent) k p
    (List.prefix_refl _)

theorem suspendWork_sent (g : Ground) (p : Plant) : p.sent <+: (suspendWork g p).sent :=
  have kept : Keeps .all p (suspendWork g p) :=
    (suspendTickets_keeps rfl p).trans <| (suspendJob_keeps (Kinds.all_has _) _).trans <|
      (suspendJob_keeps (Kinds.all_has _) _).trans <| (suspendCharge_keeps (Kinds.all_has _) g _).trans
        (recheckAsk_keeps (Kinds.all_has _) (fun _ _ => Kinds.all_has _) g)
  kept.sent

theorem stopAll_eq (p : Plant) : stopAll p = { p with sent := p.sent ++ allMachines.map fun m => (m, .stop) } := by
  simp [stopAll, sendStops, allMachines, send]

theorem mem_stopAll_sent (m : Machine) (p : Plant) : (m, ToMachine.stop) ∈ (stopAll p).sent := by
  rw [stopAll_eq, List.mem_append, List.mem_map]
  exact .inr ⟨m, by cases m <;> decide, rfl⟩

theorem State.setRunState_plant (s : State) (new : RunState) (cause : RunCause) :
    ∃ sup pnl, (s.setRunState new cause).plant = { s.plant with sup := sup, pnl := pnl } := by
  unfold State.setRunState
  dsimp only
  split <;> exact ⟨_, _, rfl⟩

theorem State.halt_plant (s : State) (new : RunState) (cause : RunCause) :
    ∃ sup pnl, (s.halt new cause).plant = suspendWork { s.ground with runState := new } (stopAll { s.plant with sup := sup, pnl := pnl }) := by
  obtain ⟨sup, pnl, e⟩ := s.setRunState_plant new cause
  refine ⟨sup, pnl, ?_⟩
  rw [← e, ← s.setRunState_ground new cause]
  rfl

/-- STOP has gone to every machine, whatever follows the halt. -/
theorem State.halt_sent (s : State) (new : RunState) (cause : RunCause) (m : Machine) :
    (m, ToMachine.stop) ∈ (s.halt new cause).settled.plant.sent := by
  obtain ⟨sup, pnl, e⟩ := s.halt_plant new cause
  have stopped : (m, ToMachine.stop) ∈ (s.halt new cause).plant.sent := by
    rw [e]
    exact (suspendWork_sent ..).subset (mem_stopAll_sent m _)
  exact (settle_sent ..).subset stopped

/-- With no ask pending a halt suspends the work and changes nothing else of the plant but the ports and the records sent. -/
theorem State.halt_plant_of_no_ask {s : State} (h : s.plant.ask = none) (new : RunState) (cause : RunCause) :
    ∃ sup pnl, (s.halt new cause).plant = { suspendedWork s.ground s.plant with
      sup := sup, pnl := pnl, sent := s.plant.sent ++ allMachines.map fun m => (m, .stop) } := by
  obtain ⟨sup, pnl, e⟩ := s.halt_plant new cause
  refine ⟨sup, pnl, ?_⟩
  have ask : (suspendedWork { s.ground with runState := new } (stopAll { s.plant with sup := sup, pnl := pnl })).ask = none := by
    rw [suspendedWork_ask, stopAll_eq]
    exact h
  rw [e, suspendWork_eq, recheckAsk_of_none ask, stopAll_eq]
  rfl

/-- Without an ask pending and without follow-up events, the halt's follow-up events are none. -/
theorem State.halt_settled {s : State} (hc : calm s) (h : s.plant.ask = none) (new : RunState) (cause : RunCause) :
    (s.halt new cause).settled = s.halt new cause := by
  obtain ⟨sup, pnl, e⟩ := State.halt_plant_of_no_ask h new cause
  refine State.settled_of_calm ?_
  rw [e]
  exact hc

theorem Plant.modPort_eq (p : Plant) (port : Port) (f : PortState → PortState) :
    ∃ sup pnl, p.modPort port f = { p with sup := sup, pnl := pnl } := by
  cases port <;> exact ⟨_, _, rfl⟩

theorem exec_estopAsserted_halts {s : State} (hs : started s) (hl : s.ground.estopLine = false)
    (hr : s.ground.runState ≠ .stopped) :
    exec .estopAsserted s = .next
      (({ s.opened with ground := { s.ground with estopLine := true } } : State).halt .stopped .estop).settled := by
  have hstarting : s.ground.starting = false := hs
  have hif : ¬(s.ground.starting || s.ground.estopLine || decide (s.ground.runState = .stopped)) = true := by
    simp [hstarting, hl, hr]
  exact congrArg (fun t : State => Host.Outcome.next t.settled) (if_neg hif)

theorem exec_pause_halts {s s₀ : State} {port : Port} {tag : Byte} (hs : started s) (ht : takes s port tag .pause s₀)
    (hr : s.ground.running = true) :
    exec (.pause port tag) s = .next ((s₀.halt .paused .pause).settled.answer port tag
      (.ok (.runState .paused s.ground.estopLine))) := by
  have hstarting : s₀.ground.starting = false := started_of_takes ht hs
  have ground := ground_of_takes ht
  have hr : s₀.ground.running = true := by rw [ground]; exact hr
  have done : exec (.pause port tag) s = _ :=
    accepted_of_takes ht (checks := fun s => [whileStarting s]) (by simp [whileStarting, hstarting])
  rw [done, if_pos hr]
  dsimp only
  rw [State.halt_ground, ground]

theorem exec_pause_idle {s s₀ : State} {port : Port} {tag : Byte} (hs : started s) (hc : calm s)
    (ht : takes s port tag .pause s₀) (hr : s.ground.running = false) :
    exec (.pause port tag) s = .next (s₀.answer port tag (.ok (.runState s.ground.runState s.ground.estopLine))) := by
  have hstarting : s₀.ground.starting = false := started_of_takes ht hs
  have ground := ground_of_takes ht
  have hr : ¬s₀.ground.running = true := by rw [ground, hr]; decide
  have done : exec (.pause port tag) s = _ :=
    accepted_of_takes ht (checks := fun s => [whileStarting s]) (by simp [whileStarting, hstarting])
  rw [done, if_neg hr]
  dsimp only
  rw [State.settled_of_calm (calm_of_takes ht hc), ground]

/-- Settles O14: `State.halt` in its three fields for the assertion and PAUSE, and the lines' own commands. -/
theorem estopAndPauseHaltTheBattery : Obligations.EstopAndPauseHaltTheBattery := by
  unfold Obligations.EstopAndPauseHaltTheBattery
  refine ⟨fun s hs hl hr => ?estop, fun s s₀ port tag hs ht => ⟨fun hr => ?pause, fun hr hc => ?idle⟩, fun s hc => ?lines⟩
  case estop =>
    refine ⟨_, exec_estopAsserted_halts hs hl hr, State.halt_ground .., State.halt_sent _ _ _, fun hc hask => ?_⟩
    rw [State.halt_settled (s := { s.opened with ground := { s.ground with estopLine := true } }) hc hask]
    exact State.halt_plant_of_no_ask (s := { s.opened with ground := { s.ground with estopLine := true } }) hask .stopped .estop
  case pause =>
    have ground := ground_of_takes ht
    refine ⟨_, exec_pause_halts hs ht (decide_eq_true hr), ?_, fun m => ?_, fun hc hask => ?_⟩
    · rw [State.answer_ground, State.settled_ground, State.halt_ground, ground]
    · have sent := s₀.halt_sent .paused .pause m
      obtain ⟨_, _, e⟩ := Plant.modPort_eq (s₀.halt .paused .pause).settled.plant port
        fun x => x.answer tag (.ok (.runState .paused s.ground.estopLine))
      exact (congrArg (fun p : Plant => (m, ToMachine.stop) ∈ p.sent) e).mpr sent
    · obtain ⟨sup, pnl, rfl⟩ := state_of_takes ht
      rw [State.halt_settled (calm_of_takes ht hc) hask]
      obtain ⟨_, _, e⟩ := State.halt_plant_of_no_ask
        (s := { s with plant := { s.plant with sup := sup, pnl := pnl, sent := [] } }) hask .paused .pause
      obtain ⟨sup', pnl', e'⟩ := Plant.modPort_eq
        (({ s with plant := { s.plant with sup := sup, pnl := pnl, sent := [] } } : State).halt .paused .pause).plant port
        fun x => x.answer tag (.ok (.runState .paused s.ground.estopLine))
      refine ⟨sup', pnl', e'.trans ?_⟩
      rw [e]
      rfl
  case idle => exact exec_pause_idle hs hc ht (decide_eq_false hr)
  case lines =>
    refine ⟨fun hs hl => ?_, fun level => event_eq_of_calm rfl hc, fun hstarting => ⟨?_, ?_⟩⟩
    · have hstarting : s.ground.starting = false := hs
      exact event_eq_of_calm (if_neg (by simp [hstarting, hl])) hc
    · exact event_eq_of_calm (if_pos (by simp [hstarting])) hc
    · exact event_eq_of_calm (if_pos (by simp [hstarting])) hc

end Sys2Proof.Machine
end

section
/-! The end of the store read (R188, R189). -/

namespace Sys2Proof.Machine

open Sys2Proof.Safety

/-! ## The stages of the read's end -/

/-- STORE_FAIL is raised for a store found CORRUPT (R189). -/
def State.failureRaised (failure : Option StoreFailure) (s : State) : State :=
  match failure with
  | some f => s.raise (.storeFail f)
  | none => s

/-- The records are created when the oven count is set (R189). -/
def State.configuredRead (s : State) : State :=
  match s.ground.params.ovenCount, s.ground.params.carSplit with
  | some n, some split => s.configure n split
  | _, _ => s

theorem State.leaveStarting_eq (s : State) (store : StoreState) (im : Option Image) (failure : Option StoreFailure) :
    s.leaveStarting store im failure =
      (State.failureRaised failure ({ s with ground := s.ground.storeRead store im } : State).openLinks).configuredRead := by
  cases failure <;> rfl

theorem exec_storeReadEnd_reading {found : StoreFound} {s : State} (h : s.ground.starting = true)
    (hr : s.ground.resetHeld = false) :
    exec (.storeReadEnd found) s = .next (s.opened.leaveStarting (judgeStore s.ground.partWritten found).1
      (judgeStore s.ground.partWritten found).2.1 (judgeStore s.ground.partWritten found).2.2).settled :=
  congrArg (fun t : State => Host.Outcome.next t.settled) (if_pos (show reading s.ground = true by simp [reading, h, hr]))

theorem exec_storeReadTimeout_reading {s : State} (h : s.ground.starting = true) (hr : s.ground.resetHeld = false) :
    exec .storeReadTimeout s = .next (s.opened.leaveStarting .absent none none).settled :=
  congrArg (fun t : State => Host.Outcome.next t.settled) (if_pos (show reading s.ground = true by simp [reading, h, hr]))

/-! ## The masks and the records -/

@[simp] theorem suspendWork_masks (g : Ground) (p : Plant) : (suspendWork g p).masks = p.masks := by
  rw [suspendWork_eq, recheckAsk_masks]
  show (suspendJob .cs (suspendJob .ps (suspendTickets p))).masks = p.masks
  unfold suspendJob
  rw [Plant.modSide_masks, Plant.modSide_masks]
  rfl

theorem State.halt_masks (s : State) (new : RunState) (cause : RunCause) : (s.halt new cause).plant.masks = s.plant.masks := by
  show (suspendWork _ (stopAll (s.setRunState new cause).plant)).masks = _
  rw [suspendWork_masks, stopAll, sendStops_masks, State.setRunState_masks]

theorem State.openLinks_masks (s : State) : s.openLinks.plant.masks = (s.ground.params.supMask, s.ground.params.pnlMask) := by
  unfold State.openLinks
  dsimp only
  split
  · rw [State.halt_masks]
    rfl
  · rfl

theorem State.leaveStarting_masks (s : State) (store : StoreState) (im : Option Image) (failure : Option StoreFailure) :
    (s.leaveStarting store im failure).plant.masks =
      ((s.ground.storeRead store im).params.supMask, (s.ground.storeRead store im).params.pnlMask) := by
  rw [State.leaveStarting_eq]
  have configured : ∀ u : State, u.configuredRead.plant.masks = u.plant.masks := fun u => by
    unfold State.configuredRead
    split <;> rfl
  have failed : ∀ u : State, (State.failureRaised failure u).plant.masks = u.plant.masks := fun u => by
    cases failure with
    | none => rfl
    | some f => exact raise_masks ..
  rw [configured, failed, State.openLinks_masks]

theorem State.openLinks_calm {s : State} (hc : calm s) (hask : s.ground.estopLine = true → s.plant.ask = none) :
    calm s.openLinks := by
  unfold State.openLinks
  dsimp only
  split
  · rename_i h
    obtain ⟨_, _, e⟩ := State.halt_plant_of_no_ask (s :=
      { ((s.modPort .sup fun x => { x with mask := s.ground.params.supMask }).modPort .pnl fun x =>
        { x with mask := s.ground.params.pnlMask }) with ground := { s.ground with poll := some (firstPoll s.plant) } })
      (hask h) .stopped .estop
    exact (congrArg (fun p : Plant => p.agenda) e).trans hc
  · exact hc

/-- A set oven count configures the 2480 as the read ends, in a state in which no follow-up event waits. -/
theorem State.leaveStarting_configured {s : State} (hc : calm s) (hask : s.ground.estopLine = true → s.plant.ask = none)
    {store : StoreState} {im : Image} {n split : Nat} (hn : im.params.ovenCount = some n) (hs : im.params.carSplit = some split)
    (failure : Option StoreFailure) :
    ∃ u : State, s.leaveStarting store (some im) failure = u.configure n split ∧ u.ground.params = im.params ∧ calm u := by
  have opened : calm ({ s with ground := s.ground.storeRead store (some im) } : State).openLinks :=
    State.openLinks_calm hc hask
  have params : ({ s with ground := s.ground.storeRead store (some im) } : State).openLinks.ground.params = im.params := by
    rw [State.openLinks_ground]
    rfl
  have failed : ∀ u : State, (State.failureRaised failure u).ground.params = u.ground.params ∧
      (calm u → calm (State.failureRaised failure u)) := fun u => by
    cases failure <;> exact ⟨rfl, id⟩
  refine ⟨State.failureRaised failure _, ?_, (failed _).1.trans params, (failed _).2 opened⟩
  rw [State.leaveStarting_eq]
  unfold State.configuredRead
  rw [(failed _).1, params, hn, hs]

theorem State.configure_tables (s : State) (n split : Nat) :
    (s.configure n split).plant.ovens = (ovenNumbers n).map Oven.created ∧
      (s.configure n split).ground.order = pushOrder n s.ground.params.plan ∧
      (s.configure n split).ground.walls.length = n + 1 ∧ (s.configure n split).ground.doors.length = n ∧
      (s.configure n split).ground.ovenNodes.length = n := by
  simp [State.configure, Plant.configure, Ground.configure]

/-- Without an image the read leaves the defaults at protection level 0, unconfigured (R188). -/
theorem exec_storeReadEnd_unread {found : StoreFound} {s : State} {store : StoreState} {failure : Option StoreFailure}
    (hs : s.ground.starting = true) (hr : s.ground.resetHeld = false)
    (h : judgeStore s.ground.partWritten found = (store, none, failure)) :
    ∃ t, exec (.storeReadEnd found) s = .next t ∧ t.ground.store = store ∧ t.ground.starting = false ∧ t.ground.verified = none ∧
      t.ground.params = defaultParams ∧ t.ground.protection = 0 ∧ t.ground.partWritten = false := by
  have read := s.opened.leaveStarting_ground store none failure
  have done := exec_storeReadEnd_reading (found := found) hs hr
  rw [h] at done
  exact ⟨_, done, read.store, read.starting, read.verified, read.params, read.protection, read.partWritten⟩

/-- Settles O13: the outcomes of `judgeStore`, each with the ground that the read's end leaves (`StoreRead`). -/
theorem storeReadSetsTheWorkingSet : Obligations.StoreReadSetsTheWorkingSet := by
  unfold Obligations.StoreReadSetsTheWorkingSet
  refine ⟨fun s im hs hr hw hok hlevel => ?good, fun s hs hr => ⟨?timeout, fun hw => ?blank, fun hw found => ?partly,
    fun found hfound => ?corrupt⟩⟩
  case good =>
    have judged : judgeStore s.ground.partWritten (.image im) = (.verified, some im, none) := by
      simp [judgeStore, hw, hok, hlevel]
    have read := s.opened.leaveStarting_ground .verified (some im) none
    have done := exec_storeReadEnd_reading (found := .image im) hs hr
    rw [judged] at done
    refine ⟨_, done, read.starting, read.store, read.verified, read.params, read.protection, read.poll, read.runState,
      fun hc hask => ?_⟩
    have masks : (s.opened.leaveStarting .verified (some im) none).settled.plant.masks =
        (im.params.supMask, im.params.pnlMask) :=
      (settle_masks _ _ _).trans (s.opened.leaveStarting_masks .verified (some im) none)
    obtain ⟨hsup, hpnl⟩ := Plant.masks_eq_iff.1 masks
    refine ⟨hsup, hpnl, fun n hn => ?_⟩
    obtain ⟨-, -, hsplit⟩ := paramsOk_iff.1 hok
    rw [hn] at hsplit
    obtain ⟨split, hsplit⟩ := Option.isSome_iff_exists.1 hsplit.symm
    obtain ⟨u, e, hu, hcu⟩ := State.leaveStarting_configured (s := s.opened) hc hask (store := .verified) hn hsplit none
    rw [e, State.settled_of_calm (s := u.configure n split) hcu, ← hu]
    exact u.configure_tables n split
  case timeout =>
    have read := s.opened.leaveStarting_ground .absent none none
    exact ⟨_, exec_storeReadTimeout_reading hs hr, read.store, read.starting, read.verified, read.params, read.protection⟩
  case blank =>
    obtain ⟨t, h, hstore, hstart, hver, hpar, hprot, -⟩ := exec_storeReadEnd_unread (found := .noSignature) hs hr (by rw [hw]; rfl)
    exact ⟨t, h, hstore, hstart, hver, hpar, hprot⟩
  case partly =>
    have judged : ∃ failure, judgeStore s.ground.partWritten found = (.corrupt, none, failure) := by
      rw [hw]
      cases found <;> exact ⟨_, rfl⟩
    obtain ⟨failure, judged⟩ := judged
    exact exec_storeReadEnd_unread hs hr judged
  case corrupt =>
    have judged : ∃ failure, judgeStore s.ground.partWritten found = (.corrupt, none, failure) := by
      obtain rfl | rfl | ⟨im, rfl, h⟩ := hfound
      · exact ⟨_, rfl⟩
      · exact ⟨_, rfl⟩
      · have hbad : ¬(paramsOk im.params && decide (im.level ≤ 3)) = true := by
          rcases h with h | h
          · simp [h]
          · simp [Nat.not_le.2 h]
        cases hw : s.ground.partWritten
        · exact ⟨_, if_neg hbad⟩
        · exact ⟨_, rfl⟩
    obtain ⟨failure, judged⟩ := judged
    obtain ⟨t, h, hstore, hstart, hver, hpar, hprot, -⟩ := exec_storeReadEnd_unread hs hr judged
    exact ⟨t, h, hstore, hstart, hver, hpar, hprot⟩

end Sys2Proof.Machine
end

section
/-! The ports and the receivers (chapter 10): frames, notices, the receiver's judgement, STATUS, and the requests refused. -/

namespace Sys2Proof.Machine

open Sys2Proof.Safety

/-! ## Frames at a port (R171, R172) -/

/-- What a port is changed to hangs on the port as it stands alone. -/
theorem State.modPort_congr {s : State} {port : Port} {f f' : PortState → PortState}
    (h : f (s.plant.port port) = f' (s.plant.port port)) : s.modPort port f = s.modPort port f' := by
  cases port with
  | sup => exact congrArg (fun x => { s with plant := { s.plant with sup := x } }) h
  | pnl => exact congrArg (fun x => { s with plant := { s.plant with pnl := x } }) h

/-- A request whose length fits, with room in the hold. -/
theorem PortState.arrival_held {x : PortState} {r : Request} (hf : lengthFits r = true) (h : x.hold.length < 4) (tag : Byte) :
    x.arrival tag (.request r) = { x with hold := x.hold ++ [(tag, r)] } := by
  simp [PortState.arrival, hf, h]

theorem PortState.arrival_full {x : PortState} {r : Request} (hf : lengthFits r = true) (h : 4 ≤ x.hold.length) (tag : Byte) :
    x.arrival tag (.request r) = x.answerUrgent tag (.refused .full .holdFull) := by
  simp [PortState.arrival, hf, Nat.not_lt.2 h]

/-- Every other frame is answered FORMAT. -/
theorem PortState.arrival_format (x : PortState) {body : FrameBody}
    (h : body = .notRequest ∨ body = .badLength ∨ ∃ r, body = .request r ∧ lengthFits r = false) (tag : Byte) :
    x.arrival tag body = x.answerUrgent tag (.refused .format .frame) := by
  obtain rfl | rfl | ⟨r, rfl, hf⟩ := h
  · rfl
  · rfl
  · simp [PortState.arrival, hf]

theorem exec_requestFrameArrival_eq {port : Port} {tag : Byte} {body : FrameBody} {s : State} {f : PortState → PortState}
    (h : (s.plant.port port).arrival tag body = f (s.plant.port port)) :
    exec (.requestFrameArrival port tag body) s = .next ((s.opened.received (.port port)).modPort port f) := by
  have h' : ((s.opened.received (.port port)).plant.port port).arrival tag body =
      f ((s.opened.received (.port port)).plant.port port) := by
    cases port <;> exact h
  exact congrArg Host.Outcome.next (State.modPort_congr (f := fun x => x.arrival tag body) h')

theorem exec_wallReport_unfit {port : Port} {tag : Byte} {first count : Nat} {readings : List Int} {s : State}
    (h : lengthFits (.wallReport first count readings) = false) :
    exec (.wallReport port tag first count readings) s =
      exec (.requestFrameArrival port tag (.request (.wallReport first count readings))) s :=
  congrArg Host.Outcome.next (if_neg (by simp [h]))

theorem lengthFits_wallReport {first count : Nat} {readings : List Int} :
    lengthFits (.wallReport first count readings) = true ↔ 1 ≤ count ∧ count ≤ 16 ∧ readings.length = count := by
  simp only [lengthFits, Bool.and_eq_true, decide_eq_true_eq, and_assoc]
  exact and_congr_right fun _ => and_congr_right fun _ => eq_comm

theorem Plant.modPort_port_ne (p : Plant) {port other : Port} (h : other ≠ port) (f : PortState → PortState) :
    (p.modPort port f).port other = p.port other := by
  cases port <;> cases other <;> first | rfl | exact absurd rfl h

/-- Settles O16: a frame's arrival by its kind and the room in the hold, and the end of a frame sent. -/
theorem framesEnterAndLeaveThePorts : Obligations.FramesEnterAndLeaveThePorts := by
  unfold Obligations.FramesEnterAndLeaveThePorts
  refine ⟨fun s port tag r hf => ⟨fun h => exec_requestFrameArrival_eq (PortState.arrival_held hf h tag), fun h =>
    exec_requestFrameArrival_eq (PortState.arrival_full hf h tag)⟩, fun s port tag body h =>
    exec_requestFrameArrival_eq (PortState.arrival_format _ h tag), fun s port tag first count readings h => ?wall,
    fun x tag hsend hurgent => ?urgent, fun _ _ _ => lengthFits_wallReport, fun s port => ⟨_, rfl, rfl, ?sent⟩⟩
  case wall =>
    rw [exec_wallReport_unfit h]
    exact exec_requestFrameArrival_eq (PortState.arrival_format _ (.inr (.inr ⟨_, rfl, h⟩)) tag)
  case urgent =>
    simp [PortState.answerUrgent, PortState.pump, hsend, hurgent]
  case sent =>
    have opened : ∀ port : Port, s.opened.plant.port port = s.plant.port port := fun port => by cases port <;> rfl
    refine ⟨?_, fun other h => (Plant.modPort_port_ne _ h _).trans (opened other)⟩
    rw [← opened port]
    cases port <;> rfl

/-! ## Notices (R175) -/

/-- Settles O17: a notice offered to a port by its mask and room, and the next frame a free port begins. -/
theorem noticesQueueAndRepliesGoFirst : Obligations.NoticesQueueAndRepliesGoFirst := by
  unfold Obligations.NoticesQueueAndRepliesGoFirst
  refine ⟨fun s b port => ?offered, fun x hsend => ⟨fun tag r rest hu => ?urgent, fun tag r rest hu hr => ?reply,
    fun n rest hu hr hq => ?notice⟩⟩
  case offered =>
    dsimp only
    rw [State.raise_port]
    refine ⟨fun h => PortState.offer_masked h, fun h hroom => PortState.offer_queued h hroom, fun h hfull => ?_⟩
    simp [PortState.offer, Nat.not_lt.2 h, Nat.not_lt.2 hfull]
  case urgent => simp [PortState.pump, hsend, hu]
  case reply => simp [PortState.pump, hsend, hu, hr]
  case notice => simp [PortState.pump, hsend, hu, hr, hq]

/-! ## The receiver (R171) -/

theorem judgeFrame_whole {kind tag len : Byte} {payload rest : List Byte} {hi lo : Byte} (hl : payload.length = len.toNat) :
    judgeFrame (kind :: tag :: len :: (payload ++ hi :: lo :: rest)) =
      if 200 < len.toNat then .discard
      else if crc16 (kind :: tag :: len :: payload) = hi ++ lo then .frame { kind := kind, tag := tag, payload := payload } rest
      else .discard := by
  have hlong : ¬(payload ++ hi :: lo :: rest).length < len.toNat + 2 := by
    simp [hl]
  have htake : (payload ++ hi :: lo :: rest).take len.toNat = payload := by rw [← hl, List.take_left]
  have hdrop : (payload ++ hi :: lo :: rest).drop len.toNat = hi :: lo :: rest := by rw [← hl, List.drop_left]
  simp only [judgeFrame, htake, hdrop, if_neg hlong]
  rfl

/-- Settles O18: the frame's length and check, and the rows by which bytes enter when they hold no whole frame. -/
theorem receiverTakesAFrameByItsCheck : Obligations.ReceiverTakesAFrameByItsCheck := by
  unfold Obligations.ReceiverTakesAFrameByItsCheck
  refine ⟨fun kind tag len payload rest hi lo hl => ⟨fun h200 hcheck => ?_, fun h => ?_⟩, fun s link bytes =>
    ⟨rfl, fun h => ?_, fun h => ?_⟩⟩
  · rw [judgeFrame_whole hl, if_neg (Nat.not_lt.2 h200), if_pos hcheck.symm]
  · rw [judgeFrame_whole hl]
    rcases h with h | h
    · rw [if_pos h]
    · rw [if_neg (Ne.symm h), ite_self]
  · have frames : ∀ frames : List Frame, frames = [] → frames.foldl (State.frameArrived link) s.opened = s.opened := by
      rintro _ rfl
      rfl
    exact congrArg (fun t : State => Host.Outcome.next (t.setRx link _)) (frames _ h)
  · have frames : ∀ frames : List Frame, frames = [] → frames.foldl (State.frameArrived link) s.opened = s.opened := by
      rintro _ rfl
      rfl
    exact congrArg (fun t : State => Host.Outcome.next (t.received link)) (frames _ h)

/-! ## STATUS (R177) -/

/-- Settles O19: STATUS carried out and refused. -/
theorem statusClearsTheOverrunFlag : Obligations.StatusClearsTheOverrunFlag := by
  unfold Obligations.StatusClearsTheOverrunFlag
  intro s s₀ port tag hs hc
  refine ⟨fun sec ht => ?_, fun ht => ?_⟩
  · have hstarting : s₀.ground.starting = false := started_of_takes ht hs
    exact accepted_of_takes_calm ht (by simp [whileStarting, badField, hstarting]) (modPort_calm (calm_of_takes ht hc) ..)
  · have hstarting : s₀.ground.starting = false := started_of_takes ht hs
    exact refused_of_takes ht (by simp [whileStarting, badField, hstarting])

/-! ## Requests refused (R12, R173, R174) -/

/-- The command of a request whose length fits takes it from the hold, and first of all asks whether the 2480 is STARTING. -/
theorem exec_requestCommand (port : Port) (tag : Byte) {r : Request} (hf : lengthFits r = true) (s : State) :
    ∃ (checks : State → List Check) (act : State → State × OkData),
      exec (requestCommand port tag r) s = .next (s.serve port tag r (fun s => whileStarting s :: checks s) act) := by
  cases r with
  | wallReport first count readings => exact ⟨_, _, congrArg Host.Outcome.next (if_pos hf)⟩
  | _ => exact ⟨_, _, rfl⟩

/-- A request that needs the ovens asks next whether there are any, the panel's own after asking for its port. -/
theorem exec_requestCommand_needsOvens (port : Port) (tag : Byte) {r : Request} (hf : lengthFits r = true)
    (hn : needsOvens r = true) (s : State) :
    ∃ (checks : State → List Check) (act : State → State × OkData),
      exec (requestCommand port tag r) s = .next (s.serve port tag r (fun s =>
        whileStarting s :: (if forPanel r then panelOnly port :: unlessConfigured s :: checks s
          else unlessConfigured s :: checks s)) act) := by
  cases r with
  | wallReport first count readings => exact ⟨_, _, congrArg Host.Outcome.next (if_pos hf)⟩
  | status | logRead | pause | resume | maskSet | restart | paramGet | paramSet | storeSave | storeLoad | storeErase
  | protectSet => cases hn
  | _ => exact ⟨_, _, rfl⟩

section
variable {s s₀ : State} {tag : Byte}

theorem exec_requestCommand_starting {port : Port} {r : Request} (hs : s.ground.starting = true) (hf : lengthFits r = true)
    (ht : takes s port tag r s₀) :
    exec (requestCommand port tag r) s = .next (s₀.answer port tag (.refused .starting .starting)) := by
  obtain ⟨checks, act, e⟩ := exec_requestCommand port tag hf s
  rw [e]
  exact refused_of_takes ht (by rw [firstRefusal_cons, whileStarting, ground_of_takes ht, if_pos hs])

theorem exec_requestCommand_unconfigured {port : Port} {r : Request} (hs : started s) (hc : s.ground.configured = false)
    (hn : needsOvens r = true) (hf : lengthFits r = true) (ht : takes s port tag r s₀) :
    exec (requestCommand port tag r) s = .next (s₀.answer port tag
      (if port = .sup ∧ forPanel r = true then .refused .auth .panelOnly else .refused .unconfigured .unconfigured)) := by
  have hstarting : s₀.ground.starting = false := started_of_takes ht hs
  have hconfigured : s₀.ground.configured = false := by rw [ground_of_takes ht]; exact hc
  obtain ⟨checks, act, e⟩ := exec_requestCommand_needsOvens port tag hf hn s
  rw [e]
  refine refused_of_takes ht ?_
  cases hp : forPanel r <;> cases port <;>
    simp [whileStarting, panelOnly, unlessConfigured, hstarting, hconfigured]

/-- A request of SUP that would change an oven in the maintenance range: it is refused once its fields stand. -/
theorem firstRefusal_ovenChecks {n : Nat} {field : Bool} (hw : working s) (hn : s.ground.isOven n = true)
    (hr : s.ground.inRange n = true) (hf : field = false) (rest : List Check) :
    firstRefusal (ovenChecks s .sup n field ++ rest) = some (.refused .auth .maintenanceRange) := by
  obtain ⟨hstarting, hconfigured⟩ := hw
  simp [ovenChecks, whileStarting, unlessConfigured, ovenNumber, badField, rangeAuthority, hstarting, hconfigured, hn, hr, hf]

end

/-- A request taken leaves the machine working. -/
theorem working_of_takes {s s₀ : State} {port : Port} {tag : Byte} {r : Request} (h : takes s port tag r s₀) (hw : working s) :
    working s₀ := by
  rw [working, ground_of_takes h]
  exact hw

/-- Settles O21: the checks that every command of a request begins with, and the authority of SUP. -/
theorem requestsAreRefusedUnchanged : Obligations.RequestsAreRefusedUnchanged := by
  unfold Obligations.RequestsAreRefusedUnchanged
  refine ⟨fun _ _ _ _ _ hs hf ht => exec_requestCommand_starting hs hf ht, fun _ _ _ _ _ hs hc hn hf ht =>
    exec_requestCommand_unconfigured hs hc hn hf ht, fun s s₀ tag n hw hn hr => ?range⟩
  case range =>
    have refused : ∀ {r : Request} {field : Bool}, takes s .sup tag r s₀ → field = false → ∀ rest,
        firstRefusal (ovenChecks s₀ .sup n field ++ rest) = some (.refused .auth .maintenanceRange) := fun ht hf rest =>
      firstRefusal_ovenChecks (working_of_takes ht hw) (by rw [ground_of_takes ht]; exact hn)
        (by rw [ground_of_takes ht]; exact hr) hf rest
    refine ⟨fun f hf ht => refused_of_takes ht (refused ht hf _), fun v ht => refused_of_takes ht (refused ht rfl _),
      fun v ht => refused_of_takes ht (refused ht rfl _), fun trim h h' ht => refused_of_takes ht ?trim,
      fun force ht => refused_of_takes ht (refused ht rfl _), fun side level h ht => refused_of_takes ht (refused ht ?leak _),
      fun side ht => refused_of_takes ht (refused ht rfl _), fun form hf ht => refused_of_takes ht (refused ht hf _),
      fun num t hnum hticket hoven => ⟨fun ht => refused_of_takes ht ?cancel, fun outcome ht => refused_of_takes ht ?release⟩⟩
    case trim =>
      rw [← List.append_nil (ovenChecks ..)]
      exact refused ht (by simp [h, h']) []
    case leak => simp [h]
    case cancel =>
      obtain ⟨hstarting, hconfigured⟩ := working_of_takes ht hw
      rw [← hoven, ← ground_of_takes ht] at hr
      rw [← ticket?_of_takes ht] at hticket
      simp [whileStarting, unlessConfigured, ticketUnknown, ticketAuthority, hstarting, hconfigured, hnum, hticket, hr]
    case release =>
      obtain ⟨hstarting, hconfigured⟩ := working_of_takes ht hw
      rw [← hoven, ← ground_of_takes ht] at hr
      rw [← ticket?_of_takes ht] at hticket
      simp [whileStarting, unlessConfigured, badField, ticketUnknown, ticketAuthority, hstarting, hconfigured, hnum, hticket, hr]


end Sys2Proof.Machine
end

section
/-! The timers of ovens, cars and the pacing, and the requests that read or write one oven's record. -/

namespace Sys2Proof.Machine

open Sys2Proof.Safety

/-! ## Timers that report (R34, R42, R120, R155, R159) -/

theorem overdueReached_due {g : Ground} {n : Nat} {p : Plant} {t : Time} (h : (p.oven n).overdue = some t) (ht : t ≤ g.clock) :
    overdueReached g n p = raise g (.overdue n (p.oven n).phase (netCoking g (p.oven n)) (p.oven n).credit)
      (p.modOven n fun o => { o with overdue := none, overdueSent := true }) := by
  simp [overdueReached, h, Int.not_lt.2 ht]

theorem dwellReached_due {g : Ground} {n : Nat} {p : Plant} {t since : Time} (h : (p.oven n).dwell = some t)
    (hs : (p.oven n).emptySince = some since) (ht : t ≤ g.clock) :
    dwellReached g n p = raise g (.emptyLong n since (g.clock - since) (g.door n .ps).state (g.door n .cs).state
      (p.oven n).service (dwellReason g p n)) (p.modOven n fun o => { o with dwell := none, emptyLongSent := true }) := by
  simp [dwellReached, h, hs, Int.not_lt.2 ht]

theorem hotReached_due {g : Ground} {c : Car} {p : Plant} {t : Time} (h : (p.car c).hot = some t) (ht : t ≤ g.clock) :
    hotReached g c p = raise g (.hotDwell c (towerSpot g c) (p.car c).state (g.clock - (p.car c).loading.getD 0))
      (p.modCar c fun r => { r with hot := none }) := by
  simp [hotReached, h, Int.not_lt.2 ht]

theorem quenchReached_due {g : Ground} {c : Car} {p : Plant} {t : Time} (h : (p.car c).quench = some t) (ht : t ≤ g.clock) :
    quenchReached g c p = (p.modCar c fun r => { r with quench := none }).setSpray c false := by
  simp [quenchReached, h, Int.not_lt.2 ht]

theorem pacingReached_due {g : Ground} {p : Plant} {t : Time} (h : p.pacing = some t) (ht : t ≤ g.clock) :
    pacingReached g p = start .evaluate { p with pacing := none } := by
  simp [pacingReached, h, Int.not_lt.2 ht]

theorem opened_oven (s : State) (n : Nat) : s.opened.plant.oven n = s.plant.oven n := rfl

theorem opened_car (s : State) (c : Car) : s.opened.plant.car c = s.plant.car c := by cases c <;> rfl

/-- An event of the blocks, by what it makes of the plant, where that starts no follow-up event. -/
theorem event_work_eq {s : State} {f : Ground → Plant → Plant} {q : Plant} (h : f s.ground s.opened.plant = q)
    (hc : q.agenda = []) : (.next (s.event fun s => s.work f) : Answer) = .next { s.opened with plant := q } :=
  event_eq_of_calm (congrArg (fun q : Plant => { s.opened with plant := q }) h) hc

/-- Settles O45: each timer by its lemma for an expiry due. -/
theorem dueTimersReportOnce : Obligations.DueTimersReportOnce := by
  unfold Obligations.DueTimersReportOnce
  refine fun s hc => ⟨fun n t h ht => event_work_eq (overdueReached_due h ht) hc, fun n t since h hs ht =>
    event_work_eq (dwellReached_due h hs ht) hc, fun c t h ht => ?hot, fun c t h ht => ?quench, fun t h ht => ?pacing⟩
  case hot =>
    rw [← opened_car] at h ⊢
    exact event_work_eq (hotReached_due h ht) (by cases c <;> exact hc)
  case quench =>
    rw [← opened_car] at h
    exact event_work_eq (quenchReached_due h ht) (by cases c <;> exact hc)
  case pacing =>
    have hagenda : s.plant.agenda = [] := hc
    have due : s.opened.work pacingReached =
        { s.opened with plant := { s.opened.plant with pacing := none, agenda := [.evaluate] } } := by
      show ({ s.opened with plant := pacingReached s.ground s.opened.plant } : State) = _
      rw [pacingReached_due (p := s.opened.plant) h ht]
      simp [start, hagenda]
    exact congrArg (fun t : State => Host.Outcome.next t.settled) due

/-! ## The readiness expiry (R30, R32) -/

theorem accrueOven_of_some {now : Time} {o : Oven} {a : Accrual} (h : o.accrual = some a) :
    accrueOven now o =
      { o with credit := min maxU32 (o.credit + a.rate * (now - a.since).toNat), accrual := some { a with since := now } } := by
  simp [accrueOven, h]

/-- An oven accrued up to now gains nothing by accruing again. -/
theorem accrueOven_again (now : Time) (o : Oven) : accrueOven now (accrueOven now o) = accrueOven now o := by
  cases h : o.accrual with
  | none => simp [accrueOven, h]
  | some a =>
    rw [accrueOven_of_some h, accrueOven_of_some rfl]
    simp

theorem accrue_oven_same {p : Plant} {n : Nat} (hp : p.hasOven n) (g : Ground) :
    (accrue g n p).oven n = accrueOven g.clock (p.oven n) := (accrue_touches g n p).named hp

/-- The readiness test of R30, of an oven that has accrued. -/
theorem readinessTest_accrueOven (g : Ground) (o : Oven) :
    readinessTest g (accrueOven g.clock o) = true ↔
      o.target ≤ (accrueOven g.clock o).credit ∧ (g.params.tMin : Int) ≤ g.clock - o.chargeEnd.getD 0 := by
  have kept : (accrueOven g.clock o).target = o.target ∧ (accrueOven g.clock o).chargeEnd = o.chargeEnd := by
    unfold accrueOven
    split <;> exact ⟨rfl, rfl⟩
  simp [readinessTest, netCoking, kept]

theorem becomeReady_ovens (g : Ground) (n : Nat) (cause : Cause) (p : Plant) :
    (becomeReady g n cause p).ovens = (changePhase g n .ready cause p).ovens := rfl

theorem recomputeOven_oven_same {p : Plant} {n : Nat} (hp : p.hasOven n) (g : Ground) :
    ((recomputeOven g n p).oven n).phase = (p.oven n).phase ∧ ((recomputeOven g n p).oven n).credit = (p.oven n).credit := by
  have h := (recomputeOven_touches g n p).named hp
  rw [h]
  exact ⟨rfl, rfl⟩

/-- What the change from COKING to READY leaves of the oven (R5). -/
theorem becomeReady_of_coking {g : Ground} {n : Nat} {p : Plant} (hp : p.hasOven n) (h : (p.oven n).phase = .coking) :
    ((becomeReady g n .readinessMet p).oven n).phase = .ready ∧
      ((becomeReady g n .readinessMet p).oven n).credit = (accrueOven g.clock (p.oven n)).credit := by
  have moves : Cause.readinessMet.moves (p.oven n).phase .ready = true := by rw [h]; rfl
  have fields := (changePhase_touches (g := g) moves).named hp
  rw [h] at fields
  rw [Plant.oven_congr (becomeReady_ovens ..)]
  have credit : _ = (phaseFields g.clock .coking .ready (accrueOven g.clock (p.oven n))).noTimers.credit :=
    congrArg (fun o : Oven => o.credit) fields
  exact ⟨congrArg (fun o : Oven => o.phase) fields, credit.trans (by simp [phaseFields, Oven.noTimers])⟩

theorem readinessReached_due {g : Ground} {n : Nat} {p : Plant} {t : Time} (hph : (p.oven n).phase = .coking)
    (h : (p.oven n).readiness = some t) (ht : t ≤ g.clock) :
    readinessReached g n p = recomputeOven g n
      (if readinessTest g ((accrue g n p).oven n) then becomeReady g n .readinessMet (accrue g n p) else accrue g n p) := by
  unfold readinessReached
  simp only [hph, h, Int.not_lt.2 ht, if_false]
  split <;> rfl

/-- Settles O46: the readiness test after an accrual, and the oven that `recomputeOven` leaves. -/
theorem readinessExpiryTestsTheOven : Obligations.ReadinessExpiryTestsTheOven := by
  unfold Obligations.ReadinessExpiryTestsTheOven
  intro s n e a hp hph he hdue ha
  dsimp only
  have hp : s.opened.plant.hasOven n := hp
  have accrued : (accrue s.ground n s.opened.plant).oven n = accrueOven s.ground.clock (s.plant.oven n) :=
    accrue_oven_same hp s.ground
  have hp' : (accrue s.ground n s.opened.plant).hasOven n := (accrue_touches ..).hasOven.2 hp
  have credit : (accrueOven s.ground.clock (s.plant.oven n)).credit =
      min maxU32 ((s.plant.oven n).credit + a.rate * (s.ground.clock - a.since).toNat) := by rw [accrueOven_of_some ha]
  have coking : ((accrue s.ground n s.opened.plant).oven n).phase = .coking := by
    rw [accrued, accrueOven_phase]
    exact hph
  have keeps := readinessReached_keeps (k := .of (Kind.ofPhase n)) (Kinds.of_has (List.Subset.refl _)) s.ground s.opened.plant
  have due := readinessReached_due (p := s.opened.plant) hph he hdue
  have done : ((readinessReached s.ground n s.opened.plant).oven n).credit =
        min maxU32 ((s.plant.oven n).credit + a.rate * (s.ground.clock - a.since).toNat) ∧
      ((readinessReached s.ground n s.opened.plant).oven n).phase =
        if (s.plant.oven n).target ≤ min maxU32 ((s.plant.oven n).credit + a.rate * (s.ground.clock - a.since).toNat) ∧
          (s.ground.params.tMin : Int) ≤ s.ground.clock - (s.plant.oven n).chargeEnd.getD 0 then .ready else .coking := by
    rw [due]
    have test := readinessTest_accrueOven s.ground (s.plant.oven n)
    rw [credit] at test
    split
    · rename_i h
      rw [accrued, test] at h
      obtain ⟨hready, hcredit⟩ := becomeReady_of_coking (g := s.ground) hp' coking
      have hp'' : (becomeReady s.ground n .readinessMet (accrue s.ground n s.opened.plant)).hasOven n :=
        (Touches.of_ovens (n := n) (becomeReady_ovens ..)).hasOven.2 ((changePhase_touches (by rw [coking]; rfl)).hasOven.2 hp')
      obtain ⟨h1, h2⟩ := recomputeOven_oven_same hp'' s.ground
      rw [h1, h2, hready, hcredit, accrued, accrueOven_again, credit, if_pos h]
      exact ⟨rfl, rfl⟩
    · rename_i h
      rw [accrued, test] at h
      obtain ⟨h1, h2⟩ := recomputeOven_oven_same hp' s.ground
      rw [h1, h2, coking, accrued, credit, if_neg h]
      exact ⟨rfl, rfl⟩
  obtain ⟨hcredit, hphase⟩ := done
  exact ⟨s.opened.work fun g p => readinessReached g n p, rfl, rfl, hcredit, hphase,
    fun k hk => keeps.oven k (Kinds.of_eq_false (by simp [hk])), keeps.fill⟩

end Sys2Proof.Machine
end

section
/-! The requests of the oven table (chapter 1), the credit unit (chapter 2), the door unit (chapter 5) and the offtake unit
(chapter 7). -/

namespace Sys2Proof.Machine

open Sys2Proof.Safety

/-- An operation that may write the kinds of a list may write those of a longer one. -/
theorem Keeps.of_subset {l l' : List Kind} {p q : Plant} (h : Keeps (.of l) p q) (hl : l ⊆ l') : Keeps (.of l') p q :=
  h.mono fun _ hx => decide_eq_true (hl (of_decide_eq_true hx))

/-! ## The checks of a request that names an oven (R6, R12) -/

section
variable {s s₀ : State} {port : Port} {tag : Byte} {r : Request} {n : Nat}

theorem mayChange_of_takes (ht : takes s port tag r s₀) (h : mayChange s port n) : mayChange s₀ port n := by
  rw [mayChange, ground_of_takes ht]
  exact h

/-- A request to an oven that its port may change comes to the checks of its own. -/
theorem firstRefusal_mayChange (hw : working s) (hm : mayChange s port n) {field : Bool} (hf : field = false)
    (rest : List Check) : firstRefusal (ovenChecks s port n field ++ rest) = firstRefusal rest := by
  obtain ⟨hstarting, hconfigured⟩ := hw
  obtain ⟨hn, hrange⟩ := hm
  have authority : (decide (port = .sup) && s.ground.inRange n) = false := by
    rw [Bool.and_eq_false_imp]
    exact fun hp => Bool.eq_false_iff.2 fun h => hrange ⟨of_decide_eq_true hp, h⟩
  simp only [ovenChecks, List.cons_append, List.nil_append, firstRefusal_cons, whileStarting, unlessConfigured, ovenNumber,
    badField, rangeAuthority, hstarting, hconfigured, hn, hf, authority, Bool.not_true, Bool.false_eq_true, if_false]

theorem firstRefusal_mayChange_of_takes (ht : takes s port tag r s₀) (hw : working s) (hm : mayChange s port n)
    {field : Bool} (hf : field = false) (rest : List Check) :
    firstRefusal (ovenChecks s₀ port n field ++ rest) = firstRefusal rest :=
  firstRefusal_mayChange (working_of_takes ht hw) (mayChange_of_takes ht hm) hf rest

theorem ask_of_takes (ht : takes s port tag r s₀) : s₀.plant.ask = s.plant.ask :=
  plant_of_takes ht (fun p => p.ask) fun _ _ _ _ => rfl

theorem hasOven_of_takes (ht : takes s port tag r s₀) (h : holdsOven s n) : s₀.plant.hasOven n :=
  plant_of_takes ht (fun p => p.hasOven n) (fun _ _ _ _ => rfl) ▸ h

theorem catchup_of_takes (ht : takes s port tag r s₀) : s₀.plant.catchup = s.plant.catchup :=
  plant_of_takes ht (fun p => p.catchup) fun _ _ _ _ => rfl

theorem fill_of_takes (ht : takes s port tag r s₀) (k : Kinds) (d : Plant) : k.fill d s₀.plant = k.fill d s.plant :=
  plant_of_takes ht (fun p => k.fill d p) fun _ _ _ _ => rfl

variable {checks : State → List Check} {act : State → State × OkData} {t : State} {reply : OkData}

/-- A request carried out, by what its effects make of the state taken. -/
theorem accepted_of_takes_eq (h : takes s port tag r s₀) (hr : firstRefusal (checks s₀) = none) (ha : act s₀ = (t, reply)) :
    (.next (s.serve port tag r checks act) : Answer) = .next (t.settled.answer port tag (.ok reply)) := by
  rw [accepted_of_takes h hr, ha]

theorem accepted_of_takes_calm_eq (h : takes s port tag r s₀) (hr : firstRefusal (checks s₀) = none)
    (ha : act s₀ = (t, reply)) (hc : calm t) :
    (.next (s.serve port tag r checks act) : Answer) = .next (t.answer port tag (.ok reply)) := by
  rw [accepted_of_takes_eq h hr ha, State.settled_of_calm hc]

/-- The frame of a request's effects, from the plant before the request was taken. -/
theorem Keeps.fill_of_takes {k : Kinds} {q : Plant} (h : Keeps k s₀.plant q) (ht : takes s port tag r s₀) :
    q = k.fill q s.plant := h.fill.trans (Machine.fill_of_takes ht k q)

end

/-! ## Hold and trim (R9, R36) -/

/-- Settles O23: the two requests by their checks. -/
theorem ovenHoldAndTrimAreWritten : Obligations.OvenHoldAndTrimAreWritten := by
  unfold Obligations.OvenHoldAndTrimAreWritten
  refine ⟨fun s s₀ port tag n v hw hc hm ht => ⟨fun h => ?hold, fun h => ?held⟩, fun s s₀ port tag n trim hw hc hn ht =>
    ⟨fun hlo hhi hm => ?trim, fun h => ?bounds⟩⟩
  case hold =>
    refine accepted_of_takes_calm ht ?_ (show calm s₀ from calm_of_takes ht hc)
    rw [firstRefusal_mayChange_of_takes ht hw hm (field := (some v).isNone) rfl]
    simp [ovenTicketed, oven_of_takes ht, h]
  case held =>
    refine refused_of_takes ht ?_
    rw [firstRefusal_mayChange_of_takes ht hw hm (field := (some v).isNone) rfl]
    simp [ovenTicketed, oven_of_takes ht, h]
  case trim =>
    refine accepted_of_takes_calm ht ?_ (show calm s₀ from calm_of_takes ht hc)
    rw [← List.append_nil (ovenChecks ..)]
    exact firstRefusal_mayChange_of_takes ht hw hm (by simp [hlo, hhi]) []
  case bounds =>
    obtain ⟨hstarting, hconfigured⟩ := working_of_takes ht hw
    have hn : s₀.ground.isOven n = true := by rw [ground_of_takes ht]; exact hn
    exact refused_of_takes ht (by
      simp [ovenChecks, whileStarting, unlessConfigured, ovenNumber, badField, hstarting, hconfigured, hn, h])

/-! ## OVEN QUERY (R13, R14, R25) -/

/-- What an accrual event leaves of an oven that accrues. -/
theorem accrualEvent_oven_same {g : Ground} {n : Nat} {p : Plant} (hp : p.hasOven n) {a : Accrual}
    (ha : (p.oven n).accrual = some a) :
    ((accrualEvent g n p).oven n).credit = min maxU32 ((p.oven n).credit + a.rate * (g.clock - a.since).toNat) ∧
      ((accrualEvent g n p).oven n).accrual = some { since := g.clock, rate := rateOf g n } ∧
      ((accrualEvent g n p).oven n).phase = (p.oven n).phase := by
  rw [(accrualEvent_touches g n p).named hp]
  simp [accrueOven_of_some ha]

/-- An update that changes nothing of the entry leaves the table as it was. -/
theorem updateNumbered_of_fixed {α : Type} {l : List α} {n : Nat} {f : α → α} (h : ∀ x, numbered l n = some x → f x = x) :
    updateNumbered l n f = l := by
  cases n with
  | zero => rfl
  | succ i =>
    refine List.ext_getElem? fun j => (getElem?_updateAt l i j f).trans ?_
    split
    · rename_i hj
      subst hj
      cases hx : l[j]? with
      | none => rfl
      | some x => exact congrArg some (h x hx)
    · rfl

theorem Plant.modOven_of_fixed {p : Plant} {n : Nat} {f : Oven → Oven} (h : f (p.oven n) = p.oven n) : p.modOven n f = p := by
  have ovens : updateNumbered p.ovens n f = p.ovens := updateNumbered_of_fixed fun o ho => by
    have same : p.oven n = o := by simp [Plant.oven, ho]
    rw [← same, h]
  show { p with ovens := updateNumbered p.ovens n f } = p
  rw [ovens]

/-- An accrual event of an oven without accrual state changes nothing (R25). -/
theorem accrualEvent_of_none {g : Ground} {n : Nat} {p : Plant} (ha : (p.oven n).accrual = none) :
    accrualEvent g n p = p := by
  have still : accrue g n p = p := Plant.modOven_of_fixed (accrueOven_of_none ha)
  simp [accrualEvent, still, recomputeOven, ha]

/-- Settles O24: the query by the oven's number, and its accrual event. -/
theorem ovenQueryAccruesAndAnswers : Obligations.OvenQueryAccruesAndAnswers := by
  unfold Obligations.OvenQueryAccruesAndAnswers
  intro s s₀ port tag n hw ht
  have ground := ground_of_takes ht
  obtain ⟨hstarting, hconfigured⟩ := working_of_takes ht hw
  have pass : n ≠ 0 → n ≤ 96 → firstRefusal [whileStarting s₀, unlessConfigured s₀, ⟨n = 0 || 96 < n, .range, .number⟩] =
      none := fun h0 h96 => by simp [whileStarting, unlessConfigured, hstarting, hconfigured, h0, h96]
  have pos : s.ground.isOven n = true → n ≠ 0 := fun h h0 => by simp [Ground.isOven, h0] at h
  have absent : s.ground.isOven n = false → queryOven n s₀ = (s₀, .ovenAbsent) := fun h => by simp [queryOven, ground, h]
  have named : s.ground.isOven n = true → queryOven n s₀ = (s₀.work fun g p => accrualEvent g n p,
      .oven (ovenReply s₀.ground (accrualEvent s₀.ground n s₀.plant) n)) := fun h => by simp [queryOven, ground, h]
  refine ⟨fun h => refused_of_takes ht (by simp [whileStarting, unlessConfigured, hstarting, hconfigured, h]),
    fun h0 h96 hn hc => ?absent, fun h96 hn hc ha => ?still, fun h96 hn hp a ha => ?accrues⟩
  case absent => exact accepted_of_takes_calm_eq ht (pass h0 h96) (absent hn) (calm_of_takes ht hc)
  case still =>
    have still : accrualEvent s₀.ground n s₀.plant = s₀.plant := accrualEvent_of_none (by rw [oven_of_takes ht]; exact ha)
    have same : queryOven n s₀ = (s₀, .oven (ovenReply s₀.ground s₀.plant n)) := by
      rw [named hn, still]
      exact congrArg (fun q : Plant => (({ s₀ with plant := q } : State), OkData.oven (ovenReply s₀.ground s₀.plant n))) still
    exact accepted_of_takes_calm_eq ht (pass (pos hn) h96) same (calm_of_takes ht hc)
  case accrues =>
    have hp := hasOven_of_takes ht hp
    rw [← oven_of_takes ht n] at ha ⊢
    rw [← ground]
    obtain ⟨hcredit, haccrual, hphase⟩ := accrualEvent_oven_same (g := s₀.ground) hp ha
    have keeps := accrualEvent_keeps (k := .of (Kind.ofOven n)) (Kinds.of_has (List.Subset.refl _)) s₀.ground s₀.plant
    exact ⟨s₀.work fun g p => accrualEvent g n p, accepted_of_takes_eq ht (pass (pos hn) h96) (named hn), rfl, hcredit, haccrual, hphase, fun k hk =>
      (keeps.oven k (Kinds.of_eq_false (by simp [hk]))).trans (oven_of_takes ht k), keeps.fill_of_takes ht⟩

/-! ## VALVE (R131, R132) -/

theorem modValve_oven_same {p : Plant} {n : Nat} (hp : p.hasOven n) (f : Valve → Valve) :
    ((p.modValve n f).oven n).valve = f (p.oven n).valve :=
  congrArg (fun o : Oven => o.valve) (Plant.modOven_oven_same hp _)

theorem commandRegulate_of_ne {g : Ground} {n : Nat} {p : Plant} (h : (p.oven n).valve.mode ≠ .regulate) :
    commandRegulate g n p = p.modValve n fun v =>
      { v with mode := .regulate, position := some (regulatePosition g v.position), confirmed := false } := by
  unfold commandRegulate
  split
  · contradiction
  · rfl

theorem commandRegulate_of_eq {g : Ground} {n : Nat} {p : Plant} (h : (p.oven n).valve.mode = .regulate) :
    commandRegulate g n p = p := by
  simp [commandRegulate, h]

/-- Settles O30: each form of VALVE by the mode it commands. -/
theorem valveCommandsTheMode : Obligations.ValveCommandsTheMode := by
  unfold Obligations.ValveCommandsTheMode
  intro s s₀ port tag n hw hc hm hp
  have calm₀ : ∀ {form}, takes s port tag (.valve n form) s₀ → calm s₀ := fun ht => calm_of_takes ht hc
  have has₀ : ∀ {form}, takes s port tag (.valve n form) s₀ → s₀.plant.hasOven n := fun ht => hasOven_of_takes ht hp
  have pass : ∀ {form}, takes s port tag (.valve n (some form)) s₀ → badValve (some form) = false →
      ((s.plant.oven n).phase = .coking ∨ (s.plant.oven n).phase = .ready) →
      firstRefusal (ovenChecks s₀ port n (badValve (some form)) ++
        [⟨(s₀.plant.oven n).phase ≠ .coking && (s₀.plant.oven n).phase ≠ .ready, .state, .phase⟩]) = none :=
    fun {form} ht hf hph => by
      rw [firstRefusal_mayChange_of_takes ht hw hm hf, oven_of_takes ht]
      rcases hph with h | h <;> simp [h]
  refine ⟨fun hph => ⟨fun x hx ht => ?manual, fun ht => ?hold, fun ht hmode => ?enter, fun ht hmode => ?stay⟩,
    fun hcoking hready form hf ht => ?phase⟩
  case manual =>
    refine accepted_of_takes_calm_eq ht (pass ht (by simpa [badValve] using hx) hph) ?_ (show calm s₀ from calm₀ ht)
    simp [setValve, State.work, modValve_oven_same (has₀ ht)]
  case hold =>
    refine accepted_of_takes_calm_eq ht (pass ht rfl hph) ?_ (show calm s₀ from calm₀ ht)
    simp [setValve, State.work, modValve_oven_same (has₀ ht), oven_of_takes ht]
  case enter =>
    have ne : (s₀.plant.oven n).valve.mode ≠ .regulate := by rw [oven_of_takes ht]; exact hmode
    refine accepted_of_takes_calm_eq ht (pass ht rfl hph) ?_ (show calm s₀ from calm₀ ht)
    simp [setValve, State.work, commandRegulate_of_ne ne, modValve_oven_same (has₀ ht), oven_of_takes ht, ground_of_takes ht]
  case stay =>
    have eq : (s₀.plant.oven n).valve.mode = .regulate := by rw [oven_of_takes ht]; exact hmode
    refine accepted_of_takes_calm_eq ht (pass ht rfl hph) ?_ (show calm s₀ from calm₀ ht)
    simp [setValve, State.work, commandRegulate_of_eq eq, oven_of_takes ht, hmode]
  case phase =>
    refine refused_of_takes ht ?_
    rw [firstRefusal_mayChange_of_takes ht hw hm hf, oven_of_takes ht]
    simp [hcoking, hready]

/-! ## LEAK REPORT and DOOR RESET (R96, R109) -/

/-- What a change of a door's record writes where no ask of its oven pends (R92). -/
theorem putDoor_keeps {s : State} {n : Nat} (h : ∀ a, s.plant.ask = some a → a.oven ≠ n) (side : Side) (d : Door)
    (always : Bool) : Keeps (.of [.list .ps, .list .cs]) s.plant (s.putDoor n side d always).plant :=
  doorChanged_keeps (side := side) (by cases side <;> rfl) (fun a ha hn => absurd hn (h a ha)) _ always _

theorem putDoor_door_same {s : State} {n : Nat} (h : holdsDoors s n) (side : Side) (d : Door) (always : Bool) :
    (s.putDoor n side d always).ground.door n side = d := by
  show (s.ground.setDoor n side d).door n side = d
  rw [Ground.setDoor_door side d h, if_pos ⟨rfl, rfl⟩]

/-- Settles O28: the two requests by the door's state. -/
theorem leakReportAndDoorResetWriteTheDoor : Obligations.LeakReportAndDoorResetWriteTheDoor := by
  unfold Obligations.LeakReportAndDoorResetWriteTheDoor
  intro s s₀ port tag n side hw hm hd
  have doors₀ : ∀ {r}, takes s port tag r s₀ → holdsDoors s₀ n := fun ht => by
    rw [holdsDoors, ground_of_takes ht]
    exact hd
  have ask₀ : ∀ {r}, takes s port tag r s₀ → (∀ a, s.plant.ask = some a → a.oven ≠ n) →
      ∀ a, s₀.plant.ask = some a → a.oven ≠ n := fun ht h a ha =>
    h a ((ask_of_takes ht).symm.trans ha)
  refine ⟨fun level hlevel ht => ?leak, fun ht => ?reset⟩
  case leak =>
    have ground := ground_of_takes ht
    have checks : ∀ rest, firstRefusal (ovenChecks s₀ port n ((some side).isNone || 3 < level) ++ rest) = firstRefusal rest :=
      firstRefusal_mayChange_of_takes ht hw hm (by simp [hlevel])
    refine ⟨fun hstate hsame hc => ?same, fun hstate hleak => ⟨s₀.putDoor n side { s₀.ground.door n side with leak := level },
      ?writes, ?ground, fun ha => (putDoor_keeps (ask₀ ht ha) ..).fill_of_takes ht⟩, fun hstate => ?refused⟩
    case same =>
      refine accepted_of_takes_calm_eq ht ((checks _).trans ?_) ?_ (show calm s₀ from calm_of_takes ht hc)
      · simp [ground, hstate]
      · simp [ground, hsame]
    case writes =>
      refine accepted_of_takes_eq ht ((checks _).trans ?_) ?_
      · simp [ground, hstate]
      · simp only [ground, Option.getD_some, if_neg hleak]
        rw [putDoor_door_same (doors₀ ht)]
    case ground => rw [← ground]; rfl
    case refused =>
      refine refused_of_takes ht ((checks _).trans ?_)
      simp [ground, hstate]
  case reset =>
    have ground := ground_of_takes ht
    have checks : ∀ rest, firstRefusal (ovenChecks s₀ port n (some side).isNone ++ rest) = firstRefusal rest :=
      firstRefusal_mayChange_of_takes ht hw hm rfl
    refine ⟨fun hstate => ⟨s₀.putDoor n side { s₀.ground.door n side with state := .hung, leak := 0, count := 0 }, ?writes,
      ?ground, fun ha => (putDoor_keeps (ask₀ ht ha) ..).fill_of_takes ht⟩, fun hstate => ?refused⟩
    case writes =>
      refine accepted_of_takes_eq ht ((checks _).trans ?_) ?_
      · simp [ground, hstate]
      · simp only [Option.getD_some, putDoor_door_same (doors₀ ht), ground]
    case ground => rw [← ground]; rfl
    case refused =>
      refine refused_of_takes ht ((checks _).trans ?_)
      simp [ground, hstate]

/-! ## OVEN SERVICE and MAINT RANGE (R7, R10, R11) -/

theorem dropCatchup_catchup (n : Nat) (p : Plant) : (dropCatchup n p).catchup = p.catchup.filter fun e => e.oven ≠ n := by
  unfold dropCatchup
  split
  · rfl
  · rename_i h
    refine (List.filter_eq_self.2 fun e he => ?_).symm
    simp only [List.any_eq_true, decide_eq_true_eq, not_exists, not_and] at h
    simpa using h e he

theorem removeCatchup_catchup (n : Nat) (p : Plant) : (removeCatchup n p).catchup = p.catchup.filter fun e => e.oven ≠ n := by
  have dropped := dropCatchup_catchup n p
  unfold removeCatchup
  split
  · exact dropped
  · rename_i h
    rwa [dropCatchup, if_neg h] at dropped

theorem recheckAskOf_of_none {g : Ground} {n : Nat} {p : Plant} (h : p.ask = none) : recheckAskOf g n p = p := by
  simp [recheckAskOf, h]

/-- The ovens of a list that a condition names leave the catch-up list. -/
theorem foldl_removeCatchup_catchup (c : Nat → Bool) (l : List Nat) (p : Plant) :
    (l.foldl (fun p n => if c n then removeCatchup n p else p) p).catchup =
      p.catchup.filter fun e => !(decide (e.oven ∈ l) && c e.oven) := by
  induction l generalizing p with
  | nil => simp
  | cons n l ih =>
    have step : (if c n then removeCatchup n p else p).catchup = p.catchup.filter fun e => !(decide (e.oven = n) && c e.oven) := by
      cases hc : c n with
      | true =>
        rw [if_pos rfl, removeCatchup_catchup]
        refine List.filter_congr fun e _ => ?_
        by_cases he : e.oven = n <;> simp [he, hc]
      | false =>
        refine (List.filter_eq_self.2 fun e _ => ?_).symm
        by_cases he : e.oven = n <;> simp [he, hc]
    rw [List.foldl_cons, ih, step, List.filter_filter]
    refine List.filter_congr fun e _ => ?_
    cases c e.oven <;> simp [Bool.and_comm]

theorem mem_ovenNumbers {n k : Nat} : k ∈ ovenNumbers n ↔ 1 ≤ k ∧ k ≤ n := by
  simp only [ovenNumbers, List.mem_map, List.mem_range]
  constructor
  · rintro ⟨i, hi, rfl⟩
    omega
  · rintro ⟨h1, hk⟩
    exact ⟨k - 1, by omega, by omega⟩

theorem Ground.inRange_of_badRange {g : Ground} {range : Option (Nat × Nat)} (h : badRange g range = false) {n : Nat}
    (hn : ({ g with maint := range } : Ground).inRange n = true) :
    n ∈ ovenNumbers ({ g with maint := range } : Ground).count := by
  show n ∈ ovenNumbers g.count
  rw [mem_ovenNumbers]
  cases range with
  | none => cases hn
  | some r =>
    obtain ⟨lo, hi⟩ := r
    simp [badRange] at h
    simp [Ground.inRange] at hn
    omega

/-- The ovens that enter a range leave the catch-up list, in turn (R11). -/
def entriesRanged (old g : Ground) (p : Plant) : Plant :=
  eachOven g (fun n p => if g.inRange n && !old.inRange n then removeCatchup n p else p) p

theorem entriesRanged_keeps (old g : Ground) (p : Plant) :
    Keeps (.of [.cursor, .catchup, .latch]) p (entriesRanged old g p) :=
  eachOven_keeps (fun n p => .ite (fun _ => removeCatchup_keeps (Kinds.of_has (by simp)) n p) fun _ => .refl _ p) p

theorem rangeChanged_of_no_ask (old g : Ground) {p : Plant} (ha : p.ask = none) :
    rangeChanged old g p = entriesRanged old g p :=
  recheckAsk_of_none (((entriesRanged_keeps old g p).ask rfl).trans ha)

theorem entriesRanged_catchup (old g : Ground) (p : Plant) :
    (entriesRanged old g p).catchup =
      p.catchup.filter fun e => !(decide (e.oven ∈ ovenNumbers g.count) && (g.inRange e.oven && !old.inRange e.oven)) :=
  foldl_removeCatchup_catchup (fun n => g.inRange n && !old.inRange n) _ p

/-- What OVEN SERVICE leaves, with no ask pending (R7). -/
theorem serviceChanged_of_no_ask {g : Ground} {n : Nat} {v : Service} {p : Plant} (ha : p.ask = none) :
    serviceChanged n v g p = if v = .outOfService then removeCatchup n p else p := by
  refine recheckAskOf_of_none ?_
  split
  · exact ((removeCatchup_keeps (k := .of [.catchup, .latch]) (Kinds.of_has (List.Subset.refl _)) n p).ask (by decide)).trans ha
  · exact ha

/-- Settles O26: OVEN SERVICE and MAINT RANGE by their checks, and what leaves the catch-up list. -/
theorem serviceAndRangeAreSet : Obligations.ServiceAndRangeAreSet := by
  unfold Obligations.ServiceAndRangeAreSet
  refine ⟨fun s s₀ port tag n v hw hm hph ht => ?service, fun s s₀ port tag n v hw hm hph ht => ?ticketed,
    fun s s₀ port tag range hs ht => ?range⟩
  case ticketed =>
    refine refused_of_takes ht ?_
    rw [firstRefusal_mayChange_of_takes ht hw hm (field := (some v).isNone) rfl]
    simp [ovenTicketed, oven_of_takes ht, hph]
  case service =>
    have pass : firstRefusal (ovenChecks s₀ port n (some v).isNone ++ [ovenTicketed s₀ n]) = none := by
      rw [firstRefusal_mayChange_of_takes ht hw hm (field := (some v).isNone) rfl]
      simp [ovenTicketed, oven_of_takes ht, hph]
    refine ⟨fun hsame hc => ?same, fun hnew hp ha => ?new⟩
    case same =>
      exact accepted_of_takes_calm_eq ht pass (if_pos (by rw [oven_of_takes ht]; exact hsame)) (calm_of_takes ht hc)
    case new =>
      have ha : s₀.plant.ask = none := (ask_of_takes ht).trans ha
      have hp := hasOven_of_takes ht hp
      let q := s₀.plant.modOven n fun o => { o with service := v }
      have made : serviceChanged n v s₀.ground q = if v = .outOfService then removeCatchup n q else q :=
        serviceChanged_of_no_ask ha
      have first := modOven_keeps (k := .of [.ovens, .oven n, .cursor, .catchup, .latch]) (n := n) (Kinds.of_has (by simp))
        (f := fun o => { o with service := v }) (fun _ => rfl) s₀.plant
      have second : Keeps (.of [.cursor, .catchup, .latch]) q (serviceChanged n v s₀.ground q) := by
        rw [made]
        exact .ite (fun _ => removeCatchup_keeps (Kinds.of_has (by simp)) n q) fun _ => .refl _ q
      have keeps := first.trans (second.of_subset (by simp))
      refine ⟨s₀.work fun g p => serviceChanged n v g (p.modOven n fun o => { o with service := v }),
        accepted_of_takes_eq ht pass (if_neg (by rw [oven_of_takes ht]; exact hnew)), (show s₀.ground = _ from ground_of_takes ht), ?oven,
        fun k hk => (keeps.oven k (Kinds.of_eq_false (by simp [hk]))).trans (oven_of_takes ht k), ?catchup,
        keeps.fill_of_takes ht⟩
      case oven =>
        refine (second.oven n (Kinds.of_eq_false (by simp))).trans ?_
        rw [Plant.modOven_oven_same hp, oven_of_takes ht]
      case catchup =>
        refine (congrArg (fun p : Plant => p.catchup) made).trans ?_
        rw [apply_ite (fun p : Plant => p.catchup), removeCatchup_catchup, ← catchup_of_takes ht]
        rfl
  case range =>
    have ground := ground_of_takes ht
    have hstarting : s.ground.starting = false := hs
    have ticketed : rangeTicketed s₀.plant range = rangeTicketed s.plant range :=
      plant_of_takes ht (fun p => rangeTicketed p range) fun _ _ _ _ => rfl
    refine ⟨fun hport => refused_of_takes ht ?sup, fun hport hcfg hbad => refused_of_takes ht ?bad,
      fun hport hcfg hbad hheld => refused_of_takes ht ?held, fun hport hcfg hbad hfree => ?accepted⟩
    case sup => simp [whileStarting, panelOnly, hstarting, hport, ground]
    case bad => simp [whileStarting, panelOnly, unlessConfigured, badField, hstarting, hport, ground, hcfg, hbad]
    case held =>
      simp [whileStarting, panelOnly, unlessConfigured, badField, hstarting, hport, ground, hcfg, hbad, ticketed, hheld]
    case accepted =>
      have pass : firstRefusal [whileStarting s₀, panelOnly port, unlessConfigured s₀, badField (badRange s₀.ground range),
          ⟨rangeTicketed s₀.plant range, .state, .ticketHeld⟩] = none := by
        simp [whileStarting, panelOnly, unlessConfigured, badField, hstarting, hport, ground, hcfg, hbad, ticketed, hfree]
      let d : State := { s₀ with ground := { s₀.ground with maint := range } }.work (rangeChanged s₀.ground)
      have answer : exec (.maintRange port tag range) s = .next (d.settled.answer port tag (.ok .plain)) :=
        accepted_of_takes_eq ht pass rfl
      have dground : d.ground = { s.ground with maint := range } := by rw [← ground]; rfl
      have made : s.plant.ask = none → d.plant = entriesRanged s₀.ground { s₀.ground with maint := range } s₀.plant := fun ha =>
        rangeChanged_of_no_ask _ _ ((ask_of_takes ht).trans ha)
      refine ⟨⟨_, answer, dground⟩, fun ha => ⟨d, answer, dground, ?entries, ?frame⟩⟩
      case entries =>
        rw [made ha, entriesRanged_catchup, catchup_of_takes ht]
        refine List.filter_congr fun e _ => ?_
        rw [dground, ← ground]
        have hbad : badRange s₀.ground range = false := by rw [ground]; exact hbad
        cases hin : ({ s₀.ground with maint := range } : Ground).inRange e.oven with
        | false => simp
        | true => rw [decide_eq_true (Ground.inRange_of_badRange hbad hin), Bool.true_and]
      case frame =>
        rw [made ha]
        exact (entriesRanged_keeps ..).fill_of_takes ht

end Sys2Proof.Machine
end

section
/-! SUPPORT. What a phase change leaves of the oven it names, field by field (R5, R27, R120). -/

namespace Sys2Proof.Machine

open Sys2Proof.Safety

variable {g : Ground} {n : Nat} {p : Plant} {new old : Phase} {cause : Cause}

theorem setDwell_oven_same (hp : p.hasOven n) (hph : (p.oven n).phase = .empty) (hsent : (p.oven n).emptyLongSent = false)
    {t : Time} (ht : (p.oven n).emptySince = some t) :
    (setDwell g n p).oven n = { p.oven n with dwell := some (t + (g.params.emptyLimit : Int)) } := by
  have set : (p.modOven n fun o => { o with dwell := some (t + (g.params.emptyLimit : Int)) }).oven n =
      { p.oven n with dwell := some (t + (g.params.emptyLimit : Int)) } := Plant.modOven_oven_same hp _
  unfold setDwell
  simp only [hph, hsent, ht]
  split
  · exact set
  · exact set

theorem ite_ovens {c : Prop} [Decidable c] {p q : Plant} (h : q.ovens = p.ovens) : (if c then q else p).ovens = p.ovens := by
  split
  · exact h
  · rfl

/-- The last part of a phase change for the other blocks: the lists of the door unit, and the evaluation. -/
theorem informs_tail_ovens (old new : Phase) (q : Plant) :
    (let p := if old = .closing then rejudgeBoth g n q else q
     let p := if new = .closing then dropUnqualified g n p else p
     if new = .ready ∨ (new = .coking ∧ (old = .charging ∨ old = .unknown)) then start .evaluate p else p).ovens = q.ovens := by
  refine (ite_ovens ?_).trans ((ite_ovens ?_).trans (ite_ovens ?_))
  · exact start_ovens ..
  · exact ovens_of_noSides (dropUnqualified_noSides ..)
  · exact ovens_of_noSides (rejudgeBoth_noSides ..)

theorem phaseInforms_ovens (he : new ≠ .empty) (ht : new ≠ .ticketed) (old : Phase) (p : Plant) :
    (phaseInforms g n old new p).ovens = p.ovens := by
  unfold phaseInforms
  rw [informs_tail_ovens, if_neg ht, if_neg he]
  exact ite_ovens (ovens_of_noSides (regroup_noSides ..))

theorem phaseInforms_empty_ovens (old : Phase) (p : Plant) :
    (phaseInforms g n old .empty p).ovens = (setDwell g n (regroup n p)).ovens := by
  unfold phaseInforms
  rw [informs_tail_ovens, if_neg (by decide), if_pos rfl, if_pos (.inr rfl)]

theorem changePhase_eq (h : cause.moves (p.oven n).phase new = true) :
    changePhase g n new cause p = phaseInforms g n (p.oven n).phase new
      (raise g (.phase n (p.oven n).phase new cause)
        ((accrue g n p).modOven n (phaseFields g.clock (p.oven n).phase new))) := by
  rw [changePhase, if_pos h]

theorem phaseFields_oven_same (hp : p.hasOven n) (b : NoticeBody) (old new : Phase) :
    (raise g b ((accrue g n p).modOven n (phaseFields g.clock old new))).oven n =
      phaseFields g.clock old new (accrueOven g.clock (p.oven n)) := by
  show ((accrue g n p).modOven n _).oven n = _
  rw [Plant.modOven_oven_same ((accrue_touches g n p).hasOven.2 hp), accrue_oven_same hp]

/-- The oven after a change to a phase other than EMPTY and TICKETED. -/
theorem changePhase_oven (hp : p.hasOven n) (h : cause.moves (p.oven n).phase new = true) (he : new ≠ .empty)
    (ht : new ≠ .ticketed) :
    (changePhase g n new cause p).oven n =
      phaseFields g.clock (p.oven n).phase new (accrueOven g.clock (p.oven n)) := by
  rw [changePhase_eq h, Plant.oven_congr (phaseInforms_ovens he ht ..), phaseFields_oven_same hp]

/-- The oven after a change to EMPTY: its dwell begins. -/
theorem changePhase_oven_empty (hp : p.hasOven n) (h : cause.moves (p.oven n).phase .empty = true) :
    (changePhase g n .empty cause p).oven n =
      { phaseFields g.clock (p.oven n).phase .empty (accrueOven g.clock (p.oven n)) with
        dwell := some (g.clock + (g.params.emptyLimit : Int)) } := by
  have fields := phaseFields_oven_same (g := g) hp (.phase n (p.oven n).phase .empty cause) (p.oven n).phase .empty
  have same := ovens_of_noSides (regroup_noSides n (raise g (.phase n (p.oven n).phase .empty cause)
    ((accrue g n p).modOven n (phaseFields g.clock (p.oven n).phase .empty))))
  rw [← Plant.oven_congr same] at fields
  rw [changePhase_eq h, Plant.oven_congr (phaseInforms_empty_ovens ..), setDwell_oven_same (t := g.clock), fields]
  · exact (Touches.of_ovens (n := n) same).hasOven.2 (Plant.modOven_hasOven.2 ((accrue_touches g n p).hasOven.2 hp))
  · rw [fields]; rfl
  · rw [fields]; simp [phaseFields]
  · rw [fields]; simp [phaseFields]

/-- An accrual writes credit and accrual state alone. -/
theorem accrueOven_eq (now : Time) (o : Oven) :
    accrueOven now o = { o with credit := (accrueOven now o).credit, accrual := (accrueOven now o).accrual } := by
  unfold accrueOven
  split <;> rfl

@[simp] theorem accrueOven_target (now : Time) (o : Oven) : (accrueOven now o).target = o.target := by rw [accrueOven_eq]
@[simp] theorem accrueOven_valve (now : Time) (o : Oven) : (accrueOven now o).valve = o.valve := by rw [accrueOven_eq]
@[simp] theorem accrueOven_mass (now : Time) (o : Oven) : (accrueOven now o).mass = o.mass := by rw [accrueOven_eq]
@[simp] theorem accrueOven_trim (now : Time) (o : Oven) : (accrueOven now o).trim = o.trim := by rw [accrueOven_eq]
@[simp] theorem accrueOven_service (now : Time) (o : Oven) : (accrueOven now o).service = o.service := by rw [accrueOven_eq]
@[simp] theorem accrueOven_chargeEnd (now : Time) (o : Oven) : (accrueOven now o).chargeEnd = o.chargeEnd := by
  rw [accrueOven_eq]

end Sys2Proof.Machine
end

section
/-! OVEN RESTORE and WALL REPORT (R15, R16, R20 to R22). -/

namespace Sys2Proof.Machine

open Sys2Proof.Safety

/-! ## OVEN RESTORE (R16) -/

/-- The record fields of a restore to EMPTY. -/
theorem restoreEmpty_oven {g : Ground} {n : Nat} {f : RestoreFields} {p : Plant} (hp : p.hasOven n)
    (hu : (p.oven n).phase = .unknown) :
    let o := (restoreEmpty g n f p).oven n
    o.trim = f.trim ∧ o.service = f.service.getD .inService ∧ o.mass = clampMass g.params f.mass ∧ o.phase = .empty ∧
      o.emptySince = some (g.clock - (f.age : Int)) ∧ o.chargeEnd = none ∧ o.credit = 0 ∧ o.target = (p.oven n).target ∧
      o.dwell = some (g.clock - (f.age : Int) + (g.params.emptyLimit : Int)) ∧
      ((p.oven n).valve.mode = .hold → o.valve.mode = .isolate ∧ o.valve.position = some 0) := by
  have moves : Cause.ovenRestore.moves (p.oven n).phase .empty = true := by rw [hu]; rfl
  have changed := changePhase_oven_empty (g := g) hp moves
  have hp1 : (changePhase g n .empty .ovenRestore p).hasOven n := (changePhase_touches moves).hasOven.2 hp
  let write (o : Oven) : Oven :=
    { o with
      emptySince := some (g.clock - (f.age : Int))
      mass := clampMass g.params f.mass
      trim := f.trim
      service := f.service.getD .inService }
  have hp2 : ((changePhase g n .empty .ovenRestore p).modOven n write).hasOven n := Plant.modOven_hasOven.2 hp1
  have written : ((changePhase g n .empty .ovenRestore p).modOven n write).oven n = _ := Plant.modOven_oven_same hp1 write
  have isolated := (commandIsolate_touches n ((changePhase g n .empty .ovenRestore p).modOven n write)).named hp2
  have hp3 := (commandIsolate_touches n ((changePhase g n .empty .ovenRestore p).modOven n write)).hasOven.2 hp2
  rw [written, changed] at isolated
  have dwells := setDwell_oven_same (g := g) hp3 (t := g.clock - (f.age : Int)) (by rw [isolated]; rfl)
    (by rw [isolated]; simp [phaseFields, write]) (by rw [isolated])
  have restored : (restoreEmpty g n f p).oven n = _ := dwells
  dsimp only
  rw [restored, isolated]
  refine ⟨rfl, rfl, rfl, rfl, rfl, ?_, ?_, ?_, rfl, fun h => ?_⟩
  · simp [phaseFields, write]
  · simp [phaseFields, write]
  · simp [phaseFields, write]
  · simp [phaseFields, write, h]

/-- The record fields that a restore to COKING writes itself. -/
def cokingFields (g : Ground) (f : RestoreFields) (o : Oven) : Oven :=
  { o with
    chargeEnd := some (g.clock - (f.age : Int))
    credit := f.credit
    trim := f.trim
    service := f.service.getD .inService
    overdueSent := false
    cold := false
    unconfirmed := false
    emptyLongSent := false }

/-- A restore to COKING up to the readiness test. -/
def cokingRestored (g : Ground) (n : Nat) (f : RestoreFields) (p : Plant) : Plant :=
  beginAccrual g n (setTarget g n f.mass ((changePhase g n .coking .ovenRestore p).modOven n (cokingFields g f)))

theorem restoreCoking_eq (g : Ground) (n : Nat) (f : RestoreFields) (p : Plant) :
    restoreCoking g n f p = commandRegulate g n (setOverdue g n (testRestored g n (cokingRestored g n f p))) := rfl

/-- What a restore to COKING writes of an oven's record, its phase and its valve apart. -/
structure CokingRecord (g : Ground) (n : Nat) (f : RestoreFields) (o : Oven) : Prop where
  trim : o.trim = f.trim
  service : o.service = f.service.getD .inService
  mass : o.mass = clampMass g.params f.mass
  chargeEnd : o.chargeEnd = some (g.clock - (f.age : Int))
  credit : o.credit = f.credit
  target : o.target = creditTarget g.params (clampMass g.params f.mass) f.trim
  accrual : o.accrual = some { since := g.clock, rate := rateOf g n }

section
variable {g : Ground} {n : Nat} {f : RestoreFields} {p : Plant}

theorem cokingRestored_oven (hp : p.hasOven n) (hu : (p.oven n).phase = .unknown) :
    CokingRecord g n f ((cokingRestored g n f p).oven n) ∧ ((cokingRestored g n f p).oven n).phase = .coking ∧
      (cokingRestored g n f p).hasOven n := by
  have moves : Cause.ovenRestore.moves (p.oven n).phase .coking = true := by rw [hu]; rfl
  have changed := changePhase_oven (g := g) hp moves (by decide) (by decide)
  have hp1 : (changePhase g n .coking .ovenRestore p).hasOven n := (changePhase_touches moves).hasOven.2 hp
  have hp2 : ((changePhase g n .coking .ovenRestore p).modOven n (cokingFields g f)).hasOven n := Plant.modOven_hasOven.2 hp1
  have targeted := setTarget_touches g n f.mass ((changePhase g n .coking .ovenRestore p).modOven n (cokingFields g f))
  have begun := beginAccrual_touches g n
    (setTarget g n f.mass ((changePhase g n .coking .ovenRestore p).modOven n (cokingFields g f)))
  have hp3 := targeted.hasOven.2 hp2
  have record : (cokingRestored g n f p).oven n = _ := begun.named hp3
  rw [targeted.named hp2, Plant.modOven_oven_same hp1, changed] at record
  rw [record]
  exact ⟨⟨rfl, rfl, rfl, rfl, rfl, rfl, rfl⟩, rfl, begun.hasOven.2 hp3⟩

/-- A restored oven gains nothing by the accrual of its change to READY. -/
theorem accrueOven_cokingRecord {o : Oven} (h : CokingRecord g n f o) (hf : f.credit ≤ maxU32) : accrueOven g.clock o = o := by
  rw [accrueOven_of_some h.accrual]
  have credit : min maxU32 (o.credit + rateOf g n * (g.clock - g.clock).toNat) = o.credit := by
    rw [h.credit]
    simp [hf]
  dsimp only
  rw [credit, ← h.accrual]

theorem readinessTest_cokingRecord {o : Oven} (h : CokingRecord g n f o) :
    readinessTest g o = true ↔ o.target ≤ f.credit ∧ g.params.tMin ≤ f.age := by
  simp [readinessTest, netCoking, h.credit, h.chargeEnd]

/-- The readiness test at once (R16): the oven of a restore to COKING is READY where it holds, and keeps its record. -/
theorem testRestored_oven (hp : p.hasOven n) (hph : (p.oven n).phase = .coking) (h : CokingRecord g n f (p.oven n))
    (hf : f.credit ≤ maxU32) :
    CokingRecord g n f ((testRestored g n p).oven n) ∧ (testRestored g n p).hasOven n ∧
      ((testRestored g n p).oven n).phase =
        (if ((testRestored g n p).oven n).target ≤ f.credit ∧ g.params.tMin ≤ f.age then .ready else .coking) := by
  unfold testRestored
  split
  · rename_i ht
    rw [readinessTest_cokingRecord h] at ht
    have moves : Cause.readinessMet.moves (p.oven n).phase .ready = true := by rw [hph]; rfl
    have ready := (Plant.oven_congr (becomeReady_ovens g n .readinessMet p) n).trans
      (changePhase_oven (g := g) hp moves (by decide) (by decide))
    rw [accrueOven_cokingRecord h hf, hph] at ready
    have hp1 : (becomeReady g n .readinessMet p).hasOven n :=
      (Touches.of_ovens (n := n) (becomeReady_ovens ..)).hasOven.2 ((changePhase_touches moves).hasOven.2 hp)
    have touched := recomputeOven_touches g n (becomeReady g n .readinessMet p)
    have record := touched.named hp1
    rw [ready] at record
    rw [record]
    refine ⟨⟨h.trim, h.service, h.mass, ?_, ?_, h.target, ?_⟩, touched.hasOven.2 hp1, (if_pos ht).symm⟩
    · simp [phaseFields, h.chargeEnd]
    · simp [phaseFields, h.credit]
    · simp [phaseFields, Phase.accrues, h.accrual]
  · rename_i ht
    rw [readinessTest_cokingRecord h] at ht
    exact ⟨h, hp, by rw [if_neg ht, hph]⟩

theorem restoreCoking_oven (hp : p.hasOven n) (hu : (p.oven n).phase = .unknown) (hf : f.credit ≤ maxU32) :
    CokingRecord g n f ((restoreCoking g n f p).oven n) ∧ ((restoreCoking g n f p).oven n).valve.mode = .regulate ∧
      ((restoreCoking g n f p).oven n).phase =
        (if ((restoreCoking g n f p).oven n).target ≤ f.credit ∧ g.params.tMin ≤ f.age then .ready else .coking) := by
  obtain ⟨record, phase, hp1⟩ := cokingRestored_oven (g := g) (f := f) hp hu
  obtain ⟨record, hp2, phase⟩ := testRestored_oven hp1 phase record hf
  have timed := setOverdue_touches g n (testRestored g n (cokingRestored g n f p))
  have hp3 := timed.hasOven.2 hp2
  have regulated := (commandRegulate_touches g n (setOverdue g n (testRestored g n (cokingRestored g n f p)))).named hp3
  rw [timed.named hp2] at regulated
  rw [restoreCoking_eq, regulated]
  refine ⟨⟨record.trim, record.service, record.mass, record.chargeEnd, record.credit, record.target, record.accrual⟩, ?_, phase⟩
  dsimp only
  split
  · assumption
  · rfl

end

/-- What a restore leaves of both doors, and what it writes besides (R16, R110). -/
theorem restoreDoors {s : State} {n : Nat} (hd : holdsDoors s n) (dps dcs : Door) :
    let t := (s.putDoor n .ps dps).putDoor n .cs dcs
    t.ground.door n .ps = dps ∧ t.ground.door n .cs = dcs ∧
      (∀ k side, k ≠ n → t.ground.door k side = s.ground.door k side) ∧
      (s.plant.ask = none → Keeps (.of [.list .ps, .list .cs]) s.plant t.plant) := by
  have hd' : holdsDoors (s.putDoor n .ps dps) n := ⟨hd.1, by
    show n ≤ (updateNumbered ..).length
    rw [length_updateNumbered]
    exact hd.2⟩
  have first : ∀ k side, (s.putDoor n .ps dps).ground.door k side = _ := Ground.setDoor_door .ps dps hd
  have second : ∀ k side, ((s.putDoor n .ps dps).putDoor n .cs dcs).ground.door k side = _ := Ground.setDoor_door .cs dcs hd'
  refine ⟨by rw [second, first]; simp, by rw [second]; simp, fun k side hk => by rw [second, first]; simp [hk], fun ha => ?_⟩
  have kept := putDoor_keeps (s := s) (n := n) (by rw [ha]; nofun) .ps dps false
  exact kept.trans (putDoor_keeps (by rw [kept.ask rfl, ha]; nofun) ..)

theorem badRestore_eq_false {f : RestoreFields} (h : badRestore f = false) :
    f.credit ≤ maxU32 ∧ ∃ v, f.service = some v := by
  simp only [badRestore, Bool.or_eq_false_iff, decide_eq_false_iff_not, Nat.not_lt] at h
  obtain ⟨⟨⟨⟨⟨⟨⟨-, -⟩, credit⟩, -⟩, -⟩, -⟩, -⟩, service⟩ := h
  exact ⟨credit, Option.isSome_iff_exists.1 (by simpa [Option.isNone_iff_eq_none, Option.isSome_iff_ne_none] using service)⟩

/-- Settles O25: the record by the phase asked for, then the two doors. -/
theorem ovenRestoreWritesTheRecord : Obligations.OvenRestoreWritesTheRecord := by
  unfold Obligations.OvenRestoreWritesTheRecord
  intro s s₀ port tag n f hw hm hp hd hf hu ht
  have ground := ground_of_takes ht
  have hp₀ := hasOven_of_takes ht hp
  have hu₀ : (s₀.plant.oven n).phase = .unknown := by rw [oven_of_takes ht]; exact hu
  obtain ⟨hcredit, v, hv⟩ := badRestore_eq_false hf
  have pass : firstRefusal (ovenChecks s₀ port n (badRestore f) ++ [⟨(s₀.plant.oven n).phase ≠ .unknown, .state, .phase⟩]) =
      none := by
    rw [firstRefusal_mayChange_of_takes ht hw hm hf]
    simp [hu₀]
  let w := s₀.work fun g p => if f.phase = some .empty then restoreEmpty g n f p else restoreCoking g n f p
  have hd₀ : holdsDoors w n := by
    show holdsDoors s₀ n
    rw [holdsDoors, ground]
    exact hd
  obtain ⟨ps, cs, others, kept⟩ := restoreDoors hd₀ (restoredDoor (f.psDoor.getD .hung)) (restoredDoor (f.csDoor.getD .hung))
  have recordKept : Keeps (.of (Kind.ofPhase n)) s₀.plant w.plant :=
    .ite (fun _ => restoreEmpty_keeps (Kinds.of_has (List.Subset.refl _)) ..) fun _ =>
      restoreCoking_keeps (Kinds.of_has (List.Subset.refl _)) ..
  refine ⟨(restoreOven n f s₀).1, _, accepted_of_takes (act := restoreOven n f) ht pass, ps, cs, fun k side hk =>
    (others k side hk).trans ?_, fun ha => ?_⟩
  · show s₀.ground.door k side = _
    rw [ground]
  · have kept := kept ((recordKept.ask rfl).trans ((ask_of_takes ht).trans ha))
    have keeps : Keeps (.of (Kind.ofPhase n)) s₀.plant (restoreOven n f s₀).1.plant := recordKept.trans (kept.of_subset (by simp))
    have oven : (restoreOven n f s₀).1.plant.oven n = w.plant.oven n := kept.oven n (Kinds.of_eq_false (by simp))
    have empty (h : f.phase = some .empty) : w.plant = restoreEmpty s₀.ground n f s₀.plant := if_pos h
    have coking (h : f.phase ≠ some .empty) : w.plant = restoreCoking s₀.ground n f s₀.plant := if_neg h
    refine ⟨keeps.fill_of_takes ht, fun k hk => (keeps.oven k (Kinds.of_eq_false (by simp [hk]))).trans (oven_of_takes ht k), ?_⟩
    rw [oven, ← ground, ← oven_of_takes ht]
    by_cases h : f.phase = some .empty
    · rw [empty h]
      obtain ⟨trim, service, mass, phase, since, chargeEnd, credit, target, dwell, valve⟩ :=
        restoreEmpty_oven (g := s₀.ground) (f := f) hp₀ hu₀
      exact ⟨trim, by rw [service, hv]; rfl, mass, fun _ => ⟨phase, since, chargeEnd, credit, target, dwell, valve⟩,
        fun h' => by rw [h] at h'; cases h'⟩
    · rw [coking h]
      obtain ⟨record, valve, phase⟩ := restoreCoking_oven (g := s₀.ground) hp₀ hu₀ hcredit
      exact ⟨record.trim, by rw [record.service, hv]; rfl, record.mass, fun h' => absurd h' h, fun _ =>
        ⟨record.chargeEnd, record.credit, record.target, phase, record.accrual, valve⟩⟩

/-! ## Walls (R20 to R22, R25) -/

/-- What operations on the ovens of a list, taken in turn, do to the table. -/
structure TouchesEach (l : List Nat) (R : Nat → Oven → Oven → Prop) (p q : Plant) : Prop where
  length : q.ovens.length = p.ovens.length
  others : ∀ k, k ∉ l → q.oven k = p.oven k
  named : ∀ k ∈ l, p.hasOven k → R k (p.oven k) (q.oven k)

theorem TouchesEach.hasOven {l : List Nat} {R : Nat → Oven → Oven → Prop} {p q : Plant} (h : TouchesEach l R p q) {k : Nat} :
    q.hasOven k ↔ p.hasOven k := by
  simp [Plant.hasOven, h.length]

theorem foldl_touchesEach {f : Nat → Plant → Plant} {R : Nat → Oven → Oven → Prop} (hf : ∀ n p, Touches n (R n) p (f n p))
    {l : List Nat} (hl : l.Nodup) (p : Plant) : TouchesEach l R p (l.foldl (fun p n => f n p) p) := by
  induction l generalizing p with
  | nil => exact ⟨rfl, fun _ _ => rfl, nofun⟩
  | cons n l ih =>
    obtain ⟨hn, hl⟩ := List.nodup_cons.1 hl
    have first := hf n p
    have rest := ih hl (f n p)
    refine ⟨rest.length.trans first.length, fun k hk => ?_, fun k hk hp => ?_⟩
    · rw [List.mem_cons, not_or] at hk
      exact (rest.others k hk.2).trans (first.others k hk.1)
    · show R k (p.oven k) ((l.foldl (fun p n => f n p) (f n p)).oven k)
      rcases List.mem_cons.1 hk with rfl | hk
      · rw [rest.others k hn]
        exact first.named hp
      · have ne : k ≠ n := fun h => hn (h ▸ hk)
        rw [← first.others k ne]
        exact rest.named k hk (first.hasOven.2 hp)

/-- What a wall's change makes of an oven that accrues: accrued up to now at the held rate, then given the rate of the walls
as they now stand. -/
def Reaccrued (now : Time) (rate : Nat) (a b : Oven) : Prop :=
  ∀ x, a.accrual = some x →
    b.credit = min maxU32 (a.credit + x.rate * (now - x.since).toNat) ∧ b.accrual = some { since := now, rate := rate }

/-- The recomputation after a report, of an oven it bounds: one that accrues, and another, whose COLD_DATA it clears. -/
theorem reportedOven_touches (g : Ground) (n : Nat) (p : Plant) :
    Touches n (fun a b =>
      (a.accrual = none → b = { a with cold := false }) ∧
        ∀ x, a.accrual = some x → b.credit = a.credit ∧ b.accrual = some { x with rate := rateOf g n }) p
      (reportedOven g n p) := by
  unfold reportedOven
  split
  · rename_i h
    obtain ⟨x, hx⟩ := Option.isSome_iff_exists.1 h
    have t := recomputeOven_touches g n p
    refine ⟨t.length, t.others, fun hp => ⟨fun hn => absurd (hn.symm.trans hx) nofun, fun y hy => ?_⟩⟩
    rw [t.named hp]
    simp [hy]
  · rename_i h
    have t := Plant.modOven_touches p n fun o => { o with cold := false }
    refine ⟨t.length, t.others, fun hp => ⟨fun _ => t.named hp, fun y hy => absurd ?_ h⟩⟩
    simp [hy]

/-- The kinds that changes of several ovens write. -/
def Kinds.ovenTable : Kinds
  | .ovens | .oven _ => true
  | _ => false

theorem Kinds.ovenTable_has (n : Nat) : Kinds.ovenTable.has (Kind.ofOven n) := by simp [Kinds.has, Kinds.ovenTable]

theorem boundedOvens_nodup (g : Ground) (first count : Nat) : (boundedOvens g first count).Nodup :=
  ((List.nodup_range).map fun _ _ h => Nat.succ.inj h).filter _

theorem mem_boundedOvens {g : Ground} {first count k : Nat} :
    k ∈ boundedOvens g first count ↔ (1 ≤ k ∧ k ≤ g.count) ∧ first ≤ k + 1 ∧ k + 1 ≤ first + count := by
  simp [boundedOvens, mem_ovenNumbers]

/-- The walls that take readings. -/
theorem storeWalls_wall (g : Ground) (first : Nat) (readings : List Int) (h1 : 1 ≤ first)
    (hl : first + readings.length ≤ g.walls.length + 1) :
    (∀ i r, readings[i]? = some r → (g.storeWalls first readings).wall (first + i) = reportedWall g r) ∧
      ∀ w, w < first ∨ first + readings.length ≤ w → (g.storeWalls first readings).wall w = g.wall w := by
  induction readings generalizing g first with
  | nil => exact ⟨nofun, fun _ _ => rfl⟩
  | cons r rest ih =>
    let g' : Ground := { g with walls := updateNumbered g.walls first fun _ => reportedWall g r }
    obtain ⟨stored, others⟩ := ih g' (first + 1) (by omega) (by
      show _ ≤ (updateNumbered ..).length + 1
      rw [length_updateNumbered]
      simp at hl
      omega)
    have wall : ∀ w, g'.wall w = if w = first then reportedWall g r else g.wall w := fun w => by
      show (numbered (updateNumbered ..) w).getD _ = _
      rw [numbered_updateNumbered]
      split
      · rename_i hw
        have held : (numbered g.walls w).isSome := by
          rw [numbered_isSome]
          simp at hl
          simp
          omega
        obtain ⟨x, hx⟩ := Option.isSome_iff_exists.1 held
        simp [hx]
      · rfl
    refine ⟨fun i x hx => ?_, fun w hw => ?_⟩
    · cases i with
      | zero =>
        cases hx
        exact (others first (.inl (Nat.lt_succ_self _))).trans ((wall first).trans (if_pos rfl))
      | succ i =>
        rw [show first + (i + 1) = first + 1 + i by omega]
        exact stored i x hx
    · simp only [List.length_cons] at hw
      exact (others w (by omega)).trans ((wall w).trans (if_neg (by omega)))

/-- What WALL REPORT leaves of the ovens that a list names: each accrued, and after the walls' change reported. -/
theorem reportedOvens (g g' : Ground) {l : List Nat} (hl : l.Nodup) (p : Plant) :
    TouchesEach l (fun k a b => Reaccrued g.clock (rateOf g' k) a b ∧ (a.accrual = none → b = { a with cold := false })) p
        (l.foldl (fun p n => reportedOven g' n p) (l.foldl (fun p n => accrue g n p) p)) ∧
      Keeps Kinds.ovenTable p (l.foldl (fun p n => reportedOven g' n p) (l.foldl (fun p n => accrue g n p) p)) := by
  have accrued := foldl_touchesEach (accrue_touches g) hl p
  have reported := foldl_touchesEach (reportedOven_touches g') hl (l.foldl (fun p n => accrue g n p) p)
  refine ⟨⟨reported.length.trans accrued.length, fun k hk => (reported.others k hk).trans (accrued.others k hk),
    fun k hk hp => ?_⟩, ?_⟩
  · have first := accrued.named k hk hp
    obtain ⟨still, written⟩ := reported.named k hk (accrued.hasOven.2 hp)
    rw [first] at still written
    refine ⟨fun x hx => ?_, fun hn => ?_⟩
    · rw [accrueOven_of_some hx] at written
      exact written _ rfl
    · rw [accrueOven_of_none hn] at still
      exact still hn
  · exact (Keeps.foldl l (fun n _ q => accrue_keeps (Kinds.ovenTable_has n) g q) p).trans
      (Keeps.foldl l (fun n _ q => reportedOven_keeps (Kinds.ovenTable_has n) g' q) _)

/-- What a wall's staleness expiry leaves of the ovens beside it. -/
theorem staledOvens (g g' : Ground) (b : NoticeBody) {w : Nat} (h1 : 1 ≤ w) (p : Plant) :
    TouchesEach [w - 1, w] (fun k a b => Reaccrued g.clock (rateOf g' k) a b) p
        (recomputeOven g' w (recomputeOven g' (w - 1) (raise g' b (accrue g w (accrue g (w - 1) p))))) ∧
      Keeps Kinds.ovenTable p (recomputeOven g' w (recomputeOven g' (w - 1) (raise g' b (accrue g w (accrue g (w - 1) p))))) := by
  have hl : [w - 1, w].Nodup := by simp; omega
  have each := foldl_touchesEach (accrue_touches g) hl p
  have accrued : TouchesEach [w - 1, w] (fun _ a b => b = accrueOven g.clock a) p
      (raise g' b (accrue g w (accrue g (w - 1) p))) := ⟨each.length, each.others, each.named⟩
  have recomputed := foldl_touchesEach (recomputeOven_touches g') hl (raise g' b (accrue g w (accrue g (w - 1) p)))
  refine ⟨⟨recomputed.length.trans accrued.length, fun k hk => (recomputed.others k hk).trans (accrued.others k hk),
    fun k hk hp x hx => ?_⟩, ?_⟩
  · have second := recomputed.named k hk (accrued.hasOven.2 hp)
    rw [accrued.named k hk hp, accrueOven_of_some hx] at second
    rw [show (recomputeOven g' w (recomputeOven g' (w - 1) _)).oven k = _ from second]
    exact ⟨rfl, rfl⟩
  · exact ((accrue_keeps (Kinds.ovenTable_has _) g p).trans (accrue_keeps (Kinds.ovenTable_has _) g _)).trans
      ((raise_keeps ..).trans ((recomputeOven_keeps (Kinds.ovenTable_has _) g' _).trans
        (recomputeOven_keeps (Kinds.ovenTable_has _) g' _)))

theorem wallStaled_due {s : State} {w : Nat} {t : Time} (h : (s.ground.wall w).expiry = some t) (ht : t ≤ s.ground.clock) :
    ∃ b, s.wallStaled w =
      (({ s.work (fun g p => accrue g w (accrue g (w - 1) p)) with
        ground := { s.ground with walls := updateNumbered s.ground.walls w fun r => { r with expiry := none } } } : State).raise
          b).work fun g p => recomputeOven g w (recomputeOven g (w - 1) p) := by
  unfold State.wallStaled
  simp only [h, if_neg (Int.not_lt.2 ht)]
  exact ⟨_, rfl⟩

/-- Settles O27: the walls written, and the ovens they bound. -/
theorem wallsTakeReadingsAndGoStale : Obligations.WallsTakeReadingsAndGoStale := by
  unfold Obligations.WallsTakeReadingsAndGoStale
  refine ⟨fun s s₀ port tag first readings hw hfirst hlen hlen16 hlast hwalls ht => ?report, fun s w e he hdue h1 hw => ?stale⟩
  case report =>
    have ground := ground_of_takes ht
    obtain ⟨hstarting, hconfigured⟩ := working_of_takes ht hw
    have fits : lengthFits (.wallReport first readings.length readings) = true := lengthFits_wallReport.2 ⟨hlen, hlen16, rfl⟩
    have pass : firstRefusal [whileStarting s₀, unlessConfigured s₀,
        ⟨first = 0 || s₀.ground.count + 1 < first + readings.length - 1, .range, .number⟩] = none := by
      rw [← ground] at hlast
      have h0 : first ≠ 0 := by omega
      have h1 : ¬s₀.ground.count + 1 < first + readings.length - 1 := by omega
      simp [whileStarting, unlessConfigured, hstarting, hconfigured, h0, h1]
    obtain ⟨stored, others⟩ := storeWalls_wall s.ground first readings hfirst (by omega)
    obtain ⟨touched, keeps⟩ := reportedOvens s₀.ground (s₀.ground.storeWalls first readings)
      (boundedOvens_nodup s₀.ground first readings.length) s₀.plant
    have bounded : ∀ k, k ∈ boundedOvens s₀.ground first readings.length ↔
        (1 ≤ k ∧ k ≤ s₀.ground.count) ∧ first ≤ k + 1 ∧ k + 1 ≤ first + readings.length := fun _ => mem_boundedOvens
    have taken : exec (.wallReport port tag first readings.length readings) s =
        .next ((reportWalls first readings s₀).1.settled.answer port tag (.ok (reportWalls first readings s₀).2)) :=
      (congrArg Host.Outcome.next (if_pos fits)).trans (accepted_of_takes ht pass)
    refine ⟨(reportWalls first readings s₀).1, taken, ?ground, fun i r hr => ?wall, fun w hw => ?otherWall,
      fun k hk hc hlo hhi => ?oven, fun k hk => ?otherOven, keeps.fill_of_takes ht⟩
    case ground =>
      show s₀.ground.storeWalls first readings = { s.ground with walls := (s₀.ground.storeWalls first readings).walls }
      rw [ground]
      exact Ground.storeWalls_eq ..
    case wall =>
      show (s₀.ground.storeWalls first readings).wall _ = _
      rw [ground]
      exact stored i r hr
    case otherWall =>
      show (s₀.ground.storeWalls first readings).wall _ = _
      rw [ground]
      exact others w hw
    case oven =>
      rw [← ground] at hc
      have oven := touched.named k ((bounded k).2 ⟨⟨hk.1, hc⟩, hlo, hhi⟩) (hasOven_of_takes ht hk)
      rw [oven_of_takes ht] at oven
      rw [← ground]
      exact oven
    case otherOven =>
      refine (touched.others k fun h => ?_).trans (oven_of_takes ht k)
      obtain ⟨-, hlo, hhi⟩ := (bounded k).1 h
      omega
  case stale =>
    obtain ⟨b, made⟩ := wallStaled_due (s := s.opened) he hdue
    let g' : Ground := { s.ground with walls := updateNumbered s.ground.walls w fun r => { r with expiry := none } }
    obtain ⟨touched, keeps⟩ := staledOvens s.ground g' b h1 s.opened.plant
    have wall : ∀ k, g'.wall k = if k = w then { s.ground.wall k with expiry := none } else s.ground.wall k := fun k => by
      show (numbered (updateNumbered ..) k).getD _ = _
      rw [numbered_updateNumbered]
      split
      · rename_i hk
        subst hk
        have held : (numbered s.ground.walls k).isSome := by
          rw [numbered_isSome]
          simp [h1, hw]
        obtain ⟨x, hx⟩ := Option.isSome_iff_exists.1 held
        simp [Ground.wall, hx]
      · rfl
    refine ⟨_, congrArg (fun t : State => Host.Outcome.next t.settled) made, rfl, (wall w).trans (if_pos rfl),
      fun k hk => (wall k).trans (if_neg hk), fun k hk hp a ha => touched.named k ?_ hp a ha,
      fun k hk hk' => touched.others k ?_, keeps.fill⟩
    · simp; omega
    · simp; omega

end Sys2Proof.Machine
end

section
/-! The test of a side's service job (R103, R104), and the requests of the schedule unit (R39 to R41, R50, R60). -/

namespace Sys2Proof.Machine

open Sys2Proof.Safety

/-! ## Service jobs (R103, R104) -/

theorem modSide_side_same (p : Plant) (side : Side) (f : ServiceSide → ServiceSide) :
    (p.modSide side f).side side = f (p.side side) := by cases side <;> rfl

theorem modSide_sent (p : Plant) (side : Side) (f : ServiceSide → ServiceSide) : (p.modSide side f).sent = p.sent := by
  cases side <;> rfl

theorem joinList_sent (g : Ground) (n : Nat) (side : Side) (p : Plant) : (joinList g n side p).sent = p.sent := by
  unfold joinList
  dsimp only
  split
  · rfl
  · split
    · split
      · exact modSide_sent ..
      · exact modSide_sent ..
    · exact modSide_sent ..

theorem refill_sent (g : Ground) (side : Side) (p : Plant) : (refill g side p).sent = p.sent := by
  unfold refill
  dsimp only
  split
  · exact (joinList_sent ..).trans (modSide_sent ..)
  · exact modSide_sent ..

theorem mem_placeEntry {p : Plant} {l : List ServiceEntry} {e x : ServiceEntry} :
    x ∈ placeEntry p l e ↔ x ∈ l ∨ x = e := by
  have split : x ∈ l ↔ x ∈ l.filter (inEmptyGroup p) ∨ x ∈ l.filter fun y => !inEmptyGroup p y := by
    cases h : inEmptyGroup p x <;> simp [h]
  unfold placeEntry
  split
  · rw [afterEmptyGroup, split]
    simp only [List.mem_append, List.mem_singleton]
    tauto
  · simp

/-- A door that joins a list leaves every entry in its place or beside it. -/
theorem joinList_list (g : Ground) (n : Nat) (side : Side) (p : Plant) :
    (∀ x ∈ (p.side side).list, x ∈ ((joinList g n side p).side side).list) ∧
      ∀ x ∈ ((joinList g n side p).side side).list, x ∈ (p.side side).list ∨ x.oven = n := by
  have latched : ((p.modSide side fun d => { d with latch := true }).side side).list = (p.side side).list := by
    rw [modSide_side_same]
  unfold joinList
  dsimp only
  split
  · exact ⟨fun _ h => h, fun _ h => .inl h⟩
  · split
    · have same : ((if (p.side side).latch then p.modSide side fun d => { d with latch := true }
          else raise g (.serviceFull side n) (p.modSide side fun d => { d with latch := true })).side side).list =
          (p.side side).list := by
        split
        · exact latched
        · exact (congrArg ServiceSide.list (by cases side <;> rfl)).trans latched
      rw [same]
      exact ⟨fun _ h => h, fun _ h => .inl h⟩
    · have joined : ((start (.testJob side) (p.modSide side fun d =>
          { d with list := placeEntry p d.list { oven := n, joined := g.clock } })).side side).list =
          placeEntry p (p.side side).list { oven := n, joined := g.clock } := by cases side <;> rfl
      rw [joined]
      exact ⟨fun x h => mem_placeEntry.2 (.inl h), fun x h => (mem_placeEntry.1 h).imp id fun e => by rw [e]⟩

/-- A list refilled keeps its entries; the door that joins is not the one in service. -/
theorem refill_list (g : Ground) (side : Side) (p : Plant) :
    (∀ x ∈ (p.side side).list, x ∈ ((refill g side p).side side).list) ∧
      ∀ x ∈ ((refill g side p).side side).list, x ∈ (p.side side).list ∨ (p.side side).holds x.oven = false := by
  have cleared : (p.modSide side fun d => { d with latch := false }).side side = { p.side side with latch := false } :=
    modSide_side_same ..
  unfold refill
  dsimp only
  split
  · rename_i n hn
    have free : (p.side side).holds n = false := by
      have := List.find?_some hn
      rw [cleared] at this
      simp only [Bool.and_eq_true, Bool.not_eq_true'] at this
      exact this.2
    obtain ⟨kept, from'⟩ := joinList_list g n side (p.modSide side fun d => { d with latch := false })
    rw [cleared] at kept from'
    exact ⟨kept, fun x hx => (from' x hx).imp id fun e => by rw [e]; exact free⟩
  · rw [cleared]
    exact ⟨fun _ h => h, fun _ h => .inl h⟩

/-- The side's job may start (R103), as a condition. -/
def mayStart (g : Ground) (p : Plant) (side : Side) : Prop :=
  (p.side side).job = none ∧ (g.mirror (sideMachine side)).online = true ∧ p.claim (sideMachine side) = .free ∧
    g.runState = .running ∧ windowOpen g p = true ∧ ∀ t ∈ p.tickets, ¬(t.state = .isolating ∧ t.isolated = true)

theorem jobChoice_of_not {g : Ground} {side : Side} {p : Plant} (h : ¬mayStart g p side) : jobChoice g side p = none := by
  refine if_neg fun hc => h ?_
  simp only [Bool.and_eq_true, Option.isNone_iff_eq_none, decide_eq_true_eq, Bool.not_eq_true', Ground.running, isolatedWaiting,
    List.any_eq_false] at hc
  obtain ⟨⟨⟨⟨⟨job, online⟩, free⟩, running⟩, window⟩, none⟩ := hc
  exact ⟨job, online, free, running, window, none⟩

theorem jobChoice_of_may {g : Ground} {side : Side} {p : Plant} (h : mayStart g p side) :
    jobChoice g side p = (p.side side).list.head? := by
  obtain ⟨job, online, free, running, window, none⟩ := h
  have waits : isolatedWaiting p = false := by
    simp only [isolatedWaiting, List.any_eq_false, Bool.and_eq_true, decide_eq_true_eq]
    exact none
  simp [jobChoice, job, online, free, Ground.running, running, window, waits]

/-- The job of R104 on an oven, for the command it begins with. -/
def startedJob (g : Ground) (side : Side) (n : Nat) : Job where
  oven := n
  state := (jobStart g side n).1
  suspended := false
  command := (jobStart g side n).2
  timer := some (g.clock + (g.params.tService : Int))

theorem startJob_eq (g : Ground) (side : Side) (n : Nat) (p : Plant) :
    startJob g side n p = sendJob side n (jobStart g side n).2
      (setClaim g (sideMachine side) .service (takeHead g side (startedJob g side n) p)) := rfl

theorem jobStart_atSpot {g : Ground} {side : Side} {n : Nat} (h : g.atSpot (sideMachine side) n = true) :
    jobStart g side n = (.pressing, .step .press) := if_pos h

theorem jobStart_away {g : Ground} {side : Side} {n : Nat} (h : g.atSpot (sideMachine side) n = false) :
    jobStart g side n = (.moving, .move) := if_neg (by simp [h])

theorem setClaim_sent (g : Ground) (m : Machine) (c : Claim) (p : Plant) : (setClaim g m c p).sent = p.sent := by
  unfold setClaim
  split
  · rfl
  · cases m <;> rfl

theorem startJob_sent (g : Ground) (side : Side) (n : Nat) (p : Plant) :
    (startJob g side n p).sent = p.sent ++
      [(sideMachine side, match (jobStart g side n).2 with | .step op => .step op n | _ => .move n)] := by
  have before : (setClaim g (sideMachine side) .service (takeHead g side (startedJob g side n) p)).sent = p.sent := by
    rw [setClaim_sent, takeHead, refill_sent, modSide_sent]
  rw [startJob_eq]
  cases h : g.atSpot (sideMachine side) n with
  | true => rw [jobStart_atSpot h]; simp [sendJob, before]
  | false => rw [jobStart_away h]; simp [sendJob, before]

/-- What the command of a job and its machine's claim leave of the sides. -/
theorem sendJob_setClaim_side (g : Ground) (side other : Side) (n : Nat) (c : Cmd) (m : Machine) (claim : Claim) (p : Plant) :
    (sendJob side n c (setClaim g m claim p)).side other = p.side other := by
  have w := (setClaim_keeps (k := .of [.claim m]) (m := m) (by simp [Kinds.of]) g claim p).trans (sendJob_keeps _ side n c _)
  exact ServiceSide.eq_of (w.list other (by simp [Kinds.of])) (w.job other (by simp [Kinds.of]))

theorem startJob_side (g : Ground) (side : Side) (n : Nat) (p : Plant) :
    (startJob g side n p).side side = (takeHead g side (startedJob g side n) p).side side :=
  sendJob_setClaim_side ..

theorem startJob_job (g : Ground) (side : Side) (n : Nat) (p : Plant) :
    ((startJob g side n p).side side).job = some (startedJob g side n) := by
  rw [startJob_side, takeHead, (refill_keeps (k := .of [.list side]) (by simp [Kinds.of]) g _).job side (by simp [Kinds.of]),
    modSide_side_same]

theorem startJob_claim (g : Ground) (side : Side) (n : Nat) (p : Plant) :
    (startJob g side n p).claim (sideMachine side) = .service := by
  have h : sideMachine side = .pm ∨ sideMachine side = .gc := by cases side <;> simp [sideMachine]
  rw [startJob_eq, (sendJob_keeps (.of []) side n _ _).claim _ rfl]
  exact setClaim_claim g _ _ _ h

/-- Settles O29: the job's test by its choice, and what the job that starts writes. -/
theorem serviceJobsStart : Obligations.ServiceJobsStart := by
  unfold Obligations.ServiceJobsStart
  intro g p side
  dsimp only
  have chosen : ∀ o, jobChoice g side p = o → runTask g (.testJob side) p =
      match o with
      | some e => startJob g side e.oven p
      | none => p := fun o h => by
    subst h
    rfl
  refine ⟨fun h => chosen none ?_, fun e rest may hlist => ?_⟩
  · rcases h with h | h
    · exact jobChoice_of_not h
    · by_cases may : mayStart g p side
      · rw [jobChoice_of_may may, h]; rfl
      · exact jobChoice_of_not may
  · rw [chosen (some e) (by rw [jobChoice_of_may may, hlist]; rfl)]
    dsimp only
    have keeps := startJob_keeps (k := .of (Kind.ofJob side)) (Kinds.of_has (List.Subset.refl _)) g e.oven p
    have all := startJob_keeps (side := side) (k := .of [.list .ps, .job .ps, .list .cs, .job .cs, .claim .pm, .claim .gc])
      (Kinds.of_has (by cases side <;> simp [sideMachine])) g e.oven p
    have entered : (p.modSide side fun d => { d with list := d.list.tail, job := some (startedJob g side e.oven) }).side side =
        { p.side side with list := rest, job := some (startedJob g side e.oven) } := by
      rw [modSide_side_same, hlist]
      rfl
    obtain ⟨kept, from'⟩ := refill_list g side
      (p.modSide side fun d => { d with list := d.list.tail, job := some (startedJob g side e.oven) })
    rw [entered] at kept from'
    refine ⟨fun h => ⟨?_, ?_⟩, fun h => ⟨?_, ?_⟩, startJob_claim .., fun other ho => keeps.claim other ?_, fun x hx => ?_,
      fun hrest x hx => ?_, fun other ho => ServiceSide.eq_of (keeps.list other ?_) (keeps.job other ?_), all.fill⟩
    · rw [startJob_job, startedJob, jobStart_atSpot h]
    · rw [startJob_sent, jobStart_atSpot h]
    · rw [startJob_job, startedJob, jobStart_away h]
    · rw [startJob_sent, jobStart_away h]
    · exact Kinds.of_eq_false (by simp [ho])
    · rw [startJob_side]
      exact kept x hx
    · rw [startJob_side] at hx
      rcases from' x hx with h | h
      · exact hrest x h
      · exact fun he => by simp [ServiceSide.holds, startedJob, he] at h
    · exact Kinds.of_eq_false (by simp [ho])
    · exact Kinds.of_eq_false (by simp [ho])

/-! ## The push order (R39) -/

theorem ovenNumbers_nodup (n : Nat) : (ovenNumbers n).Nodup := List.nodup_range.map fun _ _ h => Nat.succ.inj h

/-- The offsets of an accepted plan are those of its stride, each once. -/
theorem planOk_order {pl : Plan} (h : planOk pl = true) : 0 < pl.stride ∧ (List.range pl.stride).Perm pl.order := by
  simp only [planOk, Bool.and_eq_true, decide_eq_true_eq, beq_iff_eq, List.all_eq_true, List.contains_iff_mem] at h
  obtain ⟨⟨⟨pos, -⟩, length⟩, all⟩ := h
  exact ⟨pos, (List.nodup_range.subperm all).perm_of_length_le (by simp [length])⟩

theorem pushOrder_perm {n : Nat} {pl : Plan} (h : planOk pl = true) : (pushOrder n pl).Perm (ovenNumbers n) := by
  obtain ⟨pos, order⟩ := planOk_order h
  refine (List.perm_ext_iff_of_nodup ?_ (ovenNumbers_nodup n)).2 fun k => ?_
  · refine List.nodup_flatMap.2 ⟨fun o _ => (ovenNumbers_nodup n).filter _, ?_⟩
    refine (order.nodup_iff.1 List.nodup_range).imp fun {a b} hab k ha hb => hab ?_
    simp only [List.mem_filter, decide_eq_true_eq] at ha hb
    exact ha.2.symm.trans hb.2
  · simp only [pushOrder, List.mem_flatMap, List.mem_filter, decide_eq_true_eq]
    exact ⟨fun ⟨_, _, hk, _⟩ => hk, fun hk =>
      ⟨(k - 1) % pl.stride, order.mem_iff.1 (List.mem_range.2 (Nat.mod_lt _ pos)), hk, rfl⟩⟩

/-! ## The requests of the schedule unit (R40, R41, R50, R60) -/

theorem windowOpen_stopped (g : Ground) (p : Plant) : windowOpen { g with schedRunning := false } p = true := rfl

theorem isQuiet_iff {p : Plant} : isQuiet p = true ↔ p.tickets = [] ∧ p.charge = none := by
  simp [isQuiet]

/-- Settles O31: each request of the schedule unit, and the push order as a permutation. -/
theorem schedulerTakesItsRequests : Obligations.SchedulerTakesItsRequests := by
  unfold Obligations.SchedulerTakesItsRequests
  refine ⟨fun s s₀ port tag hw hc => ?requests, fun s s₀ port tag index hw hc ht => ?cursor, fun n pl h => pushOrder_perm h⟩
  case requests =>
    have pass : ∀ {r}, takes s port tag r s₀ → firstRefusal [whileStarting s₀, unlessConfigured s₀] = none := fun ht => by
      obtain ⟨hstarting, hconfigured⟩ := working_of_takes ht hw
      simp [whileStarting, unlessConfigured, hstarting, hconfigured]
    have quiet : ∀ {r}, takes s port tag r s₀ → s₀.plant.agenda = [] := fun ht => calm_of_takes ht hc
    refine ⟨fun ht => ?start, fun ht => ⟨s₀.stopSchedule, accepted_of_takes ht (pass ht), ?ground, ?plant⟩, fun ht h => ?none,
      fun ht h => ?clear⟩
    case start =>
      refine accepted_of_takes_eq ht (pass ht) ?_
      simp [State.work, start, quiet ht]
    case ground =>
      rw [← ground_of_takes ht]
      rfl
    case plant =>
      have window : windowOpen s₀.ground s₀.plant = windowOpen s.ground s.plant := by
        rw [ground_of_takes ht]
        exact plant_of_takes ht (fun p => windowOpen s.ground p) fun _ _ _ _ => rfl
      show announceWindow (windowOpen s₀.ground s₀.plant) _ s₀.plant = _
      rw [announceWindow, windowOpen_stopped, window]
      cases windowOpen s.ground s.plant with
      | true => simp [← quiet ht]
      | false => simp [startAll, quiet ht]; rfl
    case none =>
      refine accepted_of_takes_calm_eq ht (pass ht) ?_ (calm_of_takes ht hc)
      simp [State.work, clearCatchup, catchup_of_takes ht, h]
    case clear =>
      refine accepted_of_takes_eq ht (pass ht) ?_
      simp [State.work, clearCatchup, catchup_of_takes ht, h, start, quiet ht]
  case cursor =>
    have ground := ground_of_takes ht
    obtain ⟨hstarting, hconfigured⟩ := working_of_takes ht hw
    have still : isQuiet s₀.plant = isQuiet s.plant := plant_of_takes ht isQuiet fun _ _ _ _ => rfl
    refine ⟨fun hi htk hch => ?moves, fun hi => refused_of_takes ht ?range, fun hi hbusy => refused_of_takes ht ?busy⟩
    case moves =>
      have quiet := still.trans (isQuiet_iff.2 ⟨htk, hch⟩)
      rw [← ground] at hi ⊢
      refine accepted_of_takes_calm_eq ht ?_ rfl (show calm s₀ from calm_of_takes ht hc)
      simp [whileStarting, unlessConfigured, badField, unlessQuiet, hstarting, hconfigured, hi, quiet]
    case range =>
      rw [← ground] at hi
      simp [whileStarting, unlessConfigured, badField, hstarting, hconfigured, hi]
    case busy =>
      have busy : isQuiet s₀.plant = false := by
        rw [still, Bool.eq_false_iff]
        exact fun h => by
          obtain ⟨h1, h2⟩ := isQuiet_iff.1 h
          rcases hbusy with h | h <;> contradiction
      rw [← ground] at hi
      simp [whileStarting, unlessConfigured, badField, unlessQuiet, hstarting, hconfigured, Nat.not_le.2 hi, busy]

end Sys2Proof.Machine
end

section
/-! SUPPORT. The state in which a machine's record is handled (R163, R165). -/

namespace Sys2Proof.Machine

open Sys2Proof.Safety

section
variable {s : State} {m : Machine}

theorem contact_ground (s : State) (m : Machine) : (s.contact m).ground = s.ground.modMirror m (contacted s.ground) := by
  unfold State.contact
  dsimp only
  split
  · rfl
  · split <;> rfl

theorem heard_ground (s : State) (m : Machine) :
    (heard s m).ground =
      (s.opened.received (.machine m)).ground.setMirror m (contacted s.ground ((s.opened.received (.machine m)).ground.mirror m)) :=
  contact_ground ..

/-- What does not hang on the mirrors and the receivers is as it was. -/
theorem ground_of_heard {α : Type} (f : Ground → α) (hm : ∀ g m r, f (g.setMirror m r) = f g)
    (hr : ∀ (g : Ground) rx, f { g with rx := rx } = f g) (s : State) (m : Machine) :
    f (heard s m).ground = f s.ground := by
  rw [heard_ground, hm]
  exact hr ..

@[simp] theorem heard_clock (s : State) (m : Machine) : (heard s m).ground.clock = s.ground.clock :=
  ground_of_heard (fun g => g.clock) (by simp) (fun _ _ => rfl) s m

@[simp] theorem heard_params (s : State) (m : Machine) : (heard s m).ground.params = s.ground.params :=
  ground_of_heard (fun g => g.params) (by simp) (fun _ _ => rfl) s m

@[simp] theorem heard_doors (s : State) (m : Machine) : (heard s m).ground.doors = s.ground.doors :=
  ground_of_heard (fun g => g.doors) (by simp) (fun _ _ => rfl) s m

@[simp] theorem heard_runState (s : State) (m : Machine) : (heard s m).ground.runState = s.ground.runState :=
  ground_of_heard (fun g => g.runState) (by simp) (fun _ _ => rfl) s m

theorem heard_door (s : State) (m : Machine) (n : Nat) (side : Side) :
    (heard s m).ground.door n side = s.ground.door n side := by
  simp [Ground.door, Ground.doorPair]

/-- A machine that was ONLINE is heard without effect on the work. -/
theorem heard_plant (h : (s.ground.mirror m).online = true) : (heard s m).plant = s.opened.plant := by
  have online : ((s.opened.received (.machine m)).ground.mirror m).online = true := by
    rw [← h]
    cases m <;> rfl
  show ((s.opened.received (.machine m)).contact m).plant = _
  rw [State.contact, if_pos online]
  rfl

/-- CC and the cars are heard with a notice at most. -/
theorem heard_plant_ports (hpm : m ≠ .pm) (hgc : m ≠ .gc) (s : State) :
    ∃ sup pnl, (heard s m).plant = { s.opened.plant with sup := sup, pnl := pnl } := by
  have returned : ∀ g p, machineReturned m g p = p := fun g p => by cases m <;> first | rfl | contradiction
  show ∃ sup pnl, ((s.opened.received (.machine m)).contact m).plant = _
  unfold State.contact
  dsimp only
  split
  · exact ⟨_, _, rfl⟩
  · simp only [State.work_plant, returned]
    split
    · exact ⟨_, _, rfl⟩
    · exact ⟨_, _, rfl⟩

theorem heard_plant_of {α : Type} (hpm : m ≠ .pm) (hgc : m ≠ .gc) (f : Plant → α)
    (hf : ∀ p sup pnl, f { p with sup := sup, pnl := pnl } = f p) (s : State) : f (heard s m).plant = f s.opened.plant := by
  obtain ⟨_, _, e⟩ := heard_plant_ports hpm hgc s
  rw [e]
  exact hf ..

/-- A record of a machine, while started: its effects on the state in which it is handled. -/
theorem event_record (hs : started s) (f : State → State) : s.event (fun s => s.record m f) = (f (heard s m)).settled := by
  have hs : ¬s.opened.ground.starting = true := by
    show ¬s.ground.starting = true
    rw [hs]
    exact Bool.false_ne_true
  show (if _ then _ else _ : State).settled = _
  rw [if_neg hs]
  rfl

theorem event_doneRecord {op : Op} (hs : started s) (hp : performs m op = true) (f : State → State) :
    s.event (fun s => s.doneRecord m op f) = (f (heard s m)).settled := by
  rw [show (fun s : State => s.doneRecord m op f) = fun s => s.record m fun s => if performs m op then f s else s from rfl,
    event_record hs, if_pos hp]

/-- The frame of a record's effects, for a machine whose contact does no more than raise a notice. -/
theorem Keeps.fill_of_heard {k : Kinds} {q : Plant} (hpm : m ≠ .pm) (hgc : m ≠ .gc) (h : Keeps k (heard s m).plant q) :
    q = k.fill q s.plant :=
  h.fill.trans (heard_plant_of hpm hgc (fun p => k.fill q p) (fun _ _ _ => rfl) s)

end

end Sys2Proof.Machine
end

section
/-! The charge (chapter 6): its end by both flags or by its timer, and the answer to an ask; and the service job's timer
(R106, R111, R113, R115 to R118). -/

namespace Sys2Proof.Machine

open Sys2Proof.Safety

/-! ## An oven whose accrual begins (R27, R132) -/

section
variable {g : Ground} {n : Nat} {p : Plant}

/-- The oven once its accrual has begun and its overdue timer is set. -/
theorem accrualBegun_oven (hp : p.hasOven n) :
    ∃ readiness overdue, (setOverdue g n (beginAccrual g n p)).oven n =
        { p.oven n with
          readiness := readiness
          overdue := overdue
          cold := !anyWallLive g n
          accrual := some { since := g.clock, rate := rateOf g n } } ∧
      (setOverdue g n (beginAccrual g n p)).hasOven n := by
  have begun := beginAccrual_touches g n p
  have timed := setOverdue_touches g n (beginAccrual g n p)
  have hp1 := begun.hasOven.2 hp
  have oven := timed.named hp1
  rw [begun.named hp] at oven
  exact ⟨_, _, oven, timed.hasOven.2 hp1⟩

theorem commandRegulate_oven (hp : p.hasOven n) :
    ∃ v, (commandRegulate g n p).oven n = { p.oven n with valve := v } ∧ v.mode = .regulate := by
  refine ⟨_, (commandRegulate_touches g n p).named hp, ?_⟩
  split
  · assumption
  · rfl

end

/-! ## The end of a charge (R117, R118) -/

section
variable {g : Ground} {c : Charge} {mass : Nat} {unconfirmed stopPm : Bool} {p : Plant}

/-- The oven's part of a charge's end. -/
def chargedOven (g : Ground) (n mass : Nat) (unconfirmed : Bool) (p : Plant) : Plant :=
  let p := changePhase g n .coking .chargeEnd (setTarget g n mass p)
  let p := if unconfirmed then p.modOven n fun o => { o with unconfirmed := true } else p
  commandRegulate g n (setOverdue g n (beginAccrual g n p))

/-- The charge record deleted, and PM told to stop where it still levels. -/
def chargeDeleted (stopPm : Bool) (p : Plant) : Plant :=
  let p : Plant := { p with charge := none }
  if stopPm then send .pm .stop p else p

theorem endCharge_eq (g : Ground) (c : Charge) (mass : Nat) (unconfirmed stopPm : Bool) (p : Plant) :
    endCharge g c mass unconfirmed stopPm p =
      releaseClaims g [.pm] true (chargeDeleted stopPm (chargedOven g c.oven mass unconfirmed p)) := rfl

theorem chargedOven_keeps {k : Kinds} {n : Nat} (h : k.has (Kind.ofPhase n)) (g : Ground) (mass : Nat) (unconfirmed : Bool)
    (p : Plant) : Keeps k p (chargedOven g n mass unconfirmed p) := by
  have h' := h.ovenOfPhase
  exact (setTarget_keeps h' g mass p).trans <| (changePhase_keeps h g _ _ _).trans <|
    Keeps.trans (.ite (fun _ => modOven_keeps h' (by exact fun _ => rfl) _) fun _ => .refl k _) <|
    (beginAccrual_keeps h' g _).trans <| (setOverdue_keeps h' g _).trans <| commandRegulate_keeps h' g _

/-- The oven of a charge that has ended. -/
structure Charged (g : Ground) (x : Nat) (marked : Bool) (o o' : Oven) : Prop where
  phase : o'.phase = .coking
  mass : o'.mass = clampMass g.params x
  target : o'.target = creditTarget g.params (clampMass g.params x) o.trim
  chargeEnd : o'.chargeEnd = some g.clock
  credit : o'.credit = 0
  unconfirmed : marked = true → o'.unconfirmed = true

theorem chargedOven_oven {n : Nat} (hp : p.hasOven n) (hph : (p.oven n).phase = .charging) :
    Charged g mass unconfirmed (p.oven n) ((chargedOven g n mass unconfirmed p).oven n) := by
  have targeted := setTarget_touches g n mass p
  have hp1 := targeted.hasOven.2 hp
  have charging : ((setTarget g n mass p).oven n).phase = .charging := by
    rw [targeted.named hp]
    exact hph
  have moves : Cause.chargeEnd.moves ((setTarget g n mass p).oven n).phase .coking = true := by rw [charging]; rfl
  have changed := changePhase_oven (g := g) hp1 moves (by decide) (by decide)
  have hp2 := (changePhase_touches (g := g) moves).hasOven.2 hp1
  rw [charging, targeted.named hp] at changed
  let q := changePhase g n .coking .chargeEnd (setTarget g n mass p)
  let r : Plant := if unconfirmed then q.modOven n fun o => { o with unconfirmed := true } else q
  have hr : r.hasOven n := by
    show (if unconfirmed then _ else _ : Plant).hasOven n
    split
    · exact Plant.modOven_hasOven.2 hp2
    · exact hp2
  have marked : r.oven n = { q.oven n with unconfirmed := unconfirmed || (q.oven n).unconfirmed } := by
    show (if unconfirmed then _ else _ : Plant).oven n = _
    cases unconfirmed with
    | true => exact Plant.modOven_oven_same hp2 _
    | false => rfl
  obtain ⟨_, _, begun, hp3⟩ := accrualBegun_oven (g := g) hr
  obtain ⟨v, regulated, -⟩ := commandRegulate_oven (g := g) hp3
  have last : (chargedOven g n mass unconfirmed p).oven n = _ := regulated
  rw [begun, marked, show q.oven n = _ from changed] at last
  rw [last]
  refine ⟨rfl, ?_, ?_, ?_, ?_, ?_⟩
  · simp [phaseFields]
  · simp [phaseFields]
  · simp [phaseFields]
  · simp [phaseFields]
  · simp +contextual

theorem chargeDeleted_keeps {k : Kinds} (h : k .charge = true) (stopPm : Bool) (p : Plant) :
    Keeps k p (chargeDeleted stopPm p) := by
  have deleted : Keeps k p { p with charge := none } := { charge := fun x => Kinds.clash h x }
  exact .ite (fun _ => deleted.trans (send_keeps ..)) fun _ => deleted

theorem releasePm_claim (g : Ground) (offered : Bool) (p : Plant) : (releaseClaims g [.pm] offered p).claimPm = .free := by
  have freed : (setClaim g .pm .free p).claimPm = .free := setClaim_claim g .pm .free p (.inl rfl)
  unfold releaseClaims
  dsimp only
  split
  · exact freed
  · exact freed

/-- What the end of a charge writes. -/
abbrev Kind.ofChargeEnd (n : Nat) : List Kind := .charge :: .claim .pm :: Kind.ofPhase n

/-- The end of a charge: the record gone, the oven in COKING, PM free, and nothing else (R117, R118). -/
structure ChargeEnded (g : Ground) (n x : Nat) (marked : Bool) (p q : Plant) : Prop where
  charge : q.charge = none
  free : q.claimPm = .free
  keeps : Keeps (.of (Kind.ofChargeEnd n)) p q
  oven : p.hasOven n → (p.oven n).phase = .charging → Charged g x marked (p.oven n) (q.oven n)

theorem ChargeEnded.raise {n x : Nat} {marked : Bool} {q : Plant} (h : ChargeEnded g n x marked p q) (b : NoticeBody) :
    ChargeEnded g n x marked p (Machine.raise g b q) where
  charge := h.charge
  free := h.free
  keeps := h.keeps.trans (raise_keeps ..)
  oven := h.oven

theorem ChargeEnded.oven_ne {n x : Nat} {marked : Bool} {q : Plant} (h : ChargeEnded g n x marked p q) {k : Nat} (hk : k ≠ n) :
    q.oven k = p.oven k := h.keeps.oven k (Kinds.of_eq_false (by simp [hk]))

theorem endCharge_ended (g : Ground) (c : Charge) (mass : Nat) (unconfirmed stopPm : Bool) (p : Plant) :
    ChargeEnded g c.oven mass unconfirmed p (endCharge g c mass unconfirmed stopPm p) := by
  have has : (Kinds.of (Kind.ofChargeEnd c.oven)).has (Kind.ofPhase c.oven) := Kinds.of_has (by simp)
  have first := chargedOven_keeps has g mass unconfirmed p
  have second := chargeDeleted_keeps (k := .of (Kind.ofChargeEnd c.oven)) (by simp [Kinds.of]) stopPm
    (chargedOven g c.oven mass unconfirmed p)
  have third := releasePm_keeps (k := .of (Kind.ofChargeEnd c.oven)) (by simp [Kinds.of]) g true
    (chargeDeleted stopPm (chargedOven g c.oven mass unconfirmed p))
  have deleted : (chargeDeleted stopPm (chargedOven g c.oven mass unconfirmed p)).charge = none := by
    unfold chargeDeleted
    dsimp only
    split <;> rfl
  rw [endCharge_eq]
  refine ⟨?_, releasePm_claim .., first.trans (second.trans third), fun hp hph => ?_⟩
  · exact ((releasePm_keeps (k := .of [.claim .pm]) (by simp [Kinds.of]) g true _).charge rfl).trans deleted
  · have same : (releaseClaims g [.pm] true (chargeDeleted stopPm (chargedOven g c.oven mass unconfirmed p))).oven c.oven =
        (chargedOven g c.oven mass unconfirmed p).oven c.oven :=
      (((chargeDeleted_keeps (k := .of [.charge, .claim .pm]) (by simp [Kinds.of]) stopPm _).trans
        (releasePm_keeps (by simp [Kinds.of]) g true _)).oven c.oven (by simp [Kinds.of]))
    rw [same]
    exact chargedOven_oven hp hph

end

/-! ## The two timers (R106, R118) -/

theorem chargeTimeout_due {g : Ground} {p : Plant} {c : Charge} {t : Time} (hc : p.charge = some c) (ht : c.timer = some t)
    (hdue : t ≤ g.clock) :
    chargeTimeout g p = raise g (.chargeTimeout c.oven c.ccEnd c.level c.mass)
      (endCharge g c g.params.mNom true c.level.isNone p) := by
  simp [chargeTimeout, hc, ht, Int.not_lt.2 hdue]

theorem jobTimeout_due {g : Ground} {side : Side} {p : Plant} {j : Job} {t : Time} (hj : (p.side side).job = some j)
    (ht : j.timer = some t) (hdue : t ≤ g.clock) : jobTimeout g side p = abandonJob g side .timeout p := by
  simp [jobTimeout, hj, ht, Int.not_lt.2 hdue]

theorem opened_side (s : State) (side : Side) : s.opened.plant.side side = s.plant.side side := by cases side <;> rfl

theorem releaseSide_claim (g : Ground) (side : Side) (offered : Bool) (p : Plant) :
    (releaseClaims g [sideMachine side] offered p).claim (sideMachine side) = .free := by
  have freed : (setClaim g (sideMachine side) .free p).claim (sideMachine side) = .free :=
    setClaim_claim g _ .free p (by cases side <;> simp [sideMachine])
  unfold releaseClaims
  dsimp only
  split
  · exact ((startAll_keeps (.of []) _ _).claim _ rfl).trans freed
  · exact freed

theorem closeJob_eq (g : Ground) (side : Side) (n : Nat) (p : Plant) :
    closeJob g side n p = rejudge g n side ((releaseClaims g [sideMachine side] true p).modSide side fun d => { d with job := none }) :=
  rfl

/-- A job closed leaves its side IDLE and its machine free. -/
theorem closeJob_idle (g : Ground) (side : Side) (n : Nat) (p : Plant) :
    ((closeJob g side n p).side side).job = none ∧ (closeJob g side n p).claim (sideMachine side) = .free := by
  have judged := rejudge_keeps (k := .of [.list side]) (side := side) (by simp [Kinds.of]) g n
    ((releaseClaims g [sideMachine side] true p).modSide side fun d => { d with job := none })
  rw [closeJob_eq]
  refine ⟨(judged.job side (by simp [Kinds.of])).trans (by rw [modSide_side_same]), ?_⟩
  refine (judged.claim _ (by simp [Kinds.of])).trans ?_
  have written := modSide_keeps_job (k := .of [.job side]) (side := side) (by simp [Kinds.of])
    (p := releaseClaims g [sideMachine side] true p) (f := fun d => { d with job := none }) ⟨rfl, rfl⟩
  exact (written.claim _ (by simp [Kinds.of])).trans (releaseSide_claim ..)

theorem abandonJob_of_job {g : Ground} {side : Side} {reason : WorkFault} {p : Plant} {j : Job} (hj : (p.side side).job = some j) :
    abandonJob g side reason p = start (.testJob side) (raise g (.doorFault j.oven side (.job j.state reason))
      (closeJob g side j.oven (send (sideMachine side) .stop p))) := by
  simp [abandonJob, hj]

/-- What an abandoned job leaves (R106). -/
theorem abandonJob_idle {g : Ground} {side : Side} {reason : WorkFault} {p : Plant} {j : Job} (hj : (p.side side).job = some j) :
    ((abandonJob g side reason p).side side).job = none ∧ (sideMachine side, ToMachine.stop) ∈ (abandonJob g side reason p).sent ∧
      (abandonJob g side reason p).claim (sideMachine side) = .free ∧
      Keeps (.of (Kind.ofJob side)) p (abandonJob g side reason p) := by
  obtain ⟨job, claim⟩ := closeJob_idle g side j.oven (send (sideMachine side) .stop p)
  have tail : ∀ q : Plant, Keeps (.of []) q (start (.testJob side) (raise g (.doorFault j.oven side (.job j.state reason)) q)) :=
    fun q => (raise_keeps ..).trans (start_keeps ..)
  have closed := closeJob_keeps (k := .of (Kind.ofJob side)) (Kinds.of_has (List.Subset.refl _)) g j.oven
    (send (sideMachine side) .stop p)
  have keeps := abandonJob_keeps (k := .of (Kind.ofJob side)) (Kinds.of_has (List.Subset.refl _)) g reason p
  rw [abandonJob_of_job hj] at keeps ⊢
  exact ⟨((tail _).job side rfl).trans job, (closed.sent.trans (tail _).sent).subset (by simp),
    ((tail _).claim _ rfl).trans claim, keeps⟩

/-- Settles O47: an abandoned job, and a charge's end by its timer. -/
theorem workTimersEndTheWork : Obligations.WorkTimersEndTheWork := by
  unfold Obligations.WorkTimersEndTheWork
  refine ⟨fun s side j t hj ht hdue => ?job, fun s c t hc ht hdue hp hph => ?charge⟩
  case job =>
    rw [← opened_side] at hj
    have due : jobTimeout s.ground side s.opened.plant = abandonJob s.ground side .timeout s.opened.plant :=
      jobTimeout_due hj ht hdue
    obtain ⟨job, sent, claim, keeps⟩ := abandonJob_idle (g := s.ground) (reason := .timeout) hj
    refine ⟨{ s.opened with plant := abandonJob s.ground side .timeout s.opened.plant },
      congrArg (fun q : Plant => Host.Outcome.next ({ s.opened with plant := q } : State).settled) due, rfl, job, sent, claim, ?_⟩
    exact (keeps.of_subset (l' := [.list .ps, .job .ps, .list .cs, .job .cs, .claim .pm, .claim .gc])
      (by cases side <;> simp [sideMachine])).fill
  case charge =>
    have due : chargeTimeout s.ground s.opened.plant = _ := chargeTimeout_due (p := s.opened.plant) hc ht hdue
    have ended := (endCharge_ended s.ground c s.ground.params.mNom true c.level.isNone s.opened.plant).raise
      (.chargeTimeout c.oven c.ccEnd c.level c.mass)
    rw [← due] at ended
    have oven := ended.oven hp hph
    exact ⟨s.opened.work fun g p => chargeTimeout g p, rfl, rfl, ended.charge, oven.phase, oven.unconfirmed rfl, oven.mass,
      oven.target, oven.chargeEnd, oven.credit, ended.free, fun k hk => ended.oven_ne hk, ended.keeps.ask (by simp [Kinds.of]),
      (ended.keeps.of_subset (l' := Kind.charge :: .ask :: .claim .pm :: .claim .gc :: Kind.ofPhase c.oven) (by simp)).fill⟩

/-! ## CHARGE END and LEVEL DONE (R116, R117) -/

section
variable {g : Ground} {n mass : Nat} {p : Plant} {c : Charge}

theorem completeCharge_of_not (hc : p.charge = some c) (h : (c.ccEnd && c.level.isSome) = false) : completeCharge g p = p := by
  simp [completeCharge, hc, h]

theorem completeCharge_ended (hc : p.charge = some c) (h1 : c.ccEnd = true) (h2 : c.level.isSome = true) :
    ChargeEnded g c.oven (c.mass.getD 0) false p (completeCharge g p) := by
  have made : completeCharge g p = raise g (.chargeDone c.oven c.mass
      ((endCharge g c (c.mass.getD 0) false false p).oven c.oven).mass
      ((endCharge g c (c.mass.getD 0) false false p).oven c.oven).target c.level) (endCharge g c (c.mass.getD 0) false false p) := by
    simp [completeCharge, hc, h1, h2]
  rw [made]
  exact (endCharge_ended ..).raise _

theorem chargeEndReport_stale (h : ∀ c, p.charge = some c → c.oven ≠ n) :
    chargeEndReport g n mass p = send .cc (.chargeNo .stale) p := by
  cases hc : p.charge with
  | none => simp [chargeEndReport, hc]
  | some c => simp [chargeEndReport, hc, h c hc]

theorem chargeEndReport_again (hc : p.charge = some c) (h : c.ccEnd = true) : chargeEndReport g c.oven mass p = p := by
  simp [chargeEndReport, hc, h]

theorem chargeEndReport_first (hc : p.charge = some c) (h : c.ccEnd = false) :
    chargeEndReport g c.oven mass p = completeCharge g { p with charge := some { c with ccEnd := true, mass := some mass } } := by
  simp [chargeEndReport, hc, h]

theorem levelDone_again (hc : p.charge = some c) (h : c.level ≠ none) : levelDone g c.oven p = p := by
  simp [levelDone, hc, h]

theorem levelDone_first (hc : p.charge = some c) (h : c.level = none) :
    levelDone g c.oven p = completeCharge g { p with charge := some { c with level := some .done } } := by
  simp [levelDone, hc, h]

end

section
variable {s : State} {n mass : Nat} {q : Plant}

theorem next_settled_of_calm {t : State} (h : t.plant.agenda = []) : (.next t.settled : Answer) = .next t :=
  congrArg Host.Outcome.next (State.settled_of_calm h)

/-- CHARGE END, by its effect on the state in which it is handled. -/
theorem exec_chargeEnd (hs : started s) (h : chargeEndReport (heard s .cc).ground n mass (heard s .cc).plant = q) :
    exec (.chargeEnd n mass) s = .next ({ heard s .cc with plant := q } : State).settled := by
  subst h
  exact congrArg Host.Outcome.next (event_record hs _)

/-- LEVEL DONE of PM, by its effect on the state in which it is handled. -/
theorem exec_levelDone (hs : started s) (h : levelDone (heard s .pm).ground n (heard s .pm).plant = q) :
    exec (.levelDone .pm n) s = .next ({ heard s .pm with plant := q } : State).settled := by
  subst h
  exact congrArg Host.Outcome.next (event_doneRecord hs rfl _)

end

/-- What a statement says of a charge's end, from the plant before the record was heard. -/
theorem ChargeEnded.statement {g : Ground} {n x : Nat} {c : Charge} {s : State} {p q : Plant} (h : ChargeEnded g n x false p q)
    (he : ∃ sup pnl, p = { s.opened.plant with sup := sup, pnl := pnl, charge := some c }) (hg : g.params = s.ground.params)
    (hclock : g.clock = s.ground.clock) (hp : holdsOven s n) (hph : (s.plant.oven n).phase = .charging) :
    q.charge = none ∧ (q.oven n).phase = .coking ∧ (q.oven n).mass = clampMass s.ground.params x ∧
      (q.oven n).target = creditTarget s.ground.params (clampMass s.ground.params x) (s.plant.oven n).trim ∧
      (q.oven n).chargeEnd = some s.ground.clock ∧ (q.oven n).credit = 0 ∧ q.claimPm = .free ∧
      (∀ k, k ≠ n → q.oven k = s.plant.oven k) ∧
      q = withTraffic q (withOvens q (withSides q (withClaims q (withCharge q s.plant)))) := by
  obtain ⟨sup, pnl, rfl⟩ := he
  have oven := h.oven hp hph
  rw [← hg, ← hclock]
  exact ⟨h.charge, oven.phase, oven.mass, oven.target, oven.chargeEnd, oven.credit, h.free, fun k hk => h.oven_ne hk,
    (h.keeps.of_subset (l' := Kind.charge :: .ask :: .claim .pm :: .claim .gc :: Kind.ofPhase n) (by simp)).fill⟩

/-- Settles O49: the two flags, and the charge's end by the second. -/
theorem chargeEndsWithBothFlags : Obligations.ChargeEndsWithBothFlags := by
  unfold Obligations.ChargeEndsWithBothFlags
  intro s n mass hs
  have same : (heard s .cc).plant.charge = s.plant.charge :=
    heard_plant_of (by decide) (by decide) (fun p => p.charge) (fun _ _ _ => rfl) s
  have calmCc : calm s → (heard s .cc).plant.agenda = [] := fun hc =>
    (heard_plant_of (by decide) (by decide) (fun p => p.agenda) (fun _ _ _ => rfl) s).trans hc
  have pm : s.ground.pm.online = true → (heard s .pm).plant = s.opened.plant := fun h => heard_plant h
  have calmPm : s.ground.pm.online = true → calm s → (heard s .pm).plant.agenda = [] := fun h hc => by rw [pm h]; exact hc
  refine ⟨fun h hc => ?stale, fun c hch hn hend hlevel hc => ?ccEnd, fun c hch hn hlevel hend hc hpm => ?level,
    fun c hch hn hc => ⟨fun hend => ?endAgain, fun hlevel hpm => ?levelAgain⟩, fun c hch hn hp hph =>
    ⟨fun hend hlevel => ?byEnd, fun hend hlevel hpm => ?byLevel⟩⟩
  case stale =>
    have made : chargeEndReport (heard s .cc).ground n mass (heard s .cc).plant = _ :=
      chargeEndReport_stale fun c hch => h c (same.symm.trans hch)
    exact (exec_chargeEnd hs made).trans (next_settled_of_calm (calmCc hc))
  case ccEnd =>
    subst hn
    have made : chargeEndReport (heard s .cc).ground c.oven mass (heard s .cc).plant = _ :=
      (chargeEndReport_first (same.trans hch) hend).trans (completeCharge_of_not rfl (by simp [hlevel]))
    exact (exec_chargeEnd hs made).trans (next_settled_of_calm (calmCc hc))
  case level =>
    subst hn
    have made : levelDone (heard s .pm).ground c.oven (heard s .pm).plant = _ :=
      (levelDone_first (by rw [pm hpm]; exact hch) hlevel).trans (completeCharge_of_not rfl (by simp [hend]))
    exact (exec_levelDone hs made).trans (next_settled_of_calm (calmPm hpm hc))
  case endAgain =>
    subst hn
    have made : chargeEndReport (heard s .cc).ground c.oven mass (heard s .cc).plant = (heard s .cc).plant :=
      chargeEndReport_again (same.trans hch) hend
    exact (exec_chargeEnd hs made).trans (next_settled_of_calm (calmCc hc))
  case levelAgain =>
    subst hn
    have made : levelDone (heard s .pm).ground c.oven (heard s .pm).plant = (heard s .pm).plant :=
      levelDone_again (by rw [pm hpm]; exact hch) hlevel
    exact (exec_levelDone hs made).trans (next_settled_of_calm (calmPm hpm hc))
  case byEnd =>
    subst hn
    have made : chargeEndReport (heard s .cc).ground c.oven mass (heard s .cc).plant = _ :=
      chargeEndReport_first (same.trans hch) hend
    have ended := completeCharge_ended (g := (heard s .cc).ground)
      (p := { (heard s .cc).plant with charge := some { c with ccEnd := true, mass := some mass } }) rfl rfl
      (Option.isSome_iff_ne_none.2 hlevel)
    obtain ⟨sup, pnl, e⟩ := heard_plant_ports (m := .cc) (by decide) (by decide) s
    obtain ⟨h1, h2, h3, h4, h5, h6, h7, h8, h9⟩ := ended.statement ⟨sup, pnl, by rw [e]⟩ (heard_params ..) (heard_clock ..) hp hph
    exact ⟨_, exec_chargeEnd hs made, h1, h2, h3, h4, h5, h6, h7, rfl, h8, h9⟩
  case byLevel =>
    subst hn
    have made : levelDone (heard s .pm).ground c.oven (heard s .pm).plant = _ :=
      levelDone_first (by rw [pm hpm]; exact hch) hlevel
    have ended := completeCharge_ended (g := (heard s .pm).ground)
      (p := { (heard s .pm).plant with charge := some { c with level := some .done } }) rfl hend rfl
    obtain ⟨h1, h2, h3, h4, h5, h6, h7, h8, h9⟩ := ended.statement ⟨_, _, by rw [pm hpm]⟩ (heard_params ..) (heard_clock ..) hp hph
    exact ⟨_, exec_levelDone hs made, h1, h2, h3, h4, h5, h6, h7, rfl, h8, h9⟩

end Sys2Proof.Machine
end

section
/-! The answer to a charge ask (R111, R113, R115). -/

namespace Sys2Proof.Machine

open Sys2Proof.Safety

section
variable {g : Ground} {n : Nat} {p : Plant}

theorem chargeAsked_of_no_ask (h : p.ask = none) : chargeAsked g n p = newAsk g n p := by
  simp [chargeAsked, h]

theorem dropAsk_of_no_ask (h : p.ask = none) : dropAsk g p = p := by
  simp [dropAsk, h]

/-- The ask as it is made. -/
def freshAsk (g : Ground) (n : Nat) (reason : ChargeReason) : Ask where
  oven := n
  since := g.clock
  reason := reason
  claimed := false

theorem newAsk_no {r : ChargeReason} (h : askAnswer g p n = .no r) : newAsk g n p = send .cc (.chargeNo r) p := by
  simp [newAsk, h]

theorem newAsk_wait {r : ChargeReason} (ha : p.ask = none) (h : askAnswer g p n = .wait r) :
    newAsk g n p = send .cc (.chargeWait r) { p with ask := some (freshAsk g n r) } := by
  simp [newAsk, h, dropAsk_of_no_ask ha, freshAsk]

theorem newAsk_clear (ha : p.ask = none) (h : askAnswer g p n = .clear) :
    newAsk g n p = prepareAsk g (freshAsk g n .preparing) p := by
  simp [newAsk, h, ha, dropAsk_of_no_ask ha, freshAsk]

/-- PM claimed for an ask and sent to its oven (R113). -/
def preparingAsk (g : Ground) (n : Nat) (p : Plant) : Plant :=
  { setClaim g .pm .charge p with ask := some { freshAsk g n .preparing with claimed := true } }

theorem newAsk_away (ha : p.ask = none) (h : askAnswer g p n = .clear) (away : g.atSpot .pm n = false) :
    newAsk g n p = send .cc (.chargeWait .preparing) (send .pm (.move n) (preparingAsk g n p)) := by
  rw [newAsk_clear ha h]
  simp [prepareAsk, freshAsk, preparingAsk, away]

theorem preparingAsk_keeps (g : Ground) (n : Nat) (p : Plant) : Keeps (.of [.ask, .claim .pm]) p (preparingAsk g n p) :=
  (setClaim_keeps (m := .pm) (by decide) g .charge p).trans { ask := fun x => Kinds.clash (by decide) x }

theorem prepareAsk_atSpot {a : Ask} (hc : a.claimed = false) (h : g.atSpot .pm a.oven = true) :
    prepareAsk g a p = beginCharge g a.oven (setClaim g .pm .charge p) := by
  simp [prepareAsk, hc, h]

/-- The oven in CHARGING, with its valve ASPIRATE. -/
theorem aspirated_oven (hp : p.hasOven n) (hph : (p.oven n).phase = .empty) :
    ((commandAspirate n (changePhase g n .charging .chargeGo p)).oven n).phase = .charging ∧
      ((p.oven n).valve.mode = .isolate →
        ((commandAspirate n (changePhase g n .charging .chargeGo p)).oven n).valve.mode = .aspirate ∧
          ((commandAspirate n (changePhase g n .charging .chargeGo p)).oven n).valve.position = some 1000) := by
  have moves : Cause.chargeGo.moves (p.oven n).phase .charging = true := by rw [hph]; rfl
  have changed := changePhase_oven (g := g) hp moves (by decide) (by decide)
  have aspirated := (commandAspirate_touches n (changePhase g n .charging .chargeGo p)).named
    ((changePhase_touches moves).hasOven.2 hp)
  rw [changed] at aspirated
  rw [aspirated]
  refine ⟨rfl, fun h => ?_⟩
  simp [phaseFields, h]

end

theorem exec_chargeAsk {s : State} (hs : started s) {n : Nat} {q : Plant}
    (h : chargeAsked (heard s .cc).ground n (heard s .cc).plant = q) :
    exec (.chargeAsk n) s = .next ({ heard s .cc with plant := q } : State).settled := by
  subst h
  exact congrArg Host.Outcome.next (event_record hs _)

/-- R111's table, row by row. -/
theorem askAnswer_eq (g : Ground) (p : Plant) (n : Nat) :
    askAnswer g p n =
      (if g.params.ovenCount = none then .no .unconfigured
      else if n = 0 ∨ g.count < n then .no .range
      else if p.charge ≠ none then .no .chargeActive
      else if (p.oven n).phase ≠ .empty then .no .notEmpty
      else if (g.door n .ps).state ≠ .pressed ∨ (g.door n .cs).state ≠ .pressed then .no .door
      else if (p.oven n).service = .outOfService then .no .outOfService
      else if g.inRange n = true then .no .maintRange
      else if g.cc.position ≠ some n ∨ g.cc.moving = true then .no .position
      else if g.runState ≠ .running then .wait .runState
      else if g.mainNode.online = false then .wait .mainNode
      else if (g.ovenNode n).online = false then .wait .ovenNode
      else if g.pm.online = false then .wait .pmOffline
      else if p.claimPm ≠ .free ∧ p.claimPm ≠ .charge then .wait .pmBusy
      else .clear) := by
  unfold askAnswer
  refine if_congr ?_ rfl (if_congr ?_ rfl (if_congr ?_ rfl (if_congr Iff.rfl rfl (if_congr ?_ rfl (if_congr Iff.rfl rfl
    (if_congr Iff.rfl rfl (if_congr ?_ rfl (if_congr ?_ rfl (if_congr ?_ rfl (if_congr ?_ rfl (if_congr ?_ rfl ?_)))))))))))
  · simp [Ground.configured]
  · simp [Ground.isOven]
  · simp [Option.isSome_iff_ne_none]
  · simp [bothPressed]
  · have e : g.atSpot .cc n = (decide (g.cc.position = some n) && !g.cc.moving) := rfl
    simp [e, or_iff_not_imp_left]
  · simp [Ground.running]
  · simp
  · simp
  · simp
  · cases p.claimPm <;> simp

/-- CC's record changes nothing that the answer to an ask is read from. -/
theorem askAnswer_heard (s : State) (n : Nat) :
    askAnswer (heard s .cc).ground (heard s .cc).plant n = askAnswer s.ground s.plant n := by
  obtain ⟨sup, pnl, e⟩ := heard_plant_ports (m := .cc) (by decide) (by decide) s
  have plants : ∀ g, askAnswer g (heard s .cc).plant n = askAnswer g s.plant n := fun g => by rw [e]; rfl
  rw [plants, heard_ground, askAnswer_eq, askAnswer_eq]
  rfl

/-- Nothing of the table stands in the way only of an oven in EMPTY. -/
theorem phase_of_clear {g : Ground} {p : Plant} {n : Nat} (h : askAnswer g p n = .clear) : (p.oven n).phase = .empty := by
  by_contra he
  rw [askAnswer_eq] at h
  split_ifs at h

section
variable {g : Ground} {n : Nat} {p : Plant}

/-- What the start of a charge writes. -/
abbrev Kind.ofCharge (n : Nat) : List Kind := .charge :: .ask :: .claim .pm :: .claim .gc :: Kind.ofPhase n

/-- The charge record of a charge that begins (R115). -/
def newCharge (g : Ground) (n : Nat) : Charge where
  oven := n
  start := g.clock
  ccEnd := false
  mass := none
  level := none
  timer := some (g.clock + (g.params.tCharge : Int))
  remaining := none
  suspended := false

/-- The charge record in place of the ask. -/
def chargeRecorded (g : Ground) (n : Nat) (p : Plant) : Plant := { p with charge := some (newCharge g n), ask := none }

/-- The oven in CHARGING, CC told to go and PM to level. -/
def chargeGone (g : Ground) (n : Nat) (p : Plant) : Plant :=
  send .pm (.step .level n) (send .cc (.chargeGo n) (commandAspirate n (changePhase g n .charging .chargeGo p)))

theorem beginCharge_eq (g : Ground) (n : Nat) (p : Plant) : beginCharge g n p = chargeGone g n (chargeRecorded g n p) := rfl

theorem chargeGone_keeps (g : Ground) (n : Nat) (p : Plant) : Keeps (.of (Kind.ofPhase n)) p (chargeGone g n p) :=
  (changePhase_keeps (Kinds.of_has (List.Subset.refl _)) g _ _ p).trans
    ((commandAspirate_keeps (Kinds.of_has (List.Subset.refl _)).ovenOfPhase _).trans ((send_keeps ..).trans (send_keeps ..)))

/-- A charge begins with PM claimed for it (R115). -/
structure ChargeBegun (g : Ground) (n : Nat) (p q : Plant) : Prop where
  charge : q.charge = some (newCharge g n)
  ask : q.ask = none
  claim : q.claimPm = p.claimPm
  claimGc : q.claimGc = p.claimGc
  go : (Machine.cc, ToMachine.chargeGo n) ∈ q.sent
  level : (Machine.pm, ToMachine.step .level n) ∈ q.sent
  keeps : Keeps (.of (Kind.ofCharge n)) p q
  oven : p.hasOven n → (p.oven n).phase = .empty → (q.oven n).phase = .charging ∧
    ((p.oven n).valve.mode = .isolate → (q.oven n).valve.mode = .aspirate ∧ (q.oven n).valve.position = some 1000)

theorem beginCharge_begun (g : Ground) (n : Nat) (p : Plant) : ChargeBegun g n p (beginCharge g n p) := by
  have keeps := beginCharge_keeps (k := .of (Kind.ofCharge n)) (Kinds.of_has (by simp)) (n := n) (Kinds.of_has (by simp)) g p
  have tail := chargeGone_keeps g n (chargeRecorded g n p)
  rw [beginCharge_eq] at keeps ⊢
  exact
    { charge := tail.charge rfl
      ask := tail.ask rfl
      claim := tail.claim .pm rfl
      claimGc := tail.claim .gc rfl
      go := by simp [chargeGone, send]
      level := by simp [chargeGone, send]
      keeps := keeps
      oven := fun hp hph => aspirated_oven (g := g) (n := n) (p := chargeRecorded g n p) hp hph }

end

/-- Settles O48: R111's table and what each of its rows leaves. -/
theorem chargeAskIsAnswered : Obligations.ChargeAskIsAnswered := by
  unfold Obligations.ChargeAskIsAnswered
  intro s n hs ha
  have ask : (heard s .cc).plant.ask = none :=
    (heard_plant_of (by decide) (by decide) (fun p => p.ask) (fun _ _ _ => rfl) s).trans ha
  have calmCc : calm s → (heard s .cc).plant.agenda = [] := fun hc =>
    (heard_plant_of (by decide) (by decide) (fun p => p.agenda) (fun _ _ _ => rfl) s).trans hc
  have charge : (heard s .cc).plant.charge = s.plant.charge :=
    heard_plant_of (by decide) (by decide) (fun p => p.charge) (fun _ _ _ => rfl) s
  have claimGc : (heard s .cc).plant.claimGc = s.plant.claimGc :=
    heard_plant_of (by decide) (by decide) (fun p => p.claimGc) (fun _ _ _ => rfl) s
  have oven : ∀ k, (heard s .cc).plant.oven k = s.plant.oven k := fun k =>
    heard_plant_of (by decide) (by decide) (fun p => p.oven k) (fun _ _ _ => rfl) s
  have asked := chargeAsked_of_no_ask (g := (heard s .cc).ground) (n := n) ask
  have clock := heard_clock s .cc
  refine ⟨fun r h hc => ?no, fun r h hc => ?wait, (askAnswer_heard s n).trans (askAnswer_eq ..), fun h away => ?away,
    fun h atSpot hp => ?atSpot⟩
  case no => exact (exec_chargeAsk hs (asked.trans (newAsk_no h))).trans (next_settled_of_calm (calmCc hc))
  case wait =>
    rw [← clock]
    exact (exec_chargeAsk hs (asked.trans (newAsk_wait ask h))).trans (next_settled_of_calm (calmCc hc))
  case away =>
    have made := asked.trans (newAsk_away ask h away)
    have keeps := (preparingAsk_keeps (heard s .cc).ground n (heard s .cc).plant).trans
      ((send_keeps _ .pm (.move n) _).trans (send_keeps _ .cc (.chargeWait .preparing) _))
    refine ⟨_, exec_chargeAsk hs made, rfl, setClaim_claim _ .pm .charge _ (.inl rfl), ?_, (keeps.charge (by decide)).trans charge,
      by simp [send], by simp [send], (keeps.claim .gc (by decide)).trans claimGc,
      (keeps.of_subset (l' := [.charge, .ask, .claim .pm, .claim .gc]) (by simp)).fill_of_heard (by decide) (by decide)⟩
    rw [← clock]
    rfl
  case atSpot =>
    have made := asked.trans ((newAsk_clear ask h).trans (prepareAsk_atSpot rfl atSpot))
    have claimed := setClaim_keeps (k := .of [.claim .pm]) (m := .pm) (by decide) (heard s .cc).ground .charge
      (heard s .cc).plant
    have begun := beginCharge_begun (heard s .cc).ground n (setClaim (heard s .cc).ground .pm .charge (heard s .cc).plant)
    have keeps := (claimed.of_subset (l' := Kind.ofCharge n) (by simp)).trans begun.keeps
    have ovens := claimed.table (by decide)
    have held : (setClaim (heard s .cc).ground .pm .charge (heard s .cc).plant).hasOven n :=
      (Touches.of_ovens (n := n) (ovens.trans
        (heard_plant_of (by decide) (by decide) (fun p => p.ovens) (fun _ _ _ => rfl) s))).hasOven.2 hp
    have same : (setClaim (heard s .cc).ground .pm .charge (heard s .cc).plant).oven n = s.plant.oven n :=
      (Plant.oven_congr ovens n).trans (oven n)
    have phase : (s.plant.oven n).phase = .empty := by
      rw [← oven n]
      exact phase_of_clear h
    obtain ⟨charging, valve⟩ := begun.oven held (same ▸ phase)
    rw [same] at valve
    refine ⟨_, exec_chargeAsk hs made, rfl, ?_, begun.ask, charging, begun.claim.trans (setClaim_claim _ .pm .charge _ (.inl rfl)),
      valve, begun.go, begun.level, fun k hk => ?_, ?_, keeps.fill_of_heard (by decide) (by decide)⟩
    · rw [← clock, ← heard_params s .cc]
      exact begun.charge
    · exact (keeps.oven k (Kinds.of_eq_false (by simp [hk]))).trans (oven k)
    · exact begun.claimGc.trans ((claimed.claim .gc (by decide)).trans claimGc)

end Sys2Proof.Machine
end

section
/-! SUPPORT. What a ticket's end leaves: the oven that returns or is emptied, the car let go, the claims freed, the catch-up list
and the push log (R48, R78, R79, R149). -/

namespace Sys2Proof.Machine

open Sys2Proof.Safety

/-! ## An oven that returns to READY or COKING (R27, R30) -/

section
variable {g : Ground} {n : Nat} {p : Plant} {cause : Cause}

/-- The oven that returned, by the readiness test of what it had accrued. -/
structure Returned (g : Ground) (n : Nat) (o o' : Oven) : Prop where
  phase : o'.phase = if readinessTest g (accrueOven g.clock o) then .ready else .coking
  target : o'.target = o.target
  chargeEnd : o'.chargeEnd = o.chargeEnd
  credit : o'.credit = (accrueOven g.clock o).credit
  accrual : o'.accrual = some { since := g.clock, rate := rateOf g n }

theorem Returned.phase_or {o o' : Oven} (h : Returned g n o o') : o'.phase = .ready ∨ o'.phase = .coking := by
  rw [h.phase]
  split
  · exact .inl rfl
  · exact .inr rfl

theorem Returned.withValve {o o' : Oven} (h : Returned g n o o') (v : Valve) : Returned g n o { o' with valve := v } where
  phase := h.phase
  target := h.target
  chargeEnd := h.chargeEnd
  credit := h.credit
  accrual := h.accrual

/-- The phase change of a return. -/
def returnPhase (g : Ground) (n : Nat) (cause : Cause) (p : Plant) : Plant :=
  if readinessTest g (p.oven n) then becomeReady g n cause p else changePhase g n .coking cause p

theorem returnOven_eq (g : Ground) (n : Nat) (cause : Cause) (p : Plant) :
    returnOven g n cause p = setOverdue g n (beginAccrual g n (returnPhase g n cause (accrue g n p))) := rfl

theorem returnPhase_oven (hp : p.hasOven n) (hr : cause.moves (p.oven n).phase .ready = true)
    (hc : cause.moves (p.oven n).phase .coking = true) :
    (returnPhase g n cause p).hasOven n ∧ (returnPhase g n cause p).oven n =
      phaseFields g.clock (p.oven n).phase (if readinessTest g (p.oven n) then .ready else .coking)
        (accrueOven g.clock (p.oven n)) := by
  unfold returnPhase
  split
  · exact ⟨(Touches.of_ovens (n := n) (becomeReady_ovens ..)).hasOven.2 ((changePhase_touches hr).hasOven.2 hp),
      (Plant.oven_congr (becomeReady_ovens ..) n).trans (changePhase_oven hp hr (by decide) (by decide))⟩
  · exact ⟨(changePhase_touches hc).hasOven.2 hp, changePhase_oven hp hc (by decide) (by decide)⟩

theorem returnOven_oven (hp : p.hasOven n) (hr : cause.moves (p.oven n).phase .ready = true)
    (hc : cause.moves (p.oven n).phase .coking = true) (hcharging : (p.oven n).phase ≠ .charging) :
    (returnOven g n cause p).hasOven n ∧ Returned g n (p.oven n) ((returnOven g n cause p).oven n) := by
  have accrued : (accrue g n p).oven n = accrueOven g.clock (p.oven n) := accrue_oven_same hp g
  have phase : ((accrue g n p).oven n).phase = (p.oven n).phase := by rw [accrued, accrueOven_phase]
  obtain ⟨hq, oven⟩ := returnPhase_oven (g := g) ((accrue_touches g n p).hasOven.2 hp) (phase.symm ▸ hr) (phase.symm ▸ hc)
  obtain ⟨_, _, begun, hp'⟩ := accrualBegun_oven (g := g) hq
  rw [phase, accrued, accrueOven_again] at oven
  rw [returnOven_eq, begun, oven]
  have ne : (if readinessTest g (accrueOven g.clock (p.oven n)) then Phase.ready else .coking) ≠ .empty := by
    split <;> decide
  exact ⟨hp', rfl, by simp [phaseFields], by simp [phaseFields, hcharging, ne], by simp [phaseFields, hcharging, ne], rfl⟩

end

/-! ## A car's binding (R149) -/

section
variable {g : Ground} {c : Car}

theorem arrive_bound (g : Ground) (c : Car) (x : Nat) (p : Plant) : ((arrive g c x p).car c).bound = (p.car c).bound := by
  unfold arrive
  dsimp only
  split
  · split <;> simp
  · simp
  · split <;> simp
  · simp

theorem requestTarget_bound (g : Ground) (c : Car) (x : Nat) (p : Plant) :
    ((requestTarget g c x p).car c).bound = (p.car c).bound := by
  unfold requestTarget
  dsimp only
  split
  · simp
  · split
    · split
      · rw [arrive_bound]
        simp
      · simp
    · simp

theorem runToTower_bound (g : Ground) (c : Car) (p : Plant) : ((runToTower g c p).car c).bound = (p.car c).bound := by
  unfold runToTower
  rw [requestTarget_bound]
  simp

theorem startRun_bound (g : Ground) (c : Car) (n : Nat) (p : Plant) : ((startRun g c n p).car c).bound = (p.car c).bound := by
  unfold startRun
  dsimp only
  split
  · simp
  · split
    · rw [requestTarget_bound]
      simp
    · rfl

theorem bindCar_bound (g : Ground) (c : Car) (num n : Nat) (p : Plant) : ((bindCar g c num n p).car c).bound = some num := by
  unfold bindCar
  dsimp only
  split
  · rw [startRun_bound]
    simp
  · simp

theorem unbindCar_bound (g : Ground) (c : Car) (faultHeld : Bool) (p : Plant) :
    ((unbindCar g c faultHeld p).car c).bound = none := by
  have hot : ∀ q : Plant, ((runToTower g c (setHot g c q)).car c).bound = (q.car c).bound := fun q => by
    rw [runToTower_bound]
    simp [setHot]
  have free : ∀ q : Plant, ((if bindable q c then start .evaluate q else q).car c).bound = (q.car c).bound := fun q => by
    split
    · simp
    · rfl
  have unbound : ((p.modCar c fun r => { r with bound := none }).car c).bound = none := by simp
  unfold unbindCar
  dsimp only
  generalize p.modCar c (fun r => { r with bound := none }) = q at *
  split
  · rw [free, unbound]
  · rw [free, unbound]
  · rw [free, unbound]
  · split
    · rw [hot, unbound]
    · split
      · exact unbound
      · simp [unbound]
  · split
    · rw [hot, unbound]
    · simp [unbound]
  · rw [runToTower_bound]
    split
    · exact unbound
    · simp [setHot, unbound]
  · exact unbound

theorem endBinding_bound {t : Ticket} (h : t.car = some c) (g : Ground) (faultHeld : Bool) (p : Plant) :
    ((endBinding g t faultHeld p).car c).bound = none := by
  rw [endBinding, h]
  exact unbindCar_bound ..

end

/-! ## Claims (R166, R167) -/

/-- PM and GC are free once released. -/
theorem releaseBoth_claims (g : Ground) (offered : Bool) (p : Plant) :
    (releaseClaims g [.pm, .gc] offered p).claimPm = .free ∧ (releaseClaims g [.pm, .gc] offered p).claimGc = .free := by
  have gc : (setClaim g .gc .free (setClaim g .pm .free p)).claimGc = .free := setClaim_claim g .gc .free _ (.inr rfl)
  have pm : (setClaim g .gc .free (setClaim g .pm .free p)).claimPm = .free :=
    ((setClaim_keeps (k := .of [.claim .gc]) (m := .gc) (by decide) g .free _).claim .pm rfl).trans
      (setClaim_claim g .pm .free p (.inl rfl))
  unfold releaseClaims
  dsimp only
  split
  · exact ⟨pm, gc⟩
  · exact ⟨pm, gc⟩

theorem ticketFreed_claims {p : Plant} {num : Nat} (h : p.claimPm = .ticket num) (g : Ground) (how : EarlyEnd) :
    (ticketFreed g num how p).claimPm = .free ∧ (ticketFreed g num how p).claimGc = .free := by
  rw [ticketFreed, if_pos h]
  exact releaseBoth_claims ..

theorem ticketFreed_of_ne {p : Plant} {num : Nat} (h : p.claimPm ≠ .ticket num) (g : Ground) (how : EarlyEnd) :
    ticketFreed g num how p = p := by
  rw [ticketFreed, if_neg h]

theorem sendStops_pair_sent (p : Plant) :
    (Machine.pm, ToMachine.stop) ∈ (sendStops [.pm, .gc] p).sent ∧ (Machine.gc, ToMachine.stop) ∈ (sendStops [.pm, .gc] p).sent := by
  simp [sendStops, send]

theorem ticketFreed_sent {p : Plant} {num : Nat} (h : p.claimPm = .ticket num) (g : Ground) {how : EarlyEnd} (hh : how ≠ .restart) :
    (Machine.pm, ToMachine.stop) ∈ (ticketFreed g num how p).sent ∧
      (Machine.gc, ToMachine.stop) ∈ (ticketFreed g num how p).sent := by
  obtain ⟨pm, gc⟩ := sendStops_pair_sent p
  have sent := (releaseClaims_keeps (k := .of Kind.bothClaims) (Kinds.of_has (List.Subset.refl _)).bothClaims g
    (decide (how ≠ .restart)) (sendStops [.pm, .gc] p)).sent.subset
  rw [ticketFreed, if_pos h, if_neg hh]
  exact ⟨sent pm, sent gc⟩

/-! ## The catch-up list (R48) -/

/-- The catch-up list with an early-aborted oven at its head. -/
def headInserted (g : Ground) (n : Nat) (l : List CatchupEntry) : List CatchupEntry :=
  if g.inRange n = true ∨ (∃ e ∈ l, e.oven = n) then l
  else { oven := n, reason := .aborted, joined := g.clock } :: (if 8 ≤ l.length then l.dropLast else l)

theorem insertHead_catchup (g : Ground) (n : Nat) (p : Plant) : (insertHead g n p).catchup = headInserted g n p.catchup := by
  unfold insertHead headInserted
  by_cases hr : g.inRange n = true
  · simp [hr]
  · by_cases hl : p.catchup.any (fun e => e.oven = n) = true
    · rw [if_neg hr, if_pos hl, if_pos (.inr (by simpa using hl))]
    · have out : ¬(g.inRange n = true ∨ ∃ e ∈ p.catchup, e.oven = n) := by
        simpa [hr] using hl
      rw [if_neg hr, if_neg hl, if_neg out]
      dsimp only
      split
      · rename_i hfull
        cases hlast : p.catchup.getLast? with
        | some e => rfl
        | none =>
          rw [List.getLast?_eq_none_iff] at hlast
          rw [hlast] at hfull
          cases hfull
      · rfl

/-! ## Retirement -/

/-- What a ticket's service writes: the ticket list, its oven's phase and its car. -/
abbrev Kind.ofTicket (t : Ticket) : List Kind := .tickets :: Kind.ofPhase t.oven ++ (t.car.elim [] Kind.ofCar)

theorem Kind.ofTicket_subset (t : Ticket) : Kind.ofTicket t ⊆ .tickets :: Kind.ofPhase t.oven ++ Kind.ofTrack := by
  unfold Kind.ofTicket
  cases t.car with
  | none => simp
  | some c => cases c <;> simp

theorem Kinds.serves_of {l : List Kind} {p : Plant} {t : Ticket} {num : Nat} (ht : p.ticket? num = some t)
    (hl : Kind.ofTicket t ⊆ l) : (Kinds.of l).Serves p num where
  tickets := decide_eq_true (hl (by simp))
  phase x hx := by
    cases ht.symm.trans hx
    exact (Kinds.of_has hl).sub (by simp)
  car x hx c hc := by
    cases ht.symm.trans hx
    exact (Kinds.of_has hl).sub (by simp [hc])

/-- The kinds of a retirement, and of an abort. -/
abbrev Kind.ofRetirement (t : Ticket) : List Kind := Kind.ofTicket t ++ Kind.ofAbort

theorem Kind.ofRetirement_subset (t : Ticket) :
    Kind.ofRetirement t ⊆ .tickets :: Kind.ofPhase t.oven ++ Kind.ofTrack ++ Kind.ofAbort := by
  have := Kind.ofTicket_subset t
  intro x hx
  rw [List.mem_append] at hx ⊢
  exact hx.imp_left fun h => this h

section
variable {g : Ground} {t : Ticket} {p q : Plant}

theorem Keeps.oven_ne (h : Keeps (.of (Kind.ofRetirement t)) p q) {k : Nat} (hk : k ≠ t.oven) : q.oven k = p.oven k :=
  (h.of_subset (Kind.ofRetirement_subset t)).oven k (Kinds.of_eq_false (by simp [hk]))

theorem Keeps.otherCar (h : Keeps (.of (Kind.ofRetirement t)) p q) {c : Car} (hc : t.car = some c) :
    q.car (otherCar c) = p.car (otherCar c) :=
  h.car _ (Kinds.of_eq_false (by simp [hc]))

/-- What an early retirement leaves (R78, R84). -/
structure RetiredEarly (g : Ground) (t : Ticket) (how : EarlyEnd) (reason : AbortReason) (p q : Plant) : Prop where
  tickets : q.tickets = p.tickets.filter fun x => x.number ≠ t.number
  log : q.log = (earlyRecord g p t how reason :: p.log).take 64
  oven : p.hasOven t.oven → (p.oven t.oven).phase = .ticketed →
    Returned g t.oven (p.oven t.oven) (q.oven t.oven) ∧ (q.oven t.oven).valve.mode = .regulate
  unbound : ∀ c, t.car = some c → (q.car c).bound = none
  freed : p.claimPm = .ticket t.number → q.claimPm = .free ∧ q.claimGc = .free
  stopped : p.claimPm = .ticket t.number → how ≠ .restart →
    (Machine.pm, ToMachine.stop) ∈ q.sent ∧ (Machine.gc, ToMachine.stop) ∈ q.sent
  claims : p.claimPm ≠ .ticket t.number → q.claimPm = p.claimPm ∧ q.claimGc = p.claimGc
  catchup : q.catchup = if how = .abort then headInserted g t.oven p.catchup else p.catchup
  keeps : Keeps (.of (Kind.ofRetirement t)) p q

theorem ticketReturned_oven (hp : p.hasOven t.oven) (hph : (p.oven t.oven).phase = .ticketed) :
    Returned g t.oven (p.oven t.oven) ((ticketReturned g t p).oven t.oven) ∧
      ((ticketReturned g t p).oven t.oven).valve.mode = .regulate := by
  obtain ⟨hp', returned⟩ := returnOven_oven (g := g) (cause := .ticketReturn) hp (by rw [hph]; rfl) (by rw [hph]; rfl)
    (by rw [hph]; decide)
  obtain ⟨v, regulated, mode⟩ := commandRegulate_oven (g := g) hp'
  have bound := (endBinding_keeps (k := .of Kind.ofTrack) (t := t) (fun c _ => (Kinds.of_has (List.Subset.refl _)).ofTrack c)
    g false (commandRegulate g t.oven (returnOven g t.oven .ticketReturn p))).oven t.oven (by simp [Kinds.of])
  rw [ticketReturned, bound, regulated]
  exact ⟨returned.withValve v, mode⟩

/-- The last part of an early retirement, from the claims on. -/
def earlyTail (g : Ground) (t : Ticket) (how : EarlyEnd) (reason : AbortReason) (r : LogRecord) (p : Plant) : Plant :=
  startAll retirementTasks (raise g (earlyNotice t t.number how reason)
    (writeLog r (if how = .abort then insertHead g t.oven p else p)))

theorem earlyTail_keeps (g : Ground) (t : Ticket) (how : EarlyEnd) (reason : AbortReason) (r : LogRecord) (p : Plant) :
    Keeps (.of [.catchup, .log]) p (earlyTail g t how reason r p) :=
  Keeps.trans (.ite (fun _ => insertHead_keeps (by simp [Kinds.of]) g _ _) fun _ => .refl _ _) <|
    (writeLog_keeps (by simp [Kinds.of]) _ _).trans <| (raise_keeps ..).trans (startAll_keeps ..)

theorem earlyTail_catchup (g : Ground) (t : Ticket) (how : EarlyEnd) (reason : AbortReason) (r : LogRecord) (p : Plant) :
    (earlyTail g t how reason r p).catchup = if how = .abort then headInserted g t.oven p.catchup else p.catchup := by
  have tail : ∀ q : Plant, (startAll retirementTasks (raise g (earlyNotice t t.number how reason) (writeLog r q))).catchup =
      q.catchup := fun q =>
    ((writeLog_keeps (k := .of [.log]) (by simp [Kinds.of]) r q).trans ((raise_keeps ..).trans (startAll_keeps ..))).catchup rfl
  rw [earlyTail, tail]
  split
  · exact insertHead_catchup ..
  · rfl

theorem earlyTail_log (g : Ground) (t : Ticket) (how : EarlyEnd) (reason : AbortReason) (r : LogRecord) (p : Plant) :
    (earlyTail g t how reason r p).log = (r :: p.log).take 64 := by
  have listed : (if how = .abort then insertHead g t.oven p else p).log = p.log :=
    (Keeps.ite (k := .of [.catchup]) (fun _ => insertHead_keeps (by simp [Kinds.of]) g _ _) fun _ => .refl _ _).log rfl
  refine (((raise_keeps ..).trans (startAll_keeps (.of []) _ _)).log rfl).trans ?_
  rw [writeLog, listed]

theorem retireEarly_retired (ht : p.ticket? t.number = some t) (how : EarlyEnd) (reason : AbortReason) :
    RetiredEarly g t how reason p (retireEarly g t.number how reason p) := by
  have keeps := retireEarly_keeps (k := .of (Kind.ofRetirement t)) (how := how) (Kinds.serves_of ht (List.subset_append_left ..))
    (by simp [Kinds.of]) (fun _ => Kinds.of_has (by simp)) (fun _ => by simp [Kinds.of]) g reason
  have e : retireEarly g t.number how reason p = earlyTail g t how reason (earlyRecord g p t how reason)
      (ticketFreed g t.number how (ticketReturned g t (dropTicket t.number p))) := retireEarly_eq ht how reason
  have dropped := dropTicket_keeps (k := .of [.tickets]) (by simp [Kinds.of]) t.number p
  have returned := ticketReturned_keeps (k := .of (Kind.ofPhase t.oven ++ Kind.ofTrack)) (t := t) (Kinds.of_has (by simp))
    (fun c _ => (Kinds.of_has (by simp)).ofTrack c) g (dropTicket t.number p)
  have claims : ∀ m, (ticketReturned g t (dropTicket t.number p)).claim m = p.claim m := fun m => ticketReturned_claim ..
  have freed := ticketFreed_keeps (k := .of Kind.bothClaims) (p := ticketReturned g t (dropTicket t.number p)) (num := t.number)
    (fun _ => Kinds.of_has (List.Subset.refl _)) g how
  have tail := earlyTail_keeps g t how reason (earlyRecord g p t how reason)
    (ticketFreed g t.number how (ticketReturned g t (dropTicket t.number p)))
  rw [e] at keeps ⊢
  exact
    { tickets := (tail.tickets rfl).trans ((freed.tickets rfl).trans (returned.tickets (by simp [Kinds.of])))
      log := by
        rw [earlyTail_log, freed.log rfl, returned.log (by simp [Kinds.of])]
        rfl
      oven := fun hp hph => by
        have same : (dropTicket t.number p).oven t.oven = p.oven t.oven := rfl
        rw [tail.oven _ (by simp [Kinds.of]), freed.oven _ (by simp [Kinds.of]), ← same]
        exact ticketReturned_oven hp hph
      unbound := fun c hc => by
        rw [tail.car _ (by simp [Kinds.of]), freed.car _ (by simp [Kinds.of])]
        exact endBinding_bound hc ..
      freed := fun h => by
        obtain ⟨pm, gc⟩ := ticketFreed_claims (p := ticketReturned g t (dropTicket t.number p)) ((claims .pm).trans h) g how
        exact ⟨(tail.claim .pm rfl).trans pm, (tail.claim .gc rfl).trans gc⟩
      stopped := fun h hh => by
        obtain ⟨pm, gc⟩ := ticketFreed_sent (p := ticketReturned g t (dropTicket t.number p)) ((claims .pm).trans h) g hh
        exact ⟨tail.sent.subset pm, tail.sent.subset gc⟩
      claims := fun h => by
        have same := ticketFreed_of_ne (p := ticketReturned g t (dropTicket t.number p))
          (fun h' => h ((claims .pm).symm.trans h')) g how
        rw [same] at tail ⊢
        exact ⟨(tail.claim .pm rfl).trans (claims .pm), (tail.claim .gc rfl).trans (claims .gc)⟩
      catchup := by
        rw [earlyTail_catchup, freed.catchup rfl, returned.catchup (by simp [Kinds.of])]
        rfl
      keeps := keeps }

/-! ## The entry to FAULT_HELD (R79) -/

/-- What an entry to FAULT_HELD leaves. -/
structure Held (g : Ground) (t : Ticket) (reason : AbortReason) (p q : Plant) : Prop where
  ticket : q.ticket? t.number = some (heldTicket g reason t)
  stopped : (Machine.pm, ToMachine.stop) ∈ q.sent ∧ (Machine.gc, ToMachine.stop) ∈ q.sent
  oven : p.hasOven t.oven → (p.oven t.oven).phase = .opening ∨ (p.oven t.oven).phase = .pushing ∨
    (p.oven t.oven).phase = .closing → (q.oven t.oven).phase = .pushFault
  unbound : ∀ c, t.car = some c → (q.car c).bound = none
  keeps : Keeps (.of (Kind.ofTicket t)) p q

theorem holdTicket_held (ht : p.ticket? t.number = some t) (reason : AbortReason) :
    Held g t reason p (holdTicket g t.number reason p) := by
  have keeps := holdTicket_keeps (k := .of (Kind.ofTicket t)) (Kinds.serves_of ht (List.Subset.refl _)) g reason
  have held : (p.modTicket t.number (heldTicket g reason)).ticket? t.number = some (heldTicket g reason t) :=
    Plant.ticket?_modTicket_of_some ht fun _ => rfl
  have told := raise_keeps (.of []) g (.ticketStep t.number t.oven .faultHeld g.clock false)
    (p.modTicket t.number (heldTicket g reason))
  have stopped := sendStops_keeps (.of []) [.pm, .gc]
    (raise g (.ticketStep t.number t.oven .faultHeld g.clock false) (p.modTicket t.number (heldTicket g reason)))
  obtain ⟨pm, gc⟩ := sendStops_pair_sent
    (raise g (.ticketStep t.number t.oven .faultHeld g.clock false) (p.modTicket t.number (heldTicket g reason)))
  rw [holdTicket_eq ht] at keeps ⊢
  generalize hq : sendStops [.pm, .gc]
    (raise g (.ticketStep t.number t.oven .faultHeld g.clock false) (p.modTicket t.number (heldTicket g reason))) = q at *
  have changed := changePhase_keeps (k := .of (Kind.ofPhase t.oven)) (Kinds.of_has (List.Subset.refl _)) g .pushFault .faultHold q
  have unbound := endBinding_keeps (k := .of Kind.ofTrack) (t := t) (fun c _ => (Kinds.of_has (List.Subset.refl _)).ofTrack c)
    g true (changePhase g t.oven .pushFault .faultHold q)
  have last := raise_keeps (.of []) g
    (.pushFault t.number t.oven t.state reason t.ram (g.door t.oven .ps).state (g.door t.oven .cs).state)
    (endBinding g t true (changePhase g t.oven .pushFault .faultHold q))
  have tail := (changed.of_subset (l' := Kind.ofPhase t.oven ++ Kind.ofTrack) (by simp)).trans
    ((unbound.of_subset (by simp)).trans (last.of_subset (by simp)))
  have ovens : q.ovens = p.ovens := (stopped.table rfl).trans (told.table rfl)
  exact
    { ticket := by
        rw [Plant.ticket?_congr (tail.tickets (by simp [Kinds.of])), Plant.ticket?_congr (stopped.tickets rfl),
          Plant.ticket?_congr (told.tickets rfl), held]
      stopped := ⟨tail.sent.subset pm, tail.sent.subset gc⟩
      oven := fun hp hph => by
        rw [← Plant.oven_congr ovens] at hph
        have moves : Cause.faultHold.moves (q.oven t.oven).phase .pushFault = true := by
          rcases hph with h | h | h <;> rw [h] <;> rfl
        have hq : q.hasOven t.oven := (Touches.of_ovens (n := t.oven) ovens).hasOven.2 hp
        rw [last.oven _ rfl, unbound.oven _ (by simp [Kinds.of]), changePhase_oven hq moves (by decide) (by decide)]
        rfl
      unbound := fun c hc => by
        rw [last.car _ rfl]
        exact endBinding_bound hc ..
      keeps := keeps }

theorem abortTicket_early (ht : p.ticket? t.number = some t) (hs : t.state ≠ .faultHeld) (he : t.extractSent = false)
    (reason : AbortReason) : abortTicket g t.number reason p = retireEarly g t.number .abort reason p := by
  simp [abortTicket, ht, hs, he]

theorem abortTicket_late (ht : p.ticket? t.number = some t) (hs : t.state ≠ .faultHeld) (he : t.extractSent = true)
    (reason : AbortReason) : abortTicket g t.number reason p = holdTicket g t.number reason p := by
  simp [abortTicket, ht, hs, he]

/-- What an abort leaves (R77 to R79). -/
structure Aborted (g : Ground) (t : Ticket) (reason : AbortReason) (p q : Plant) : Prop where
  early : t.extractSent = false → RetiredEarly g t .abort reason p q
  late : t.extractSent = true → Held g t reason p q
  keeps : Keeps (.of (Kind.ofRetirement t)) p q

theorem abortTicket_aborted (ht : p.ticket? t.number = some t) (hs : t.state ≠ .faultHeld) (reason : AbortReason) :
    Aborted g t reason p (abortTicket g t.number reason p) where
  early he := by
    rw [abortTicket_early ht hs he]
    exact retireEarly_retired ht .abort reason
  late he := by
    rw [abortTicket_late ht hs he]
    exact holdTicket_held ht reason
  keeps := abortTicket_keeps (Kinds.serves_of ht (List.subset_append_left ..)) (Kinds.of_has (by simp)) g reason

/-! ## A complete retirement (R75) -/

theorem mem_startAll {ts : List Task} {task : Task} (h : task ∈ ts) (p : Plant) : task ∈ (startAll ts p).agenda := by
  induction ts generalizing p with
  | nil => cases h
  | cons x ts ih =>
    rw [List.mem_cons] at h
    obtain rfl | h := h
    · exact (startAll_keeps (.of []) ts (start task p)).agenda ((insertTask_perm task p.agenda).mem_iff.2 (by simp))
    · exact ih h (start x p)

/-- The follow-up events of a release of both machines. -/
theorem releaseBoth_agenda (g : Ground) (p : Plant) :
    ∀ task ∈ [Task.offerTicket, .recheckAsk, .testJob .ps, .testJob .cs], task ∈ (releaseClaims g [.pm, .gc] true p).agenda :=
  fun _ h => mem_startAll h _

/-- What a complete retirement leaves. -/
structure Completed (g : Ground) (t : Ticket) (p q : Plant) : Prop where
  tickets : q.tickets = p.tickets.filter fun x => x.number ≠ t.number
  log : q.log = (logRecordOf g p t .complete none :: p.log).take 64
  oven : p.hasOven t.oven → (p.oven t.oven).phase = .closing → q.oven t.oven =
    { phaseFields g.clock .closing .empty (accrueOven g.clock (p.oven t.oven)) with
      dwell := some (g.clock + (g.params.emptyLimit : Int)) }
  unbound : ∀ c, t.car = some c → (q.car c).bound = none
  free : q.claimPm = .free ∧ q.claimGc = .free
  agenda : ∀ task ∈ [Task.offerTicket, .recheckAsk, .testJob .ps, .testJob .cs, .evaluate], task ∈ q.agenda
  keeps : Keeps (.of (Kind.ofRetirement t)) p q

theorem completeTicket_completed (ht : p.ticket? t.number = some t) : Completed g t p (completeTicket g t.number p) := by
  have keeps := completeTicket_keeps (k := .of (Kind.ofRetirement t)) (Kinds.serves_of ht (List.subset_append_left ..)) (by simp [Kinds.of])
    (Kinds.of_has (by simp)) g
  rw [completeTicket_eq ht] at keeps ⊢
  have changed := changePhase_keeps (k := .of (Kind.ofPhase t.oven)) (Kinds.of_has (List.Subset.refl _)) g .empty .ticketComplete
    (dropTicket t.number p)
  have unbound := endBinding_keeps (k := .of Kind.ofTrack) (t := t) (fun c _ => (Kinds.of_has (List.Subset.refl _)).ofTrack c)
    g false (changePhase g t.oven .empty .ticketComplete (dropTicket t.number p))
  generalize hu : endBinding g t false (changePhase g t.oven .empty .ticketComplete (dropTicket t.number p)) = u at *
  have freed := releaseClaims_keeps (k := .of Kind.bothClaims) (Kinds.of_has (List.Subset.refl _)).bothClaims g true u
  have logged := writeLog_keeps (k := .of [.log]) (by simp [Kinds.of]) (logRecordOf g p t .complete none)
    (releaseClaims g [.pm, .gc] true u)
  have last := (raise_keeps (.of []) g (.ticketEnd t.number t.oven .complete)
    (writeLog (logRecordOf g p t .complete none) (releaseClaims g [.pm, .gc] true u))).trans (startAll_keeps _ retirementTasks _)
  have before := (changed.of_subset (l' := Kind.ofPhase t.oven ++ Kind.ofTrack) (by simp)).trans (unbound.of_subset (by simp))
  have tail := (freed.of_subset (l' := .log :: Kind.bothClaims) (by simp)).trans
    ((logged.of_subset (by simp)).trans (last.of_subset (by simp)))
  have tail' := (logged.of_subset (l' := [.log]) (by simp)).trans (last.of_subset (by simp))
  obtain ⟨pm, gc⟩ := releaseBoth_claims g true u
  exact
    { tickets := (tail.tickets rfl).trans (before.tickets (by simp [Kinds.of]))
      log := by
        rw [last.log rfl, writeLog, freed.log rfl, before.log (by simp [Kinds.of])]
        rfl
      oven := fun hp hph => by
        have moves : Cause.ticketComplete.moves ((dropTicket t.number p).oven t.oven).phase .empty = true := by
          rw [show ((dropTicket t.number p).oven t.oven).phase = .closing from hph]
          rfl
        have same : (dropTicket t.number p).oven t.oven = p.oven t.oven := rfl
        rw [tail.oven _ rfl, unbound.oven _ (by simp [Kinds.of]),
          changePhase_oven_empty (p := dropTicket t.number p) hp moves, same, hph]
      unbound := fun c hc => by
        rw [tail.car _ rfl, ← hu]
        exact endBinding_bound hc ..
      free := ⟨(logged.claim .pm rfl).trans pm, (logged.claim .gc rfl).trans gc⟩
      agenda := fun task h => by
        have released := releaseBoth_agenda g u
        simp only [List.mem_cons, List.not_mem_nil, or_false] at h
        obtain rfl | rfl | rfl | rfl | rfl := h
        · exact tail'.agenda (released _ (by simp))
        · exact tail'.agenda (released _ (by simp))
        · exact tail'.agenda (released _ (by simp))
        · exact tail'.agenda (released _ (by simp))
        · exact mem_startAll (by simp [retirementTasks]) _
      keeps := keeps }

end

end Sys2Proof.Machine
end

section
/-! The push sequencer's timers (R67, R72, R73, R77 to R79). -/

namespace Sys2Proof.Machine

open Sys2Proof.Safety

section
variable {g : Ground} {t : Ticket} {p q : Plant}

theorem enterStep_ticket {num : Nat} (ht : p.ticket? num = some t) (g : Ground) (st : TicketState) (w : Waits) :
    (enterStep g num st w p).ticket? num = some
      { t with
        state := st
        waits := w
        entry := g.clock
        timer := if t.suspended then none else some (g.clock + (stepTime g.params st : Int)) } := by
  unfold enterStep
  rw [ht]
  exact Plant.ticket?_modTicket_of_some ht fun _ => rfl

/-! ## The entry to PUSHING (R42, R73) -/

/-- The ticket in PUSHING. -/
def pushingTicket (g : Ground) (t : Ticket) : Ticket :=
  { t with
    state := .pushing
    waits := { Waits.none with pm := .waiting (.step .ramAdvance), car := .waiting .load }
    entry := g.clock
    timer := some (g.clock + (g.params.tRam : Int))
    pushStart := some g.clock
    pacingWait := none }

/-- The push start recorded in the ticket. -/
def startedTicket (g : Ground) (t : Ticket) : Ticket := { t with pushStart := some g.clock, pacingWait := none }

/-- What a push writes. -/
abbrev Kind.ofPush (n : Nat) : List Kind := .tickets :: .pacing :: Kind.ofPhase n

/-- What the entry to PUSHING leaves. -/
structure Pushed (g : Ground) (t : Ticket) (p q : Plant) : Prop where
  ticket : q.ticket? t.number = some (pushingTicket g t)
  lastPush : q.lastPushStart = some g.clock
  sent : (Machine.pm, ToMachine.step .ramAdvance t.oven) ∈ q.sent
  oven : p.hasOven t.oven → (p.oven t.oven).phase = .opening → (q.oven t.oven).phase = .pushing
  keeps : Keeps (.of (Kind.ofPush t.oven)) p q

/-- The last push start recorded, with what follows from it (R42). -/
def pushStarted (g : Ground) (wasOpen : Bool) (p : Plant) : Plant :=
  announceWindow wasOpen g (setPacing g { p with lastPushStart := some g.clock })

theorem setPacing_lastPush (g : Ground) (p : Plant) : (setPacing g p).lastPushStart = p.lastPushStart := by
  unfold setPacing
  split
  · rfl
  · dsimp only
    split <;> rfl

theorem pushStarted_lastPush (g : Ground) (wasOpen : Bool) (p : Plant) :
    (pushStarted g wasOpen p).lastPushStart = some g.clock :=
  ((announceWindow_keeps (.of []) ..).lastPush rfl).trans (setPacing_lastPush ..)

theorem pushStarted_keeps (g : Ground) (wasOpen : Bool) (p : Plant) : Keeps (.of [.pacing]) p (pushStarted g wasOpen p) :=
  (setPushStart_keeps (by decide) _ p).trans ((setPacing_keeps (by decide) g _).trans (announceWindow_keeps ..))

theorem enterPushing_eq (g : Ground) (num : Nat) (t : Ticket) (p : Plant) :
    enterPushing g num t p = changePhase g t.oven .pushing .enterPushing (pushStarted g (windowOpen g p)
      ((send .pm (.step .ramAdvance t.oven) (enterStep g num .pushing
        { Waits.none with pm := .waiting (.step .ramAdvance), car := .waiting .load } p)).modTicket num (startedTicket g))) := rfl

theorem enterPushing_pushed (ht : p.ticket? t.number = some t) (hs : t.suspended = false) :
    Pushed g t p (enterPushing g t.number t p) := by
  have keeps := enterPushing_keeps (k := .of (Kind.ofPush t.oven)) (t := t) (by simp [Kinds.of]) (by simp [Kinds.of])
    (Kinds.of_has (by simp)) g t.number p
  rw [enterPushing_eq] at keeps ⊢
  have entered := enterStep_keeps (k := .of [.tickets]) (by decide) g t.number .pushing
    { Waits.none with pm := .waiting (.step .ramAdvance), car := .waiting .load } p
  have ticket := enterStep_ticket ht g .pushing { Waits.none with pm := .waiting (.step .ramAdvance), car := .waiting .load }
  generalize enterStep g t.number .pushing { Waits.none with pm := .waiting (.step .ramAdvance), car := .waiting .load } p = e at *
  have sent := send_keeps (.of [.tickets]) .pm (.step .ramAdvance t.oven) e
  have told : (send .pm (.step .ramAdvance t.oven) e).ticket? t.number = e.ticket? t.number := rfl
  have mem : (Machine.pm, ToMachine.step .ramAdvance t.oven) ∈ (send .pm (.step .ramAdvance t.oven) e).sent := by simp [send]
  generalize send .pm (.step .ramAdvance t.oven) e = r at *
  have written := modTicket_keeps (k := .of [.tickets]) (by decide) t.number (startedTicket g) r
  have ticket' : (r.modTicket t.number (startedTicket g)).ticket? t.number = some (pushingTicket g t) := by
    rw [Plant.ticket?_modTicket_of_some (f := startedTicket g) (told.trans ticket) fun _ => rfl]
    simp [pushingTicket, startedTicket, hs, stepTime]
  generalize r.modTicket t.number (startedTicket g) = u at *
  have started := pushStarted_keeps g (windowOpen g p) u
  have lastPush := pushStarted_lastPush g (windowOpen g p) u
  generalize pushStarted g (windowOpen g p) u = v at *
  have changed := changePhase_keeps (k := .of (Kind.ofPhase t.oven)) (Kinds.of_has (List.Subset.refl _)) g .pushing .enterPushing v
  have before := entered.trans (sent.trans written)
  have table : v.ovens = p.ovens := (started.table rfl).trans (before.table rfl)
  exact
    { ticket := by
        rw [Plant.ticket?_congr (changed.tickets (by simp [Kinds.of])), Plant.ticket?_congr (started.tickets rfl), ticket']
      lastPush := (changed.lastPush (by simp [Kinds.of])).trans lastPush
      sent := changed.sent.subset (started.sent.subset (written.sent.subset mem))
      oven := fun hp hph => by
        rw [← Plant.oven_congr table] at hph
        have moves : Cause.enterPushing.moves (v.oven t.oven).phase .pushing = true := by rw [hph]; rfl
        rw [changePhase_oven ((Touches.of_ovens (n := t.oven) table).hasOven.2 hp) moves (by decide) (by decide)]
        rfl
      keeps := keeps }

theorem pacingWaitReached_due {w : Time} (ht : p.ticket? t.number = some t) (hst : t.state = .guiding)
    (hs : t.suspended = false) (hw : t.pacingWait = some w) (hdue : w ≤ g.clock) :
    pacingWaitReached g t.number p = enterPushing g t.number t p := by
  simp [pacingWaitReached, ht, hst, hw, hs, Int.not_lt.2 hdue]

/-- The frame of a push, of another oven. -/
theorem Keeps.push_oven_ne {n : Nat} (h : Keeps (.of (Kind.ofPush n)) p q) {k : Nat} (hk : k ≠ n) : q.oven k = p.oven k :=
  h.oven k (Kinds.of_eq_false (by simp [hk]))

end

/-- Settles O43: the entry to PUSHING at a pacing wait due. -/
theorem pacingWaitBeginsThePush : Obligations.PacingWaitBeginsThePush := by
  unfold Obligations.PacingWaitBeginsThePush
  intro s t w ht hp hst hs hw hdue
  have due : pacingWaitReached s.ground t.number s.opened.plant = _ := pacingWaitReached_due (p := s.opened.plant) ht.1 hst hs hw hdue
  have pushed := enterPushing_pushed (g := s.ground) (p := s.opened.plant) ht.1 hs
  rw [← due] at pushed
  exact ⟨s.opened.work fun g p => pacingWaitReached g t.number p, rfl, rfl, pushed.ticket, pushed.lastPush, pushed.sent,
    pushed.oven hp, fun k hk => pushed.keeps.push_oven_ne hk, pushed.keeps.log (by simp [Kinds.of]),
    (pushed.keeps.of_subset (l' := .counter :: .log :: Kind.ofPush t.oven) (by simp)).fill⟩

/-! ## The step timer (R67, R77 to R79) -/

theorem stepReached_due {g : Ground} {t : Ticket} {p : Plant} {e : Time} (ht : p.ticket? t.number = some t)
    (hm : t.timer = some e) (hdue : e ≤ g.clock) :
    stepReached g t.number p = abortTicket g t.number (.timeout t.state t.waits.outstanding) p := by
  simp [stepReached, ht, hm, Int.not_lt.2 hdue]

/-- What only retirements and aborts write, for a statement's frame. -/
abbrev Kind.ofRetirements (n : Nat) : List Kind :=
  .tickets :: .counter :: .log :: .cursor :: .catchup :: .latch :: .claim .pm :: .claim .gc :: Kind.ofPhase n ++ Kind.ofTrack

theorem Kind.ofRetirement_subset_all (t : Ticket) : Kind.ofRetirement t ⊆ Kind.ofRetirements t.oven := by
  refine List.Subset.trans (Kind.ofRetirement_subset t) ?_
  simp

/-- Settles O44: an abort by the step timer, before and past EXTRACT. -/
theorem stepTimerAbortsTheTicket : Obligations.StepTimerAbortsTheTicket := by
  unfold Obligations.StepTimerAbortsTheTicket
  intro s t e ht hm hdue hs
  have due : stepReached s.ground t.number s.opened.plant = _ := stepReached_due (p := s.opened.plant) ht.1 hm hdue
  have aborted := abortTicket_aborted (g := s.ground) (p := s.opened.plant) ht.1 hs (.timeout t.state t.waits.outstanding)
  rw [← due] at aborted
  refine ⟨s.opened.work fun g p => stepReached g t.number p, rfl, rfl, fun he => ?early, fun he => ?late,
    fun k hk => aborted.keeps.oven_ne hk, (aborted.keeps.of_subset (Kind.ofRetirement_subset_all t)).fill⟩
  case early =>
    have early := aborted.early he
    refine ⟨early.tickets, ⟨_, early.log, rfl, rfl, rfl⟩, fun hp hph => ?oven, fun c hc => ⟨early.unbound c hc, ?car⟩, fun h => ?freed,
      early.claims, ?cursor, ?latch, early.catchup⟩
    case oven =>
      obtain ⟨returned, mode⟩ := early.oven hp hph
      refine ⟨?_, returned.target, returned.chargeEnd, fun a ha => ?_, returned.accrual, mode⟩
      · have test := readinessTest_accrueOven s.ground (s.opened.plant.oven t.oven)
        rw [← returned.target, ← returned.credit] at test
        exact returned.phase.trans (if_congr test rfl rfl)
      · refine returned.credit.trans ?_
        rw [opened_oven, accrueOven_of_some ha]
    case car => exact (early.keeps.otherCar hc).trans (opened_car ..)
    case freed =>
      obtain ⟨pm, gc⟩ := early.freed h
      obtain ⟨spm, sgc⟩ := early.stopped h (by decide)
      exact ⟨pm, gc, spm, sgc⟩
    case cursor => exact (early.keeps.of_subset (Kind.ofRetirement_subset t)).cursor (by simp [Kinds.of])
    case latch => exact (early.keeps.of_subset (Kind.ofRetirement_subset t)).latch (by simp [Kinds.of])
  case late =>
    have late := aborted.late he
    have keeps := late.keeps.of_subset (Kind.ofTicket_subset t)
    refine ⟨congrArg (Option.map _) late.ticket, late.stopped.1, late.stopped.2, late.oven, keeps.log (by simp [Kinds.of]),
      keeps.claim .pm (by simp [Kinds.of]), keeps.claim .gc (by simp [Kinds.of]), keeps.catchup (by simp [Kinds.of])⟩

end Sys2Proof.Machine
end

section
/-! The requests on tickets: TICKET CANCEL, RELEASE and PUSH NOW (R55, R57, R58, R82 to R84). -/

namespace Sys2Proof.Machine

open Sys2Proof.Safety

/-! ## TICKET CANCEL (R84) -/

section
variable {s s₀ : State} {port : Port} {tag : Byte} {r : Request} {num : Nat} {t : Ticket}

/-- A request that names a ticket of an oven its port may change comes to the checks of its own. -/
theorem firstRefusal_ticket (ht : takes s port tag r s₀) (hw : working s) (hnum : num ≠ 0) (htick : s.plant.ticket? num = some t)
    (hauth : ¬(port = .sup ∧ s.ground.inRange t.oven = true)) (ok : TicketState → Bool) :
    firstRefusal [whileStarting s₀, unlessConfigured s₀, ⟨num = 0, .range, .number⟩, ticketUnknown s₀ num,
      ticketAuthority s₀ port num, ticketNotIn s₀ num ok] =
        if ok t.state then none else some (.refused .state .ticketState) := by
  obtain ⟨hstarting, hconfigured⟩ := working_of_takes ht hw
  have ground := ground_of_takes ht
  rw [ground] at hstarting hconfigured
  have authority : (decide (port = .sup) && s.ground.inRange t.oven) = false := by
    rw [Bool.and_eq_false_imp]
    exact fun hp => Bool.eq_false_iff.2 fun h => hauth ⟨of_decide_eq_true hp, h⟩
  simp [whileStarting, unlessConfigured, ticketUnknown, ticketAuthority, ticketNotIn, hstarting, hconfigured, hnum,
    ticket?_of_takes ht, htick, ground, authority]
  cases ok t.state <;> rfl

/-- A request that names a number of no ticket. -/
theorem firstRefusal_ticketUnknown (ht : takes s port tag r s₀) (hw : working s) (hnum : num ≠ 0)
    (htick : s.plant.ticket? num = none) (rest : List Check) :
    firstRefusal (whileStarting s₀ :: unlessConfigured s₀ :: ⟨num = 0, .range, .number⟩ :: ticketUnknown s₀ num :: rest) =
      some (.refused .state .ticketUnknown) := by
  obtain ⟨hstarting, hconfigured⟩ := working_of_takes ht hw
  simp [whileStarting, unlessConfigured, ticketUnknown, hstarting, hconfigured, hnum, ticket?_of_takes ht, htick]

end

/-- What a cancelled ticket writes, for a statement's frame. -/
abbrev Kind.ofCancel (n : Nat) : List Kind :=
  .tickets :: .counter :: .log :: .claim .pm :: .claim .gc :: Kind.ofPhase n ++ Kind.ofTrack

/-- A retirement that lists no oven leaves the catch-up list alone. -/
theorem retireEarly_keeps_catchup {p : Plant} {t : Ticket} (ht : p.ticket? t.number = some t) {how : EarlyEnd} (h : how ≠ .abort)
    (g : Ground) (reason : AbortReason) : Keeps (.of (Kind.ofCancel t.oven)) p (retireEarly g t.number how reason p) :=
  retireEarly_keeps (Kinds.serves_of ht (List.Subset.trans (Kind.ofTicket_subset t) (by simp))) (by simp [Kinds.of])
    (fun _ => Kinds.of_has (by simp)) (fun e => absurd e h) g reason

/-- Settles O35: an early retirement that lists no oven, and the two refusals. -/
theorem ticketCancelRetiresTheTicket : Obligations.TicketCancelRetiresTheTicket := by
  unfold Obligations.TicketCancelRetiresTheTicket
  intro s s₀ port tag num hw hnum ht
  have ground := ground_of_takes ht
  refine ⟨fun t htick hearly hauth => ?cancel, fun hnone => refused_of_takes ht (firstRefusal_ticketUnknown ht hw hnum hnone _),
    fun t htick hlate hauth => refused_of_takes ht (by rw [firstRefusal_ticket ht hw hnum htick hauth, hlate]; rfl)⟩
  obtain rfl : t.number = num := (Plant.ticket?_eq_some htick).2
  have htick₀ := (ticket?_of_takes ht t.number).trans htick
  have retired := retireEarly_retired (g := s₀.ground) htick₀ .cancel .cancelRequest
  have keeps := retireEarly_keeps_catchup htick₀ (by decide : EarlyEnd.cancel ≠ .abort) s₀.ground .cancelRequest
  have before : ∀ {α : Type} (f : Plant → α), (∀ p sup pnl sent, f { p with sup := sup, pnl := pnl, sent := sent } = f p) →
      f s₀.plant = f s.plant := fun f hf => plant_of_takes ht f hf
  refine ⟨s₀.work fun g p => retireEarly g t.number .cancel .cancelRequest p, _, accepted_of_takes_eq ht
      (by rw [firstRefusal_ticket ht hw hnum htick hauth, hearly]; rfl) rfl, ground, ?tickets, ?log, fun hp hph => ?oven,
      fun h => ?freed, fun k hk => ?other, ?counter, keeps.fill_of_takes ht⟩
  case tickets => exact retired.tickets.trans (congrArg _ (before (fun p => p.tickets) fun _ _ _ _ => rfl))
  case log =>
    refine ⟨earlyRecord s₀.ground s₀.plant t .cancel .cancelRequest, retired.log.trans ?_, rfl, rfl, rfl, rfl,
      congrArg (fun g => g.clock) ground⟩
    rw [before (fun p => p.log) fun _ _ _ _ => rfl]
  case oven =>
    exact (retired.oven (hasOven_of_takes ht hp) ((congrArg (fun o => o.phase) (oven_of_takes ht _)).trans hph)).1.phase_or
  case freed => exact retired.freed ((before (fun p => p.claimPm) fun _ _ _ _ => rfl).trans h)
  case other => exact (retired.keeps.oven_ne hk).trans (oven_of_takes ht k)
  case counter =>
    exact ((retired.keeps.of_subset (Kind.ofRetirement_subset t)).counter (by simp [Kinds.of])).trans
      (before (fun p => p.nextTicket) fun _ _ _ _ => rfl)

/-! ## RELEASE (R82, R83) -/

section
variable {s : State} {n : Nat} {side : Side}

/-- A door made HUNG. -/
theorem hangDoor_door (h : holdsDoors s n) (k : Nat) (other : Side) :
    (k = n → other = side → ((s.hangDoor n side).ground.door k other).state = .hung) ∧
      (¬(k = n ∧ other = side) → (s.hangDoor n side).ground.door k other = s.ground.door k other) := by
  unfold State.hangDoor
  dsimp only
  split
  · rename_i hung
    refine ⟨fun hk ho => ?_, fun _ => rfl⟩
    subst hk ho
    exact hung
  · have e : ∀ d, (s.putDoor n side d).ground.door k other = if k = n ∧ other = side then d else s.ground.door k other :=
      fun d => Ground.setDoor_door side d h k other
    rw [e]
    refine ⟨fun hk ho => ?_, fun hk => if_neg hk⟩
    rw [if_pos ⟨hk, ho⟩]

theorem hangDoor_holdsDoors (h : holdsDoors s n) : holdsDoors (s.hangDoor n side) n := by
  unfold State.hangDoor
  dsimp only
  split
  · exact h
  · obtain ⟨h1, h2⟩ := h
    exact ⟨h1, h2.trans (length_updateNumbered ..).ge⟩

/-- What a door made HUNG writes. -/
theorem hangDoor_keeps {k : Kinds} (hl : k (.list side) = true)
    (h : ∀ a, s.plant.ask = some a → a.oven = n → k.has Kind.ofAsk ∧ k.has (Kind.ofPhase n)) :
    Keeps k s.plant (s.hangDoor n side).plant := by
  unfold State.hangDoor
  dsimp only
  split
  · exact .refl ..
  · exact doorChanged_keeps hl h ..

end

/-- A released ticket's oven goes over. -/
def releasedPhase (t : Ticket) (full : Bool) (g : Ground) (p : Plant) : Plant :=
  if full then returnOven g t.oven .clearedFull (dropTicket t.number p)
  else changePhase g t.oven .empty .clearedEmpty (dropTicket t.number p)

/-- Both doors of an oven made HUNG. -/
def State.hangBoth (s : State) (n : Nat) : State := (s.hangDoor n .ps).hangDoor n .cs

/-- The record of a released ticket (R83). -/
def releaseRecord (s : State) (t : Ticket) (full : Bool) : LogRecord :=
  logRecordOf s.ground s.plant t (if full then .releasedFull else .releasedEmpty) t.reason

/-- A released ticket, stage by stage. -/
def State.released (s : State) (t : Ticket) (full : Bool) : State :=
  ((s.work (releasedPhase t full)).hangBoth t.oven).work (releaseEnd t full (releaseRecord s t full))

theorem releaseTicket_eq {s : State} {t : Ticket} (h : s.plant.ticket? t.number = some t) (outcome : ReleaseOutcome) :
    releaseTicket t.number outcome s =
      (s.released t (outcome = .clearedFull),
        .released t.number outcome ((s.released t (outcome = .clearedFull)).plant.oven t.oven).phase) := by
  unfold releaseTicket
  rw [h]
  rfl

section
variable {s : State} {t : Ticket} {full : Bool} {n : Nat} {g : Ground} {p : Plant}

theorem releasedPhase_keeps (t : Ticket) (full : Bool) (g : Ground) (p : Plant) :
    Keeps (.of (Kind.ofPhase t.oven)) (dropTicket t.number p) (releasedPhase t full g p) :=
  .ite (fun _ => returnOven_keeps (Kinds.of_has (List.Subset.refl _)) g _ _)
    fun _ => changePhase_keeps (Kinds.of_has (List.Subset.refl _)) g _ _ _

theorem releasedPhase_phase (hp : p.hasOven t.oven) (hph : (p.oven t.oven).phase = .pushFault) :
    (full = false → ((releasedPhase t full g p).oven t.oven).phase = .empty) ∧
      (full = true → ((releasedPhase t full g p).oven t.oven).phase = .ready ∨
        ((releasedPhase t full g p).oven t.oven).phase = .coking) := by
  have hp' : (dropTicket t.number p).hasOven t.oven := hp
  have hph' : ((dropTicket t.number p).oven t.oven).phase = .pushFault := hph
  refine ⟨fun h => ?_, fun h => ?_⟩
  · have moves : Cause.clearedEmpty.moves ((dropTicket t.number p).oven t.oven).phase .empty = true := by rw [hph']; rfl
    rw [releasedPhase, h, if_neg Bool.false_ne_true, changePhase_oven_empty hp' moves]
    rfl
  · rw [releasedPhase, if_pos h]
    exact (returnOven_oven hp' (by rw [hph']; rfl) (by rw [hph']; rfl) (by rw [hph']; decide)).2.phase_or

theorem hangBoth_keeps {k : Kinds} (hps : k (.list .ps) = true) (hcs : k (.list .cs) = true)
    (h : ∀ s : State, ∀ a, s.plant.ask = some a → a.oven = n → k.has Kind.ofAsk ∧ k.has (Kind.ofPhase n)) :
    Keeps k s.plant (s.hangBoth n).plant :=
  (hangDoor_keeps hps (h s)).trans (hangDoor_keeps hcs (h _))

/-- With no ask pending the doors made HUNG write the service lists at most. -/
theorem hangBoth_keeps_lists (h : s.plant.ask = none) : Keeps (.of [.list .ps, .list .cs]) s.plant (s.hangBoth n).plant := by
  have first : Keeps (.of [.list .ps, .list .cs]) s.plant (s.hangDoor n .ps).plant :=
    hangDoor_keeps rfl fun a ha => absurd (h.symm.trans ha) nofun
  exact first.trans (hangDoor_keeps rfl fun a ha => absurd ((h.symm.trans (first.ask rfl).symm).trans ha) nofun)

theorem hangBoth_hung (h : holdsDoors s n) (side : Side) : ((s.hangBoth n).ground.door n side).state = .hung := by
  have ps := (hangDoor_door (side := .ps) h n .ps).1 rfl rfl
  have cs := hangDoor_door (side := .cs) (hangDoor_holdsDoors (side := .ps) h) n
  cases side with
  | ps => exact (congrArg Door.state ((cs .ps).2 (by simp))).trans ps
  | cs => exact (cs .cs).1 rfl rfl

theorem hangBoth_others (h : holdsDoors s n) {k : Nat} (hk : k ≠ n) (side : Side) :
    (s.hangBoth n).ground.door k side = s.ground.door k side :=
  ((hangDoor_door (side := .cs) (hangDoor_holdsDoors (side := .ps) h) k side).2 fun e => hk e.1).trans
    ((hangDoor_door (side := .ps) h k side).2 fun e => hk e.1)

/-- What the end of a RELEASE leaves (R83). -/
structure ReleaseEnded (t : Ticket) (r : LogRecord) (p q : Plant) : Prop where
  log : q.log = (r :: p.log).take 64
  free : q.claimPm = .free ∧ q.claimGc = .free
  phase : (q.oven t.oven).phase = (p.oven t.oven).phase
  keeps : Keeps (.of (.log :: .claim .pm :: .claim .gc :: Kind.ofOven t.oven)) p q

theorem releaseEnd_ended (t : Ticket) (full : Bool) (r : LogRecord) (g : Ground) (p : Plant) :
    ReleaseEnded t r p (releaseEnd t full r g p) := by
  have regulated : Keeps (.of (Kind.ofOven t.oven)) p (if full then commandRegulate g t.oven p else p) :=
    .ite (fun _ => commandRegulate_keeps (Kinds.of_has (List.Subset.refl _)) g p) fun _ => .refl ..
  have freed := releaseClaims_keeps (k := .of Kind.bothClaims) (Kinds.of_has (List.Subset.refl _)).bothClaims g true
    (if full then commandRegulate g t.oven p else p)
  obtain ⟨pm, gc⟩ := releaseBoth_claims g true (if full then commandRegulate g t.oven p else p)
  have logged := writeLog_keeps (k := .of [.log]) (by simp [Kinds.of]) r
    (releaseClaims g [.pm, .gc] true (if full then commandRegulate g t.oven p else p))
  have last := (raise_keeps (.of []) g (.ticketEnd t.number t.oven r.outcome) (writeLog r
    (releaseClaims g [.pm, .gc] true (if full then commandRegulate g t.oven p else p)))).trans (startAll_keeps _ retirementTasks _)
  exact
    { log := by
        rw [releaseEnd, last.log rfl, writeLog, freed.log rfl, regulated.log (by simp [Kinds.of])]
      free := ⟨(last.claim .pm rfl).trans ((logged.claim .pm rfl).trans pm), (last.claim .gc rfl).trans ((logged.claim .gc rfl).trans gc)⟩
      phase := (((freed.of_subset (l' := .log :: Kind.bothClaims) (by simp)).trans
        ((logged.of_subset (by simp)).trans (last.of_subset (by simp)))).phase rfl t.oven).trans
          (regulated.phase (by simp [Kinds.of]) t.oven)
      keeps := (regulated.of_subset (by simp)).trans ((freed.of_subset (by simp)).trans
        ((logged.of_subset (by simp)).trans (last.of_subset (by simp)))) }

end

/-- What a released ticket writes, for a statement's frame. -/
abbrev Kind.ofRelease (n : Nat) : List Kind :=
  .tickets :: .counter :: .log :: .claim .pm :: .claim .gc :: Kind.ofPhase n

/-- What an accepted RELEASE leaves (R83). -/
structure ReleasedTicket (s : State) (t : Ticket) (full : Bool) (d : State) : Prop where
  tickets : d.plant.tickets = s.plant.tickets.filter fun x => x.number ≠ t.number
  log : d.plant.log = (releaseRecord s t full :: s.plant.log).take 64
  hung : holdsDoors s t.oven → ∀ side, (d.ground.door t.oven side).state = .hung
  doors : holdsDoors s t.oven → ∀ k side, k ≠ t.oven → d.ground.door k side = s.ground.door k side
  free : d.plant.claimPm = .free ∧ d.plant.claimGc = .free
  keeps : s.plant.ask = none → Keeps (.of (Kind.ofRelease t.oven)) s.plant d.plant
  phase : s.plant.ask = none → s.plant.hasOven t.oven → (s.plant.oven t.oven).phase = .pushFault →
    (full = false → (d.plant.oven t.oven).phase = .empty) ∧
      (full = true → (d.plant.oven t.oven).phase = .ready ∨ (d.plant.oven t.oven).phase = .coking)

theorem State.released_releasedTicket (s : State) (t : Ticket) (full : Bool) : ReleasedTicket s t full (s.released t full) := by
  have dropped := dropTicket_keeps (k := .of [.tickets]) (by simp [Kinds.of]) t.number s.plant
  have gone := releasedPhase_keeps t full s.ground s.plant
  have hung := hangBoth_keeps (k := .of (Kind.ofAsk ++ Kind.ofPhase t.oven)) (n := t.oven) (by simp [Kinds.of]) (by simp [Kinds.of])
    (fun _ _ _ _ => ⟨Kinds.of_has (by simp), Kinds.of_has (by simp)⟩) (s := s.work (releasedPhase t full))
  have ended := releaseEnd_ended t full (releaseRecord s t full) ((s.work (releasedPhase t full)).hangBoth t.oven).ground
    ((s.work (releasedPhase t full)).hangBoth t.oven).plant
  have quiet : s.plant.ask = none → (s.work (releasedPhase t full)).plant.ask = none := fun h =>
    (gone.ask (by simp [Kinds.of])).trans h
  exact
    { tickets := (ended.keeps.tickets (by simp [Kinds.of])).trans
        ((hung.tickets (by simp [Kinds.of])).trans (gone.tickets (by simp [Kinds.of])))
      log := by
        rw [State.released, State.work_plant, ended.log, hung.log (by simp [Kinds.of])]
        exact congrArg (fun l => (releaseRecord s t full :: l).take 64) (gone.log (by simp [Kinds.of]))
      hung := fun h => hangBoth_hung (s := s.work (releasedPhase t full)) h
      doors := fun h k side hk => hangBoth_others (s := s.work (releasedPhase t full)) h hk side
      free := ended.free
      keeps := fun h => (dropped.of_subset (by simp)).trans ((gone.of_subset (by simp)).trans
        (((hangBoth_keeps_lists (n := t.oven) (quiet h)).of_subset (by simp)).trans (ended.keeps.of_subset (by simp))))
      phase := fun h hp hph => by
        have same : ((s.released t full).plant.oven t.oven).phase = ((releasedPhase t full s.ground s.plant).oven t.oven).phase :=
          ended.phase.trans ((hangBoth_keeps_lists (n := t.oven) (quiet h)).phase rfl t.oven)
        rw [same]
        exact releasedPhase_phase hp hph }

/-- Settles O36: a released ticket, and the refusal of another. -/
theorem releaseRetiresTheHeldTicket : Obligations.ReleaseRetiresTheHeldTicket := by
  unfold Obligations.ReleaseRetiresTheHeldTicket
  intro s s₀ port tag num outcome t hw hnum ht htick hauth
  obtain rfl : t.number = num := (Plant.ticket?_eq_some htick).2
  have ground := ground_of_takes ht
  have checks := firstRefusal_ticket ht hw hnum htick hauth fun st => st = .faultHeld
  have checks' : firstRefusal [whileStarting s₀, unlessConfigured s₀, ⟨t.number = 0, .range, .number⟩,
      badField (some outcome).isNone, ticketUnknown s₀ t.number, ticketAuthority s₀ port t.number,
      ticketNotIn s₀ t.number fun st => st = .faultHeld] =
        if t.state = .faultHeld then none else some (.refused .state .ticketState) := by
    simpa [badField] using checks
  refine ⟨fun hheld hd => ?_, fun hother => refused_of_takes ht (checks'.trans (if_neg hother))⟩
  have released := s₀.released_releasedTicket t (outcome = .clearedFull)
  have before : ∀ {α : Type} (f : Plant → α), (∀ p sup pnl sent, f { p with sup := sup, pnl := pnl, sent := sent } = f p) →
      f s₀.plant = f s.plant := fun f hf => plant_of_takes ht f hf
  have doors : holdsDoors s₀ t.oven := by
    rw [holdsDoors, ground]
    exact hd
  have act : releaseTicket t.number outcome s₀ = _ := releaseTicket_eq ((ticket?_of_takes ht t.number).trans htick) outcome
  refine ⟨_, _, accepted_of_takes_eq ht (checks'.trans (if_pos hheld)) act, ?tickets, ?log, released.hung doors,
    fun k side hk => ?doors, released.free.1, released.free.2, fun ha => ?frame, fun ha hp hph => ?phase⟩
  case tickets => exact released.tickets.trans (congrArg _ (before (fun p => p.tickets) fun _ _ _ _ => rfl))
  case log =>
    refine ⟨releaseRecord s₀ t (outcome = .clearedFull), released.log.trans ?_, rfl, rfl, rfl, ?_⟩
    · rw [before (fun p => p.log) fun _ _ _ _ => rfl]
    · cases outcome <;> rfl
  case doors => exact (released.doors doors k side hk).trans (by rw [ground])
  case frame => exact (released.keeps ((ask_of_takes ht).trans ha)).fill_of_takes ht
  case phase =>
    obtain ⟨empty, full⟩ := released.phase ((ask_of_takes ht).trans ha) (hasOven_of_takes ht hp)
      ((congrArg (fun o => o.phase) (oven_of_takes ht _)).trans hph)
    exact ⟨fun h => empty (by rw [h]; rfl), fun h => full (by rw [h]; rfl)⟩

end Sys2Proof.Machine
end

section
/-! The issue of a ticket, and PUSH NOW (R55, R57, R58). -/

namespace Sys2Proof.Machine

open Sys2Proof.Safety

section
variable {g : Ground} {n : Nat} {c : Car} {p : Plant} {kind : TicketKind}

theorem isolateForTicket_oven (hp : p.hasOven n) (g : Ground) (num : Nat) :
    (isolateForTicket g n num p).hasOven n ∧ ∃ v, (isolateForTicket g n num p).oven n = { p.oven n with valve := v } ∧
      ((p.oven n).valve.mode = .regulate → v.mode = .isolate ∧ v.position = some 0) := by
  have touched := commandIsolate_touches n p
  have same : (isolateForTicket g n num p).ovens = (commandIsolate n p).ovens := ite_ovens (raise_ovens ..)
  refine ⟨(Touches.of_ovens (n := n) same).hasOven.2 (touched.hasOven.2 hp), _,
    (Plant.oven_congr same n).trans (touched.named hp), fun h => ?_⟩
  rw [h]
  exact ⟨rfl, rfl⟩

/-- The oven after a change to TICKETED. -/
theorem changePhase_ticketed {cause : Cause} (hp : p.hasOven n) (h : cause.moves (p.oven n).phase .ticketed = true) :
    ((changePhase g n .ticketed cause p).oven n).phase = .ticketed ∧
      ((changePhase g n .ticketed cause p).oven n).valve = (p.oven n).valve := by
  have fields := (changePhase_touches (g := g) h).named hp
  refine ⟨congrArg (fun o : Oven => o.phase) fields, ?_⟩
  have valve := congrArg (fun o : Oven => o.valve) fields
  simpa [Oven.noTimers, phaseFields] using valve

/-! ## The issue of a ticket (R55, R63) -/

/-- The new ticket in the list, with its car bound. -/
def ticketAdded (g : Ground) (kind : TicketKind) (n : Nat) (c : Car) (p : Plant) : Plant :=
  let q := bindCar g c p.nextTicket n p
  { q with tickets := q.tickets ++ [newTicket g p.nextTicket n kind c], nextTicket := ticketAfter p.nextTicket }

/-- The oven of a new ticket, isolated and TICKETED. -/
def ovenToTicketed (g : Ground) (kind : TicketKind) (n num : Nat) (p : Plant) : Plant :=
  changePhase g n .ticketed (if kind = .forced then .forcedIssue else .ticketIssue)
    (isolateForTicket g n num (raise g (.ticketStep num n .isolating g.clock false) p))

/-- The schedule's part of an issue: the cursor of a PLAN ticket and the catch-up list. -/
def scheduleIssued (g : Ground) (kind : TicketKind) (n : Nat) (p : Plant) : Plant :=
  dropCatchup n (if kind = .plan then advanceCursor g p else p)

theorem issueTicket_eq (g : Ground) (kind : TicketKind) (n : Nat) (c : Car) (p : Plant) :
    ∃ b, issueTicket g kind n c p =
      raise g b (scheduleIssued g kind n (ovenToTicketed g kind n p.nextTicket (ticketAdded g kind n c p))) := ⟨_, rfl⟩

theorem ticketAdded_keeps (hp : p.tickets.length < 2) :
    Keeps (.of (.tickets :: .counter :: Kind.ofCar c)) p (ticketAdded g kind n c p) :=
  (bindCar_keeps (Kinds.of_has (by simp)) g p.nextTicket n p).trans
    (addTicket_keeps (Kinds.of_has (by simp)) (by rwa [bindCar_tickets]) _ _)

theorem ovenToTicketed_keeps (g : Ground) (kind : TicketKind) (n num : Nat) (p : Plant) :
    Keeps (.of (Kind.ofPhase n)) p (ovenToTicketed g kind n num p) :=
  (raise_keeps ..).trans <| (isolateForTicket_keeps (Kinds.of_has (List.Subset.refl _)).ovenOfPhase g _ _).trans
    (changePhase_keeps (Kinds.of_has (List.Subset.refl _)) g _ _ _)

theorem scheduleIssued_keeps (g : Ground) (kind : TicketKind) (n : Nat) (p : Plant) :
    Keeps (.of [.cursor, .catchup, .latch]) p (scheduleIssued g kind n p) :=
  Keeps.trans (.ite (fun _ => advanceCursor_keeps (by simp [Kinds.of]) g _) fun _ => .refl ..)
    (dropCatchup_keeps (Kinds.of_has (by simp)) n _)

theorem scheduleIssued_catchup (g : Ground) (kind : TicketKind) (n : Nat) (p : Plant) :
    (scheduleIssued g kind n p).catchup = p.catchup.filter fun e => e.oven ≠ n := by
  rw [scheduleIssued, dropCatchup_catchup]
  split <;> rfl

theorem scheduleIssued_cursor (g : Ground) (kind : TicketKind) (n : Nat) (p : Plant) :
    (scheduleIssued g kind n p).cursor = if kind = .plan then (advanceCursor g p).cursor else p.cursor := by
  refine ((dropCatchup_keeps (k := .of [.catchup, .latch]) (Kinds.of_has (by simp)) n _).cursor rfl).trans ?_
  split <;> rfl

/-- An oven whose phase is not that of a number without an oven is in the table. -/
theorem hasOven_of_phase (h : (p.oven n).phase ≠ .unknown) : p.hasOven n := by
  cases hn : numbered p.ovens n with
  | none =>
    exact absurd (by rw [Plant.oven, hn]; rfl) h
  | some o =>
    have some := numbered_isSome p.ovens n
    rw [hn] at some
    simpa [Plant.hasOven] using some.symm

/-- The phase from which a ticket of a kind is issued. -/
def issuePhase (kind : TicketKind) : Phase := if kind = .forced then .coking else .ready

/-- What an issue leaves (R55). -/
theorem issueTicket_issued (hp : p.tickets.length < 2) (hph : (p.oven n).phase = issuePhase kind) :
    issued g kind n c p (issueTicket g kind n c p) ∧
      (issueTicket g kind n c p).cursor = if kind = .plan then (advanceCursor g p).cursor else p.cursor := by
  have keeps := issueTicket_keeps (k := .of (Kind.ofIssue n c)) (n := n) (c := c) (Kinds.of_has (List.Subset.refl _)) g kind hp
  obtain ⟨b, e⟩ := issueTicket_eq g kind n c p
  rw [e] at keeps ⊢
  have added := ticketAdded_keeps (g := g) (n := n) (c := c) (kind := kind) hp
  have bound : ((ticketAdded g kind n c p).car c).bound = some p.nextTicket := by
    have := bindCar_bound g c p.nextTicket n p
    cases c <;> exact this
  have list : (ticketAdded g kind n c p).tickets = p.tickets ++ [newTicket g p.nextTicket n kind c] :=
    congrArg (· ++ _) (bindCar_tickets ..)
  have counter : (ticketAdded g kind n c p).nextTicket = ticketAfter p.nextTicket := rfl
  generalize ticketAdded g kind n c p = a at *
  have oven : a.oven n = p.oven n := added.oven n (by simp [Kinds.of])
  have hasOven : a.hasOven n := hasOven_of_phase (by rw [oven, hph]; unfold issuePhase; split <;> decide)
  have ticketed := ovenToTicketed_keeps g kind n p.nextTicket a
  have phase : ((ovenToTicketed g kind n p.nextTicket a).oven n).phase = .ticketed ∧
      ((a.oven n).valve.mode = .regulate → ((ovenToTicketed g kind n p.nextTicket a).oven n).valve.mode = .isolate ∧
        ((ovenToTicketed g kind n p.nextTicket a).oven n).valve.position = some 0) := by
    have hasOven' : (raise g (.ticketStep p.nextTicket n .isolating g.clock false) a).hasOven n := hasOven
    obtain ⟨hi, v, isolated, valve⟩ := isolateForTicket_oven hasOven' g p.nextTicket
    have moves : (if kind = .forced then Cause.forcedIssue else .ticketIssue).moves
        ((isolateForTicket g n p.nextTicket (raise g (.ticketStep p.nextTicket n .isolating g.clock false) a)).oven n).phase
          .ticketed = true := by
      rw [isolated]
      show Cause.moves _ (a.oven n).phase _ = true
      rw [oven, hph, issuePhase]
      split <;> rfl
    obtain ⟨hphase, hvalve⟩ := changePhase_ticketed (g := g) hi moves
    refine ⟨hphase, fun h => ?_⟩
    rw [ovenToTicketed, hvalve, isolated]
    exact valve h
  generalize ovenToTicketed g kind n p.nextTicket a = t at *
  have scheduled := scheduleIssued_keeps g kind n t
  have catchup := scheduleIssued_catchup g kind n t
  have cursor := scheduleIssued_cursor g kind n t
  generalize scheduleIssued g kind n t = u at *
  have last := raise_keeps (.of []) g b u
  have tail := (scheduled.of_subset (l' := [.cursor, .catchup, .latch]) (by simp)).trans (last.of_subset (by simp))
  have after := (ticketed.of_subset (l' := Kind.ofPhase n ++ [.cursor, .catchup, .latch]) (by simp)).trans
    (tail.of_subset (by simp))
  refine ⟨⟨(after.tickets (by simp [Kinds.of])).trans list, (after.counter (by simp [Kinds.of])).trans counter,
    keeps.log (by simp [Kinds.of]), (congrArg (fun o => o.phase) (tail.oven n rfl)).trans phase.1,
    fun k hk => keeps.oven k (Kinds.of_eq_false (by simp [hk])), ?_, keeps.car _ (by simp [Kinds.of]), ?_, fun h => ?_, ?_⟩, ?_⟩
  · rw [after.car c (by simp [Kinds.of])]
    exact bound
  · rw [last.catchup rfl, catchup, ticketed.catchup (by simp [Kinds.of]), added.catchup (by simp [Kinds.of])]
  · rw [tail.oven n rfl]
    exact phase.2 (by rw [oven]; exact h)
  · exact (keeps.of_subset (l' := .tickets :: .counter :: .log :: .cursor :: .catchup :: .latch :: Kind.ofPhase n ++ Kind.ofTrack)
      (by cases c <;> simp)).fill
  · rw [last.cursor rfl, cursor]
    have same : t.cursor = p.cursor := (ticketed.cursor (by simp [Kinds.of])).trans (added.cursor (by simp [Kinds.of]))
    rw [advanceCursor, advanceCursor, same]

end

/-! ## PUSH NOW (R57, R58) -/

theorem phase_of_eligible {g : Ground} {p : Plant} {wanted : Phase} {ranged : Bool} {n : Nat} {c : Car}
    (h : eligibleCar g p wanted ranged n = some c) : (p.oven n).phase = wanted := by
  unfold eligibleCar at h
  dsimp only at h
  split at h
  · rename_i he
    simp only [Bool.and_eq_true, decide_eq_true_eq] at he
    exact he.1.1.1.1
  · cases h

/-- The kind and the phase of a PUSH NOW go together. -/
theorem pushPhase_eq (p : Plant) (n : Nat) (force : Bool) : pushPhase p n force = issuePhase (pushKind p n force) := by
  unfold pushPhase issuePhase pushKind
  split <;> rfl

theorem pushNow_of_car {s : State} {port : Port} {n : Nat} {force : Bool} {c : Car}
    (h : pushCar s.ground s.plant port n force = some c) :
    pushNow port n force s =
      (s.work fun g p => if s.plant.catchup.any fun e => e.oven = n then
          start .evaluate (issueTicket g (pushKind s.plant n force) n c p)
        else issueTicket g (pushKind s.plant n force) n c p,
      .issued s.plant.nextTicket (pushKind s.plant n force) c) := by
  unfold pushNow
  rw [h]

/-- The checks of a PUSH NOW for an oven its port may change (R57). -/
theorem firstRefusal_pushChecks {s s₀ : State} {port : Port} {tag : Byte} {r : Request} {n : Nat} {force : Bool}
    (ht : takes s port tag r s₀) (hw : working s) (hm : mayChange s port n) :
    firstRefusal (pushChecks port n force s₀) =
      if port = .sup ∧ force = true then some (.refused .auth .force)
      else if ∃ t ∈ s.plant.tickets, t.state = .faultHeld then some (.refused .state .faultHeld)
      else if 2 ≤ s.plant.tickets.length then some (.refused .busy .listFull)
      else if pushCar s.ground s.plant port n force = none then
        some (.refused .state (pushDetail s.ground s.plant port n))
      else none := by
  obtain ⟨sup, pnl, rfl⟩ := state_of_takes ht
  rw [pushChecks, firstRefusal_mayChange_of_takes ht hw hm rfl]
  simp only [firstRefusal_cons, Bool.and_eq_true, decide_eq_true_eq, List.any_eq_true, Option.isNone_iff_eq_none]
  rfl

/-- Settles O33: the issue of a PUSH NOW, and its refusals in the order of R57. -/
theorem pushNowIssuesATicket : Obligations.PushNowIssuesATicket := by
  unfold Obligations.PushNowIssuesATicket
  intro s s₀ port tag n force hw hm hp ht
  have checks := firstRefusal_pushChecks (force := force) ht hw hm
  have held : (∀ t ∈ s.plant.tickets, t.state ≠ .faultHeld) ↔ ¬∃ t ∈ s.plant.tickets, t.state = .faultHeld := by simp
  refine ⟨fun c hf hh hl hc => ?issued, fun hs hf => refused_of_takes ht (checks.trans (if_pos ⟨hs, hf⟩)), fun hf =>
    ⟨fun t htick hheld => refused_of_takes ht (checks.trans ?held), fun hh hl => refused_of_takes ht (checks.trans ?full),
      fun hh hl hc => refused_of_takes ht (checks.trans ?unfit)⟩⟩
  case held => rw [if_neg hf, if_pos ⟨t, htick, hheld⟩]
  case full => rw [if_neg hf, if_neg (held.1 hh), if_pos hl]
  case unfit =>
    rw [if_neg hf, if_neg (held.1 hh), if_neg (Nat.not_le.2 hl), if_pos hc]
    rfl
  case issued =>
    have pass : firstRefusal (pushChecks port n force s₀) = none := by
      rw [checks, if_neg hf, if_neg (held.1 hh), if_neg (Nat.not_le.2 hl), if_neg (by rw [hc]; nofun)]
    have kind := pushPhase_eq s.plant n force
    obtain ⟨sup, pnl, rfl⟩ := state_of_takes ht
    have phase : (s.plant.oven n).phase = issuePhase (pushKind s.plant n force) := (phase_of_eligible hc).trans kind
    obtain ⟨issue, -⟩ := issueTicket_issued (g := s.ground) (n := n) (c := c) (kind := pushKind s.plant n force)
      (p := { s.plant with sup := sup, pnl := pnl, sent := [] }) hl phase
    obtain ⟨tickets, counter, log, ticketed, others, bound, other, catchup, -, frame⟩ := issue
    have gone : ∀ e ∈ (issueTicket s.ground (pushKind s.plant n force) n c
        { s.plant with sup := sup, pnl := pnl, sent := [] }).catchup, e.oven ≠ n := fun e he => by
      rw [catchup] at he
      exact of_decide_eq_true (List.mem_filter.1 he).2
    have act := pushNow_of_car (s := { s with plant := { s.plant with sup := sup, pnl := pnl, sent := [] } }) hc
    refine ⟨_, accepted_of_takes_eq ht pass act, rfl, ?_⟩
    rw [State.work_plant]
    split
    · exact ⟨tickets, counter, ticketed, (congrArg CarRecord.bound (start_car ..)).trans bound,
        gone, others, log, (start_car ..).trans other,
        congrArg (start .evaluate) frame⟩
    · exact ⟨tickets, counter, ticketed, bound, gone, others, log,
        other, frame⟩

end Sys2Proof.Machine
end

section
/-! Evaluations (R45, R47, R52 to R54). -/

namespace Sys2Proof.Machine

open Sys2Proof.Safety

section
variable {g : Ground} {p : Plant} {n k : Nat}

/-- When an evaluation acts (R52). -/
theorem evaluationActs_iff (g : Ground) (p : Plant) :
    evaluationActs g p = true ↔ g.configured = true ∧ g.schedRunning = true ∧ g.runState = .running ∧
      p.tickets.length < 2 ∧ (∀ t ∈ p.tickets, t.state ≠ .faultHeld) ∧ nextIssue g p ≤ g.clock := by
  simp [evaluationActs, Ground.running, and_assoc]

/-! ## The catch-up step (R53) -/

theorem catchupChoice_of_split {before rest : List CatchupEntry} {e : CatchupEntry} {c : Car}
    (hb : ∀ x ∈ before, eligibleCar g p .ready true x.oven = none) (he : eligibleCar g p .ready true e.oven = some c) :
    catchupChoice g p (before ++ e :: rest) = some (e.oven, c) := by
  induction before with
  | nil => simp [catchupChoice, he]
  | cons x l ih =>
    rw [List.forall_mem_cons] at hb
    simp [catchupChoice, hb.1, ih hb.2]

theorem catchupChoice_none {l : List CatchupEntry} (h : ∀ x ∈ l, eligibleCar g p .ready true x.oven = none) :
    catchupChoice g p l = none := by
  induction l with
  | nil => rfl
  | cons x l ih =>
    rw [List.forall_mem_cons] at h
    simp [catchupChoice, h.1, ih h.2]

/-! ## The cursor step (R54) -/

/-- The index that the cursor reaches after some steps. -/
def cursorIndex (g : Ground) (p : Plant) (k : Nat) : Nat := (p.cursor + k) % g.count

/-- The plant with the cursor so many steps on. -/
def cursorAt (g : Ground) (p : Plant) (k : Nat) : Plant := { p with cursor := cursorIndex g p k }

theorem cursorIndex_zero (h : p.cursor < g.count) : cursorIndex g p 0 = p.cursor := Nat.mod_eq_of_lt h

theorem cursorAt_zero (h : p.cursor < g.count) : cursorAt g p 0 = p := by
  rw [cursorAt, cursorIndex_zero h]

theorem cursorAt_count (h : p.cursor < g.count) : cursorAt g p g.count = p := by
  rw [cursorAt, cursorIndex, Nat.add_mod_right, Nat.mod_eq_of_lt h]

/-- The cursor's advance wraps. -/
theorem advanceCursor_eq (hl : g.order.length = g.count) (h : p.cursor < g.count) :
    advanceCursor g p = { p with cursor := (p.cursor + 1) % g.count } := by
  rw [advanceCursor, hl]
  split
  · rw [Nat.mod_eq_of_lt ‹_›]
  · rw [show p.cursor + 1 = g.count by omega, Nat.mod_self]

theorem advanceCursor_cursorAt (hl : g.order.length = g.count) (h : 0 < g.count) (k : Nat) :
    advanceCursor g (cursorAt g p k) = cursorAt g p (k + 1) := by
  rw [advanceCursor_eq hl (Nat.mod_lt _ h)]
  simp only [cursorAt, cursorIndex, Nat.mod_add_mod, Nat.add_assoc]

/-- The plant with an oven listed at the tail, as the cursor stands at an index (R47). -/
def listedAt (g : Ground) (n : Nat) (r : PassReason) (index : Nat) (p : Plant) : Plant :=
  raise g (.skip n r .listed (some index)) { p with catchup := p.catchup ++ [{ oven := n, reason := r, joined := g.clock }] }

theorem cursorStep_passed (hn : cursorOven g p = some n) (h : passedOver g p n) (m : Nat) :
    cursorStep g (m + 1) p = cursorStep g m (advanceCursor g p) := by
  obtain ⟨he, r, hr, hw, hor⟩ := h
  by_cases hout : r = .passOut
  · subst hout
    simp [cursorStep, hn, he, hr]
  · have listed : (p.catchup.any fun e => e.oven = n) = true := by simpa using hor.resolve_left hout
    cases r <;> simp_all [cursorStep]

/-- The cursor step passes over ovens that are neither eligible nor waited for nor to be listed. -/
theorem cursorStep_passes (hl : g.order.length = g.count) (h : p.cursor < g.count) (k m : Nat)
    (hk : ∀ j, j < k → ∃ n, g.order[cursorIndex g p j]? = some n ∧ passedOver g p n) :
    cursorStep g (k + m) p = cursorStep g m (cursorAt g p k) := by
  induction k generalizing m with
  | zero => rw [cursorAt_zero h, Nat.zero_add]
  | succ k ih =>
    obtain ⟨n, hn, passed⟩ := hk k (Nat.lt_succ_self k)
    have hn' : cursorOven g (cursorAt g p k) = some n := hn
    have passed' : passedOver g (cursorAt g p k) n := passed
    rw [show k + 1 + m = k + (m + 1) by omega, ih (m + 1) fun j hj => hk j (by omega), cursorStep_passed hn' passed',
      advanceCursor_cursorAt hl (by omega)]

theorem cursorStep_eligible {c : Car} (hn : cursorOven g p = some n) (he : eligibleCar g p .ready true n = some c) (m : Nat) :
    cursorStep g (m + 1) p = issueTicket g .plan n c p := by
  simp [cursorStep, hn, he]

theorem cursorStep_wait (hn : cursorOven g p = some n) (he : eligibleCar g p .ready true n = none)
    (hr : passReason g p true n = some .wait) (m : Nat) : cursorStep g (m + 1) p = p := by
  simp [cursorStep, hn, he, hr]

theorem cursorStep_listed {r : PassReason} (hn : cursorOven g p = some n) (he : eligibleCar g p .ready true n = none)
    (hr : passReason g p true n = some r) (hw : r ≠ .wait) (ho : r ≠ .passOut) (hl : ∀ e ∈ p.catchup, e.oven ≠ n) (m : Nat) :
    cursorStep g (m + 1) p =
      if p.catchup.length < 8 then cursorStep g m (advanceCursor g (listAtTail g n r p)) else catchupFull g n r p := by
  have unlisted : (p.catchup.any fun e => e.oven = n) = false := by simpa using hl
  cases r <;> simp_all [cursorStep]

/-- An eligible oven's ticket, as a PLAN or CATCHUP ticket. -/
theorem issueTicket_eligible {kind : TicketKind} {c : Car} (hk : kind ≠ .forced) (hp : p.tickets.length < 2)
    (he : eligibleCar g p .ready true n = some c) :
    issued g kind n c p (issueTicket g kind n c p) ∧
      (issueTicket g kind n c p).cursor = if kind = .plan then (advanceCursor g p).cursor else p.cursor :=
  issueTicket_issued hp ((phase_of_eligible he).trans (if_neg hk).symm)

theorem evaluate_catchup {before rest : List CatchupEntry} {e : CatchupEntry} {c : Car} (ha : evaluationActs g p = true)
    (hl : p.catchup = before ++ e :: rest) (hb : ∀ x ∈ before, eligibleCar g p .ready true x.oven = none)
    (he : eligibleCar g p .ready true e.oven = some c) : evaluate g p = issueTicket g .catchup e.oven c p := by
  rw [evaluate, if_pos ha, hl, catchupChoice_of_split hb he]

theorem evaluate_cursor (ha : evaluationActs g p = true) (hb : ∀ x ∈ p.catchup, eligibleCar g p .ready true x.oven = none) :
    evaluate g p = cursorStep g g.count p := by
  rw [evaluate, if_pos ha, catchupChoice_none hb]

end

/-- Settles O32: the catch-up step, and the cursor step by the oven at which it stops. -/
theorem evaluationIssuesATicket : Obligations.EvaluationIssuesATicket := by
  unfold Obligations.EvaluationIssuesATicket
  intro g p
  dsimp only
  refine ⟨fun h => by rw [runTask, evaluate, h]; rfl, evaluationActs_iff g p, fun ha =>
    ⟨fun before e rest c hl hb he => ?catchup, fun hb horder hcursor => ⟨fun hpass => ?round, fun k n hk hpass hn =>
      ⟨fun c he => ?eligible, fun he hr => ?wait, fun r he hr hw ho hl => ⟨fun n' hroom hk' hn' he' hr' => ?listed,
        fun hfull => ?full⟩⟩⟩⟩⟩
  all_goals obtain ⟨-, -, -, htickets, -, -⟩ := (evaluationActs_iff g p).1 ha
  case catchup =>
    have issue := issueTicket_eligible (kind := .catchup) (by decide) htickets he
    rw [← evaluate_catchup ha hl hb he] at issue
    exact issue
  case round =>
    rw [runTask, evaluate_cursor ha hb]
    exact (cursorStep_passes horder hcursor g.count 0 hpass).trans (cursorAt_count hcursor)
  all_goals
    have walk := cursorStep_passes horder hcursor k (g.count - k) hpass
    rw [Nat.add_sub_cancel' hk.le, ← evaluate_cursor ha hb, show g.count - k = (g.count - k - 1) + 1 by omega] at walk
    have here : cursorOven g (cursorAt g p k) = some n := hn
  case eligible =>
    have walk : runTask g .evaluate p = _ := walk.trans (cursorStep_eligible here he _)
    obtain ⟨issue, cursor⟩ := issueTicket_eligible (kind := .plan) (p := cursorAt g p k) (by decide) htickets he
    rw [← walk] at issue cursor
    refine ⟨issue, cursor.trans ?_⟩
    rw [if_pos rfl, advanceCursor_cursorAt horder (by omega)]
    rfl
  case wait => exact walk.trans (cursorStep_wait here he hr _)
  case listed =>
    have step := (walk.trans (cursorStep_listed here he hr hw ho hl _)).trans (if_pos hroom)
    have next := advanceCursor_cursorAt (p := listedAt g n r (cursorIndex g p k) p) horder (by omega) k
    have listed : listAtTail g n r (cursorAt g p k) = cursorAt g (listedAt g n r (cursorIndex g p k) p) k := rfl
    rw [listed, next, show g.count - k - 1 = (g.count - k - 2) + 1 by omega] at step
    have there : cursorOven g (cursorAt g (listedAt g n r (cursorIndex g p k) p) (k + 1)) = some n' := hn'
    exact step.trans (cursorStep_wait there he' hr' _)
  case full =>
    exact (walk.trans (cursorStep_listed here he hr hw ho hl _)).trans (if_neg (Nat.not_lt.2 hfull))

end Sys2Proof.Machine
end

section
/-! The completions of a ticket's commands (R66, R72 to R74). -/

namespace Sys2Proof.Machine

open Sys2Proof.Safety

/-! ## The advance of a ticket (R66) -/

section
variable {g : Ground} {t : Ticket} {p q : Plant} {num : Nat}

theorem Waits.empty_iff (w : Waits) :
    w.empty = true ↔ w.offtake = .complete ∧ w.pm = .complete ∧ w.gc = .complete ∧ w.car = .complete := by
  simp only [Waits.empty, Bool.and_eq_true, decide_eq_true_eq, and_assoc]

theorem Waits.eq_none_of_empty {w : Waits} (h : w.empty = true) : w = Waits.none := by
  obtain ⟨offtake, pm, gc, car⟩ := w
  obtain ⟨rfl, rfl, rfl, rfl⟩ := (Waits.empty_iff _).1 h
  rfl

theorem tryAdvance_waiting (ht : p.ticket? num = some t) (h : t.waits.empty = false) : tryAdvance g num p = p := by
  simp [tryAdvance, ht, h]

theorem tryAdvance_guiding (ht : p.ticket? num = some t) (h : t.waits.empty = true) (hs : t.state = .guiding) :
    tryAdvance g num p = guidingDone g num t p := by
  simp [tryAdvance, ht, h, hs]

theorem tryAdvance_aligning (ht : p.ticket? num = some t) (h : t.waits.empty = true) (hs : t.suspended = false)
    (hst : t.state = .aligning) : tryAdvance g num p = enterUndooring g num t p := by
  simp [tryAdvance, ht, h, hs, hst]

theorem tryAdvance_undooring (ht : p.ticket? num = some t) (h : t.waits.empty = true) (hs : t.suspended = false)
    (hst : t.state = .undooring) : tryAdvance g num p = enterGuiding g num t p := by
  simp [tryAdvance, ht, h, hs, hst]

theorem tryAdvance_pushing (ht : p.ticket? num = some t) (h : t.waits.empty = true) (hs : t.suspended = false)
    (hst : t.state = .pushing) : tryAdvance g num p = enterClosing g num t p := by
  simp [tryAdvance, ht, h, hs, hst]

theorem tryAdvance_closing (ht : p.ticket? num = some t) (h : t.waits.empty = true) (hs : t.suspended = false)
    (hst : t.state = .closing) : tryAdvance g num p = completeTicket g num p := by
  simp [tryAdvance, ht, h, hs, hst]

/-- A suspended ticket stays in its step. -/
theorem tryAdvance_suspended (ht : p.ticket? num = some t) (hs : t.suspended = true) (hg : t.state ≠ .guiding) :
    tryAdvance g num p = p := by
  simp [tryAdvance, ht, hs, hg]

/-! ## The end of GUIDING (R72) -/

theorem pacingMet_iff (g : Ground) (p : Plant) :
    pacingMet g p = true ↔ ∀ w, p.lastPushStart.map (fun w => w + (g.params.pushGap : Int)) = some w → w ≤ g.clock := by
  rw [pacingMet, pacingTime]
  cases p.lastPushStart with
  | none => simp
  | some w => simp

/-- The ticket with its completions recorded. -/
def recordedTicket (t : Ticket) : Ticket := { t with waits := Waits.none }

/-- What the last completion of GUIDING leaves, from a plant with the completions recorded. -/
theorem guidingDone_ended (ht : q.ticket? t.number = some (recordedTicket t)) (hl : q.lastPushStart = p.lastPushStart)
    (ho : q.ovens = p.ovens) : guidingEnded g t p (guidingDone g t.number (recordedTicket t) q) := by
  unfold guidingEnded
  dsimp only
  rw [← hl]
  refine ⟨fun met hs => ?pushing, fun met hs => ?suspended, fun w hw late => ?paced⟩
  case pushing =>
    have goes : guidingDone g t.number (recordedTicket t) q = enterPushing g t.number (recordedTicket t) q := by
      rw [guidingDone, if_pos ((pacingMet_iff g q).2 met), if_neg (by rw [recordedTicket, hs]; decide)]
    have pushed : Pushed g (recordedTicket t) q _ := enterPushing_pushed ht hs
    rw [goes]
    refine ⟨pushed.ticket, pushed.lastPush, pushed.sent, fun h1 h2 hph => pushed.oven ?_ ?_⟩
    · exact (Touches.of_ovens (n := t.oven) ho).hasOven.2 ⟨h1, h2⟩
    · rw [Plant.oven_congr ho]
      exact hph
  case suspended =>
    have stays : guidingDone g t.number (recordedTicket t) q = q := by
      rw [guidingDone, if_pos ((pacingMet_iff g q).2 met), if_pos (by rw [recordedTicket]; exact hs)]
    rw [stays]
    exact ⟨ht, rfl, ho⟩
  case paced =>
    have waits : guidingDone g t.number (recordedTicket t) q =
        q.modTicket t.number fun t => { t with timer := none, pacingWait := pacingTime g q } := by
      rw [guidingDone, if_neg]
      rw [pacingMet_iff]
      exact fun met => absurd (met w hw) (not_le.2 late)
    rw [waits]
    refine ⟨?_, rfl, ho⟩
    rw [← hw]
    exact Plant.ticket?_modTicket_of_some ht fun _ => rfl

/-- What the last completion of GUIDING writes. -/
theorem guidingDone_keeps_push (g : Ground) (num : Nat) (t : Ticket) (p : Plant) :
    Keeps (.of (Kind.ofPush t.oven)) p (guidingDone g num t p) :=
  guidingDone_keeps (by simp [Kinds.of]) (by simp [Kinds.of]) (Kinds.of_has (by simp)) g num p

/-! ## A DONE that matches (R66, R74, R86) -/

/-- The ticket with a machine's completion recorded. -/
def doneTicket (m : Machine) (op : Op) (t : Ticket) : Ticket :=
  { t with waits := t.waits.setMachine m (waitAfter t op) }

/-- A side's next command in CLOSING is sent. -/
def nextSent (m : Machine) (n : Nat) (w : Wait) (p : Plant) : Plant :=
  match w with
  | .waiting (.step next) => sendStep m next n p
  | _ => p

/-- The ticket's wait recorded, and its side's next command sent. -/
def doneRecorded (m : Machine) (op : Op) (t : Ticket) (p : Plant) : Plant :=
  nextSent m t.oven (waitAfter t op)
    (p.modTicket t.number fun x => { x with waits := x.waits.setMachine m (waitAfter t op) })

theorem machineDone_matched {m : Machine} {op : Op} (ho : p.ticketOf? t.oven = some t)
    (hw : t.waits.machine m = .waiting (.step op)) :
    machineDone g m op t.oven p = tryAdvance g t.number (doneRecorded m op t p) := by
  unfold machineDone
  rw [ho]
  dsimp only
  rw [if_pos hw]
  rfl

theorem nextSent_keeps (k : Kinds) (m : Machine) (n : Nat) (w : Wait) (p : Plant) : Keeps k p (nextSent m n w p) :=
  sendNext_keeps k m n w p

theorem doneRecorded_keeps (m : Machine) (op : Op) (t : Ticket) (p : Plant) :
    Keeps (.of [.tickets]) p (doneRecorded m op t p) :=
  (modTicket_keeps (by decide) _ _ p).trans (nextSent_keeps ..)

theorem doneRecorded_ticket {m : Machine} {op : Op} (ht : p.ticket? t.number = some t) :
    (doneRecorded m op t p).ticket? t.number = some (doneTicket m op t) :=
  (Plant.ticket?_congr ((nextSent_keeps (.of []) ..).tickets rfl) _).trans
    (Plant.ticket?_modTicket_of_some (f := fun x => { x with waits := x.waits.setMachine m (waitAfter t op) }) ht fun _ => rfl)

theorem doneRecorded_agenda (m : Machine) (op : Op) (t : Ticket) (p : Plant) : (doneRecorded m op t p).agenda = p.agenda := by
  unfold doneRecorded nextSent
  split
  · unfold sendStep
    dsimp only
    split <;> rfl
  · rfl

theorem waitAfter_complete {op : Op} (h : t.state ≠ .closing ∨ op = .press) : waitAfter t op = .complete := by
  unfold waitAfter
  obtain h | rfl := h
  · rw [if_neg h]
  · split <;> rfl

end

/-! ## DONE records of machines that are ONLINE -/

section
variable {s : State} {m : Machine} {op : Op}

/-- A DONE of an operation its sender does not perform is contact and no more (log 30). -/
theorem event_strayRecord (hs : started s) (hp : performs m op = false) (f : State → State) :
    s.event (fun s => s.doneRecord m op f) = (heard s m).settled := by
  rw [show (fun s : State => s.doneRecord m op f) = fun s => s.record m fun s => if performs m op then f s else s from rfl,
    event_record hs, if_neg (by rw [hp]; decide)]

/-- A DONE that only reaches the ticket of its oven. -/
theorem event_machineDone (hs : started s) (hp : performs m op = true) {n : Nat} {q : Plant}
    (h : machineDone (heard s m).ground m op n (heard s m).plant = q) :
    s.event (fun s => s.doneRecord m op fun s => s.work fun g p => machineDone g m op n p) =
      ({ heard s m with plant := q } : State).settled := by
  subst h
  exact event_doneRecord hs hp _

/-- A matching DONE while the ticket waits for another completion. -/
theorem event_machineDone_recorded {t : Ticket} (hs : started s) (hc : calm s) (ht : isTicket s t) (hp : performs m op = true)
    (hw : t.waits.machine m = .waiting (.step op)) (hon : (s.ground.mirror m).online = true)
    (he : (t.waits.setMachine m (waitAfter t op)).empty = false) :
    s.event (fun s => s.doneRecord m op fun s => s.work fun g p => machineDone g m op t.oven p) =
      (heard s m).work fun _ p => doneRecorded m op t p := by
  have plant := heard_plant hon
  have done : machineDone (heard s m).ground m op t.oven (heard s m).plant = doneRecorded m op t (heard s m).plant := by
    rw [plant, machineDone_matched (p := s.opened.plant) ht.2 hw,
      tryAdvance_waiting (p := doneRecorded m op t s.opened.plant) (doneRecorded_ticket ht.1) he]
  rw [event_machineDone hs hp done]
  refine State.settled_of_calm ?_
  rw [doneRecorded_agenda, plant]
  exact hc

end

/-- Settles O40: a DONE recorded, the end of GUIDING, and a stray. -/
theorem donesAreRecordedByTheTicket : Obligations.DonesAreRecordedByTheTicket := by
  unfold Obligations.DonesAreRecordedByTheTicket
  intro s t hs hc ht
  refine ⟨fun m op hw hon he => ⟨fun hm ho => ?lock, fun hm ho => ?release, fun hm ho => ?ram⟩, fun hst hon hw he => ?last,
    fun m hm => ?stray⟩
  case lock =>
    subst hm ho
    exact congrArg Host.Outcome.next (event_machineDone_recorded hs hc ht rfl hw hon he)
  case release =>
    subst hm ho
    exact congrArg Host.Outcome.next (event_machineDone_recorded hs hc ht rfl hw hon he)
  case ram =>
    subst hm ho
    exact congrArg Host.Outcome.next (event_machineDone_recorded hs hc ht rfl hw hon he)
  case stray =>
    have gc : ∀ op, op = Op.guideLock ∨ op = .guideRelease → performs m op = false := by
      rintro _ (rfl | rfl) <;> cases m <;> first | rfl | exact absurd rfl hm
    exact ⟨congrArg Host.Outcome.next (event_strayRecord hs (gc _ (.inl rfl)) _),
      congrArg Host.Outcome.next (event_strayRecord hs (gc _ (.inr rfl)) _)⟩
  case last =>
    have complete : waitAfter t .guideLock = .complete := waitAfter_complete (.inl (by rw [hst]; decide))
    have recorded : doneTicket .gc .guideLock t = recordedTicket t := by
      rw [doneTicket, complete, recordedTicket, ← Waits.eq_none_of_empty he]
      rfl
    have plant := heard_plant (s := s) (m := .gc) hon
    have ticket := doneRecorded_ticket (m := .gc) (op := .guideLock) (p := s.opened.plant) ht.1
    rw [recorded] at ticket
    have keeps := (doneRecorded_keeps .gc .guideLock t s.opened.plant)
    have done : machineDone (heard s .gc).ground .gc .guideLock t.oven (heard s .gc).plant =
        guidingDone (heard s .gc).ground t.number (recordedTicket t) (doneRecorded .gc .guideLock t s.opened.plant) := by
      rw [plant, machineDone_matched (m := .gc) (p := s.opened.plant) ht.2 hw, tryAdvance_guiding ticket rfl hst]
    have ended := guidingDone_ended (g := (heard s .gc).ground) (p := s.plant) ticket (keeps.lastPush rfl) (keeps.table rfl)
    have frame : Keeps (.of (Kind.ofPush t.oven)) s.opened.plant (guidingDone (heard s .gc).ground t.number (recordedTicket t)
        (doneRecorded .gc .guideLock t s.opened.plant)) := (keeps.of_subset (by simp)).trans (guidingDone_keeps_push (heard s .gc).ground t.number (recordedTicket t)
      (doneRecorded .gc .guideLock t s.opened.plant))
    refine ⟨_, congrArg Host.Outcome.next (event_machineDone hs rfl done), rfl, ?_, fun k hk => frame.push_oven_ne hk,
      frame.log (by simp [Kinds.of]), (frame.of_subset (l' := .counter :: .log :: Kind.ofPush t.oven) (by simp)).fill⟩
    simpa only [guidingEnded, heard_clock, heard_params] using ended

end Sys2Proof.Machine
end

section
/-! RAM ADVANCE DONE and the last completion of CLOSING (R35, R73 to R75). -/

namespace Sys2Proof.Machine

open Sys2Proof.Safety

section
variable {g : Ground} {t : Ticket} {p q : Plant} {n load : Nat}

/-! ## The judgement of the ram load (R35) -/

/-- An oven as the ram load leaves it. -/
def loadJudged (q : Params) (load : Nat) (o : Oven) : Oven :=
  if q.hardLoad < load then { o with trim := min 1250 (o.trim + q.trimStep), hardRun := min 255 (o.hardRun + 1) }
  else { o with hardRun := 0 }

theorem judgeLoad_oven (hp : p.hasOven n) (g : Ground) (load : Nat) :
    (judgeLoad g n load p).hasOven n ∧ (judgeLoad g n load p).oven n = loadJudged g.params load (p.oven n) := by
  unfold judgeLoad loadJudged
  split
  · exact ⟨Plant.modOven_hasOven.2 hp, Plant.modOven_oven_same hp _⟩
  · exact ⟨Plant.modOven_hasOven.2 hp, Plant.modOven_oven_same hp _⟩

/-- A phase change leaves trim and hard-push run. -/
theorem changePhase_trim {new : Phase} {cause : Cause} (hp : p.hasOven n) :
    ((changePhase g n new cause p).oven n).trim = (p.oven n).trim ∧
      ((changePhase g n new cause p).oven n).hardRun = (p.oven n).hardRun := by
  by_cases h : cause.moves (p.oven n).phase new = true
  · have fields := (changePhase_touches (g := g) h).named hp
    rw [accrueOven_eq] at fields
    have trim := congrArg (fun o : Oven => o.trim) fields
    have hardRun := congrArg (fun o : Oven => o.hardRun) fields
    exact ⟨trim, hardRun⟩
  · rw [changePhase, if_neg h]
    exact ⟨rfl, rfl⟩

/-! ## The entry to CLOSING (R74) -/

/-- The bound car let go at the entry to CLOSING. -/
def boundLetGo (g : Ground) (t : Ticket) (p : Plant) : Plant :=
  match t.car with
  | some c => letCarGo g c p
  | none => p

theorem boundLetGo_keeps (g : Ground) (t : Ticket) (p : Plant) : Keeps (.of Kind.ofTrack) p (boundLetGo g t p) := by
  unfold boundLetGo
  split
  · exact letCarGo_keeps ((Kinds.of_has (List.Subset.refl _)).ofTrack _) g p
  · exact .refl ..

/-- The waits of CLOSING. -/
def closingWaits : Waits := { Waits.none with pm := .waiting (.step .ramReturn), gc := .waiting (.step .guideRelease) }

theorem enterClosing_eq (g : Ground) (num : Nat) (t : Ticket) (p : Plant) :
    enterClosing g num t p = changePhase g t.oven .closing .enterClosing (boundLetGo g t
      (send .gc (.step .guideRelease t.oven) (send .pm (.step .ramReturn t.oven) (enterStep g num .closing closingWaits p)))) := rfl

/-- The ticket in CLOSING. -/
def closedTicket (g : Ground) (t : Ticket) : Ticket :=
  { t with
    state := .closing
    waits := closingWaits
    entry := g.clock
    timer := if t.suspended then none else some (g.clock + (stepTime g.params .closing : Int)) }

/-- What the entry to CLOSING leaves. -/
structure Closed (g : Ground) (t : Ticket) (p q : Plant) : Prop where
  ticket : q.ticket? t.number = some (closedTicket g t)
  sent : (Machine.pm, ToMachine.step .ramReturn t.oven) ∈ q.sent ∧ (Machine.gc, ToMachine.step .guideRelease t.oven) ∈ q.sent
  oven : p.hasOven t.oven → ((p.oven t.oven).phase = .pushing → (q.oven t.oven).phase = .closing) ∧
    (q.oven t.oven).trim = (p.oven t.oven).trim ∧ (q.oven t.oven).hardRun = (p.oven t.oven).hardRun
  keeps : Keeps (.of (.tickets :: Kind.ofPhase t.oven ++ Kind.ofTrack)) p q

theorem enterClosing_closed (ht : p.ticket? t.number = some t) : Closed g t p (enterClosing g t.number t p) := by
  have entered := enterStep_keeps (k := .of [.tickets]) (by decide) g t.number .closing closingWaits p
  have ticket := enterStep_ticket ht g .closing closingWaits
  rw [enterClosing_eq]
  generalize enterStep g t.number .closing closingWaits p = e at *
  have sent := (send_keeps (.of []) .pm (.step .ramReturn t.oven) e).trans (send_keeps _ .gc (.step .guideRelease t.oven) _)
  have mem : (Machine.pm, ToMachine.step .ramReturn t.oven) ∈
      (send .gc (.step .guideRelease t.oven) (send .pm (.step .ramReturn t.oven) e)).sent ∧
      (Machine.gc, ToMachine.step .guideRelease t.oven) ∈
      (send .gc (.step .guideRelease t.oven) (send .pm (.step .ramReturn t.oven) e)).sent := by simp [send]
  generalize send .gc (.step .guideRelease t.oven) (send .pm (.step .ramReturn t.oven) e) = r at *
  have gone := boundLetGo_keeps g t r
  generalize boundLetGo g t r = u at *
  have changed := changePhase_keeps (k := .of (Kind.ofPhase t.oven)) (Kinds.of_has (List.Subset.refl _)) g .closing .enterClosing u
  have table : u.ovens = p.ovens := (gone.table rfl).trans ((sent.table rfl).trans (entered.table rfl))
  refine ⟨?_, ?_, fun hp => ?_, ?_⟩
  · rw [Plant.ticket?_congr (changed.tickets (by simp [Kinds.of])), Plant.ticket?_congr (gone.tickets rfl),
      Plant.ticket?_congr (sent.tickets rfl), ticket]
    rfl
  · exact ⟨changed.sent.subset (gone.sent.subset mem.1), changed.sent.subset (gone.sent.subset mem.2)⟩
  · have hu : u.hasOven t.oven := (Touches.of_ovens (n := t.oven) table).hasOven.2 hp
    obtain ⟨trim, hardRun⟩ := changePhase_trim (g := g) (new := .closing) (cause := .enterClosing) hu
    rw [← Plant.oven_congr table]
    refine ⟨fun hph => ?_, trim, hardRun⟩
    rw [changePhase_oven hu (by rw [hph]; rfl) (by decide) (by decide)]
    rfl
  · exact (entered.of_subset (by simp)).trans ((sent.of_subset (by simp)).trans
      ((gone.of_subset (by simp)).trans (changed.of_subset (by simp))))

/-! ## RAM ADVANCE DONE (R73) -/

/-- The ticket with its ram peak load. -/
def loadedTicket (load : Nat) (t : Ticket) : Ticket := { t with ram := some load }

/-- The ram load written to the ticket and judged. -/
def loadWritten (g : Ground) (t : Ticket) (load : Nat) (p : Plant) : Plant :=
  judgeLoad g t.oven load (p.modTicket t.number (loadedTicket load))

theorem loadWritten_keeps (g : Ground) (t : Ticket) (load : Nat) (p : Plant) :
    Keeps (.of (.tickets :: Kind.ofOven t.oven)) p (loadWritten g t load p) :=
  (modTicket_keeps (by simp [Kinds.of]) _ _ p).trans (judgeLoad_keeps (Kinds.of_has (by simp)) g load _)

theorem loadWritten_ticket (h : p.ticket? t.number = some t) :
    (loadWritten g t load p).ticket? t.number = some (loadedTicket load t) :=
  (Plant.ticket?_congr (judgeLoad_tickets ..) _).trans (Plant.ticket?_modTicket_of_some (f := loadedTicket load) h fun _ => rfl)

theorem loadWritten_ticketOf (h : p.ticketOf? t.oven = some t) :
    (loadWritten g t load p).ticketOf? t.oven = some (loadedTicket load t) := by
  rw [loadWritten, Plant.ticketOf?_congr (judgeLoad_tickets ..), Plant.ticketOf?_modTicket _ _ _ (f := loadedTicket load) fun _ => rfl, h]
  simp

theorem ramAdvanced_matched (ho : p.ticketOf? t.oven = some t)
    (hw : t.waits.pm = .waiting (.step .ramAdvance)) :
    ramAdvanced g t.oven load p =
      tryAdvance g t.number (doneRecorded .pm .ramAdvance (loadedTicket load t) (loadWritten g t load p)) := by
  have matched : machineDone g .pm .ramAdvance t.oven (loadWritten g t load p) = _ :=
    machineDone_matched (m := .pm) (op := .ramAdvance) (t := loadedTicket load t) (loadWritten_ticketOf ho) hw
  rw [ramAdvanced, ho]
  dsimp only
  rw [if_pos hw]
  exact matched

/-- What RAM ADVANCE DONE leaves of a ticket in PUSHING. -/
theorem ramAdvanced_cases (ht : p.ticket? t.number = some t) (ho : p.ticketOf? t.oven = some t)
    (hw : t.waits.pm = .waiting (.step .ramAdvance)) (hs : t.state = .pushing) :
    (doneRecorded .pm .ramAdvance (loadedTicket load t) (loadWritten g t load p)).ticket? t.number =
        some (doneTicket .pm .ramAdvance (loadedTicket load t)) ∧
      (t.suspended = false ∧ t.waits.offtake = .complete ∧ t.waits.gc = .complete ∧ t.waits.car = .complete →
        ramAdvanced g t.oven load p = enterClosing g t.number (doneTicket .pm .ramAdvance (loadedTicket load t))
          (doneRecorded .pm .ramAdvance (loadedTicket load t) (loadWritten g t load p))) ∧
      (¬(t.suspended = false ∧ t.waits.offtake = .complete ∧ t.waits.gc = .complete ∧ t.waits.car = .complete) →
        ramAdvanced g t.oven load p = doneRecorded .pm .ramAdvance (loadedTicket load t) (loadWritten g t load p)) := by
  have ticket : (doneRecorded .pm .ramAdvance (loadedTicket load t) (loadWritten g t load p)).ticket? t.number =
      some (doneTicket .pm .ramAdvance (loadedTicket load t)) := doneRecorded_ticket (t := loadedTicket load t) (loadWritten_ticket ht)
  have complete : waitAfter (loadedTicket load t) .ramAdvance = .complete :=
    waitAfter_complete (.inl (by rw [show (loadedTicket load t).state = t.state from rfl, hs]; decide))
  have empty : (doneTicket .pm .ramAdvance (loadedTicket load t)).waits.empty = true ↔
      t.waits.offtake = .complete ∧ t.waits.gc = .complete ∧ t.waits.car = .complete := by
    rw [doneTicket, complete, Waits.empty_iff]
    exact ⟨fun ⟨ho, _, hg, hc⟩ => ⟨ho, hg, hc⟩, fun ⟨ho, hg, hc⟩ => ⟨ho, rfl, hg, hc⟩⟩
  have state : (doneTicket .pm .ramAdvance (loadedTicket load t)).state = .pushing := hs
  refine ⟨ticket, fun h => ?_, fun h => ?_⟩
  · obtain ⟨suspended, waits⟩ := h
    rw [ramAdvanced_matched ho hw, tryAdvance_pushing ticket (empty.2 waits) suspended state]
  · rw [ramAdvanced_matched ho hw]
    by_cases he : (doneTicket .pm .ramAdvance (loadedTicket load t)).waits.empty = true
    · have suspended : t.suspended = true := by
        by_contra hn
        exact h ⟨Bool.eq_false_iff.2 hn, empty.1 he⟩
      exact tryAdvance_suspended ticket suspended (by rw [state]; decide)
    · exact tryAdvance_waiting ticket (Bool.eq_false_iff.2 he)

end

/-- Settles O41: the ram load judged, and the entry to CLOSING by the last completion. -/
theorem ramAdvanceDoneJudgesTheLoad : Obligations.RamAdvanceDoneJudgesTheLoad := by
  unfold Obligations.RamAdvanceDoneJudgesTheLoad
  intro s t load hs ht hp hon hw hst
  have plant := heard_plant (s := s) (m := .pm) hon
  obtain ⟨ticket, last, rest⟩ := ramAdvanced_cases (g := (heard s .pm).ground) (load := load)
    (p := s.opened.plant) ht.1 ht.2 hw hst
  obtain ⟨hasOven, judged⟩ := judgeLoad_oven (n := t.oven)
    (p := s.opened.plant.modTicket t.number (loadedTicket load)) hp (heard s .pm).ground load
  have told := doneRecorded_keeps .pm .ramAdvance (loadedTicket load t) (loadWritten (heard s .pm).ground t load s.opened.plant)
  have written := (loadWritten_keeps (heard s .pm).ground t load s.opened.plant).trans
    (told.of_subset (l' := .tickets :: Kind.ofOven t.oven) (by simp))
  have oven := (Plant.oven_congr (told.table rfl) t.oven).trans judged
  have hasOven := (Touches.of_ovens (n := t.oven) (told.table rfl)).hasOven.2 hasOven
  have phase := written.phase rfl t.oven
  have closed := enterClosing_closed (g := (heard s .pm).ground) (t := doneTicket .pm .ramAdvance (loadedTicket load t)) ticket
  generalize doneRecorded .pm .ramAdvance (loadedTicket load t) (loadWritten (heard s .pm).ground t load s.opened.plant) = r at *
  have exec_eq : exec (.ramAdvanceDone .pm t.oven load) s =
      .next ({ heard s .pm with plant := ramAdvanced (heard s .pm).ground t.oven load s.opened.plant } : State).settled := by
    rw [← plant]
    exact congrArg Host.Outcome.next (event_doneRecord hs rfl _)
  have trim : (loadJudged (heard s .pm).ground.params load (s.plant.oven t.oven)).trim =
      (if s.ground.params.hardLoad < load then min 1250 ((s.plant.oven t.oven).trim + s.ground.params.trimStep)
      else (s.plant.oven t.oven).trim) := by
    rw [heard_params, loadJudged]
    split <;> rfl
  have hardRun : (loadJudged (heard s .pm).ground.params load (s.plant.oven t.oven)).hardRun =
      (if s.ground.params.hardLoad < load then min 255 ((s.plant.oven t.oven).hardRun + 1) else 0) := by
    rw [heard_params, loadJudged]
    split <;> rfl
  refine ⟨_, exec_eq, rfl, ?_⟩
  by_cases h : t.suspended = false ∧ t.waits.offtake = .complete ∧ t.waits.gc = .complete ∧ t.waits.car = .complete
  · rw [last h]
    obtain ⟨closing, ctrim, crun⟩ := closed.oven hasOven
    have after : Keeps (.of (.tickets :: Kind.ofPhase t.oven ++ Kind.ofTrack)) r _ := closed.keeps
    have keeps := (written.of_subset (l' := .tickets :: .counter :: .log :: Kind.ofPhase t.oven ++ Kind.ofTrack) (by simp)).trans
      (after.of_subset (by simp))
    exact ⟨congrArg (Option.map fun x => x.ram) closed.ticket, (ctrim.trans (congrArg (fun o => o.trim) oven)).trans trim,
      (crun.trans (congrArg (fun o => o.hardRun) oven)).trans hardRun,
      fun _ _ _ _ => ⟨congrArg (Option.map fun x => x.state) closed.ticket, closed.sent.1, closed.sent.2,
        fun hph => closing (phase.trans hph)⟩, fun hn => absurd h hn,
      fun k hk => keeps.oven k (Kinds.of_eq_false (by simp [hk])),
      (closed.keeps.log (by simp [Kinds.of])).trans (written.log (by simp [Kinds.of])), keeps.fill⟩
  · rw [rest h]
    exact ⟨congrArg (Option.map fun x => x.ram) ticket, (congrArg (fun o => o.trim) oven).trans trim,
      (congrArg (fun o => o.hardRun) oven).trans hardRun, fun h1 h2 h3 h4 => absurd ⟨h1, h2, h3, h4⟩ h,
      fun _ => ⟨(congrArg (Option.map fun x => x.state) ticket).trans (congrArg some hst), phase,
        (written.of_subset (l' := .tickets :: .counter :: .log :: Kind.ofOven t.oven) (by simp)).fill⟩,
      fun k hk => written.oven k (Kinds.of_eq_false (by simp [hk])), written.log (by simp [Kinds.of]),
      (written.of_subset (l' := .tickets :: .counter :: .log :: Kind.ofPhase t.oven ++ Kind.ofTrack) (by simp)).fill⟩

end Sys2Proof.Machine
end

section
/-! The DONEs of the doors: EXTRACT DONE, REPLACE DONE and PRESS DONE (R71, R93 to R95), and the last completion of CLOSING
(R75). -/

namespace Sys2Proof.Machine

open Sys2Proof.Safety

/-! ## A change of a door's record sends nothing -/

theorem leaveList_sent (g : Ground) (n : Nat) (side : Side) (p : Plant) : (leaveList g n side p).sent = p.sent := by
  unfold leaveList
  split
  · rw [refill_sent, modSide_sent]
  · rfl

theorem rejudge_sent (g : Ground) (n : Nat) (side : Side) (p : Plant) : (rejudge g n side p).sent = p.sent := by
  unfold rejudge
  split
  · exact joinList_sent ..
  · exact leaveList_sent ..

/-- What a door's record changed leaves of the plant where no ask of its oven pends. -/
structure DoorWritten (p q : Plant) : Prop where
  keeps : Keeps (.of [.list .ps, .list .cs]) p q
  sent : q.sent = p.sent

theorem DoorWritten.refl (p : Plant) : DoorWritten p p := ⟨.refl .., rfl⟩

theorem DoorWritten.trans {p q r : Plant} (h : DoorWritten p q) (h' : DoorWritten q r) : DoorWritten p r :=
  ⟨h.keeps.trans h'.keeps, h'.sent.trans h.sent⟩

theorem DoorWritten.ask {p q : Plant} (h : DoorWritten p q) {n : Nat} (ha : ∀ a, p.ask = some a → a.oven ≠ n) :
    ∀ a, q.ask = some a → a.oven ≠ n := by
  rw [h.keeps.ask rfl]
  exact ha

section
variable {s : State} {n : Nat} {side : Side}

theorem raise_written (s : State) (b : NoticeBody) : DoorWritten s.plant (s.raise b).plant := ⟨raise_keeps .., rfl⟩

theorem putDoor_written (ha : ∀ a, s.plant.ask = some a → a.oven ≠ n) (d : Door) (always : Bool) :
    DoorWritten s.plant (s.putDoor n side d always).plant where
  keeps := putDoor_keeps ha side d always
  sent := by
    have judged : ∀ (c : Bool) (b : NoticeBody) (g : Ground),
        (rejudge g n side (if c then raise g b s.plant else s.plant)).sent = s.plant.sent ∧
          (rejudge g n side (if c then raise g b s.plant else s.plant)).ask = s.plant.ask := fun c b g => by
      have asked := (rejudge_keeps (k := .of [.list side]) (side := side) (by simp [Kinds.of]) g n
        (if c then raise g b s.plant else s.plant)).ask rfl
      rw [rejudge_sent, asked]
      split <;> exact ⟨rfl, rfl⟩
    show (doorChanged n side _ always _ s.plant).sent = _
    unfold doorChanged
    dsimp only
    split
    · rename_i a hask
      rw [if_neg (ha a ((judged _ _ _).2.symm.trans hask))]
      exact (judged _ _ _).1
    · exact (judged _ _ _).1

theorem doorExtracted_written (ha : ∀ a, s.plant.ask = some a → a.oven ≠ n) :
    DoorWritten s.plant (s.doorExtracted n side).plant := by
  unfold State.doorExtracted
  dsimp only
  split
  · exact .refl _
  · exact .refl _
  · split
    · exact putDoor_written ha ..
    · exact raise_written ..

theorem doorReplaced_written (ha : ∀ a, s.plant.ask = some a → a.oven ≠ n) :
    DoorWritten s.plant (s.doorReplaced n side).plant := by
  unfold State.doorReplaced
  dsimp only
  split
  · exact putDoor_written ha ..
  · exact .refl _

theorem pressFailed_written (ha : ∀ a, s.plant.ask = some a → a.oven ≠ n) (force : Nat) :
    DoorWritten s.plant (s.pressFailed n side force).plant := by
  have told := raise_written s (.doorFault n side (.press force s.ground.params.pressLo s.ground.params.pressHi))
  unfold State.pressFailed
  dsimp only
  generalize (if answersClosingPress s.plant n side then _ else _ : Nat) = count
  split
  · exact (told.trans (putDoor_written (told.ask ha) ..)).trans (raise_written ..)
  · exact told.trans (putDoor_written (told.ask ha) ..)

theorem doorPressed_written (ha : ∀ a, s.plant.ask = some a → a.oven ≠ n) (force : Nat) :
    DoorWritten s.plant (s.doorPressed n side force).plant := by
  have judged : DoorWritten s.plant
      (if inBand s.ground.params (min 400 force) then
        s.putDoor n side { state := .pressed, leak := 0, force := min 400 force, count := 0 }
      else s.pressFailed n side (min 400 force)).plant := by
    split
    · exact putDoor_written ha ..
    · exact pressFailed_written ha _
  unfold State.doorPressed
  split
  · exact .refl _
  · exact .refl _
  · exact .refl _
  · exact judged

/-! ## The ground -/

theorem doorExtracted_ground : (s.doorExtracted n side).ground =
    if (s.ground.door n side).state ≠ .unknown ∧ (s.ground.door n side).state ≠ .removed ∧ mayExtract s.plant n = true then
      s.ground.setDoor n side { s.ground.door n side with state := .removed, leak := 0 }
    else s.ground := by
  unfold State.doorExtracted
  dsimp only
  split
  · rename_i h
    rw [h, if_neg (by simp)]
  · rename_i h
    rw [h, if_neg (by simp)]
  · rename_i h1 h2
    by_cases h : mayExtract s.plant n = true
    · rw [if_pos h, if_pos ⟨h1, h2, h⟩]
      rfl
    · rw [if_neg h, if_neg fun e => h e.2.2]
      rfl

theorem doorReplaced_ground : (s.doorReplaced n side).ground =
    if (s.ground.door n side).state = .removed then
      s.ground.setDoor n side { s.ground.door n side with state := .hung, leak := 0 }
    else s.ground := by
  unfold State.doorReplaced
  dsimp only
  split
  · rename_i h
    rw [if_pos h]
    rfl
  · rename_i h
    rw [if_neg h]

end

end Sys2Proof.Machine
end

section
/-! EXTRACT DONE, REPLACE DONE and PRESS DONE (R71, R74, R75, R93 to R95). -/

namespace Sys2Proof.Machine

open Sys2Proof.Safety

section
variable {s : State} {m : Machine} {n force : Nat}

/-- A DONE of an oven without a ticket changes nothing. -/
theorem machineDone_of_none {g : Ground} {op : Op} {p : Plant} (h : p.ticketOf? n = none) : machineDone g m op n p = p := by
  rw [machineDone, h]

theorem DoorWritten.ticketOf {p q : Plant} (h : DoorWritten p q) (n : Nat) : q.ticketOf? n = p.ticketOf? n :=
  Plant.ticketOf?_congr (h.keeps.tickets rfl) n

theorem DoorWritten.ticket {p q : Plant} (h : DoorWritten p q) (num : Nat) : q.ticket? num = p.ticket? num :=
  Plant.ticket?_congr (h.keeps.tickets rfl) num

/-- An EXTRACT DONE or a REPLACE DONE, of an oven with no ticket and no ask. -/
theorem doorDone_unticketed {op : Op} (f : State → State) (hf : DoorWritten s.plant (f s).plant) (hn : s.plant.ticketOf? n = none) :
    ((f s).work fun g p => machineDone g m op n p).plant =
      withTraffic ((f s).work fun g p => machineDone g m op n p).plant
        (withSides ((f s).work fun g p => machineDone g m op n p).plant s.plant) := by
  have same : ((f s).work fun g p => machineDone g m op n p).plant = (f s).plant :=
    machineDone_of_none ((hf.ticketOf n).trans hn)
  rw [same]
  exact hf.keeps.fill

theorem performs_doors (hm : m = .pm ∨ m = .gc) {op : Op} (ho : op = .extract ∨ op = .replace ∨ op = .press) :
    performs m op = true := by
  obtain rfl | rfl := hm <;> obtain rfl | rfl | rfl := ho <;> rfl

theorem exec_extractDone (hs : started s) (hm : m = .pm ∨ m = .gc) :
    exec (.extractDone m n) s = .next (extractEffect m n (heard s m)).settled :=
  congrArg Host.Outcome.next (event_doneRecord hs (performs_doors hm (.inl rfl)) _)

theorem exec_replaceDone (hs : started s) (hm : m = .pm ∨ m = .gc) :
    exec (.replaceDone m n) s = .next (replaceEffect m n (heard s m)).settled :=
  congrArg Host.Outcome.next (event_doneRecord hs (performs_doors hm (.inr (.inl rfl))) _)

theorem exec_pressDone (hs : started s) (hm : m = .pm ∨ m = .gc) :
    exec (.pressDone m n force) s = .next (pressEffect m n force (heard s m)).settled :=
  congrArg Host.Outcome.next (event_doneRecord hs (performs_doors hm (.inr (.inr rfl))) _)

end

/-! ## The entry to GUIDING (R72) -/

section
variable {g : Ground} {t : Ticket} {p : Plant}

/-- The waits of GUIDING. -/
def guidingWaits : Waits := { Waits.none with gc := .waiting (.step .guideLock), car := .waiting (.step .receive) }

/-- The ticket in GUIDING. -/
def guidingTicket (g : Ground) (t : Ticket) : Ticket :=
  { t with
    state := .guiding
    waits := guidingWaits
    entry := g.clock
    timer := some (g.clock + (g.params.tGuide : Int)) }

/-- RECEIVE, to the bound car that stands at the oven (R72). -/
def receiveSent (t : Ticket) (p : Plant) : List (Machine × ToMachine) :=
  ((t.car.filter fun c => (p.car c).state = .atOven).map fun c => (carMachine c, ToMachine.step .receive t.oven)).toList

/-- RECEIVE offered to the ticket's car. -/
def receiveOffered (t : Ticket) (p : Plant) : Plant :=
  match t.car with
  | some c => sendReceive c t.oven p
  | none => p

theorem receiveOffered_sent (t : Ticket) (p : Plant) : (receiveOffered t p).sent = p.sent ++ receiveSent t p := by
  unfold receiveOffered receiveSent
  cases t.car with
  | none => simp
  | some c => by_cases hat : (p.car c).state = .atOven <;> simp [sendReceive, send, hat, Option.filter]

theorem receiveOffered_tickets (t : Ticket) (p : Plant) : (receiveOffered t p).tickets = p.tickets := by
  unfold receiveOffered
  split
  · exact (sendReceive_keeps (.of []) ..).tickets rfl
  · rfl

theorem enterGuiding_eq (g : Ground) (num : Nat) (t : Ticket) (p : Plant) :
    enterGuiding g num t p =
      receiveOffered t (send .gc (.step .guideLock t.oven) (enterStep g num .guiding guidingWaits p)) := rfl

theorem enterStep_sent (g : Ground) (num : Nat) (st : TicketState) (w : Waits) (p : Plant) :
    (enterStep g num st w p).sent = p.sent := by
  unfold enterStep
  split <;> rfl

theorem receiveSent_congr {q : Plant} (h : ∀ c, q.car c = p.car c) : receiveSent t q = receiveSent t p := by
  unfold receiveSent
  congr 3
  funext c
  rw [h c]

/-- What the entry to GUIDING leaves. -/
theorem enterGuiding_entered (ht : p.ticket? t.number = some t) (hs : t.suspended = false) :
    (enterGuiding g t.number t p).ticket? t.number = some (guidingTicket g t) ∧
      (enterGuiding g t.number t p).sent = p.sent ++ ([(Machine.gc, ToMachine.step .guideLock t.oven)] ++ receiveSent t p) ∧
      Keeps (.of [.tickets]) p (enterGuiding g t.number t p) := by
  have keeps := enterGuiding_keeps (k := .of [.tickets]) (by decide) g t.number t p
  have entered := enterStep_keeps (k := .of [.tickets]) (by decide) g t.number .guiding guidingWaits p
  have ticket := enterStep_ticket ht g .guiding guidingWaits
  have sent := enterStep_sent g t.number .guiding guidingWaits p
  rw [enterGuiding_eq] at keeps ⊢
  generalize enterStep g t.number .guiding guidingWaits p = e at *
  refine ⟨?_, ?_, keeps⟩
  · rw [Plant.ticket?_congr (receiveOffered_tickets ..)]
    refine ticket.trans ?_
    simp [guidingTicket, hs, stepTime]
  · rw [receiveOffered_sent, receiveSent_congr (p := p) fun c => (send_car ..).trans (entered.car c rfl), ← sent,
      ← List.append_assoc]
    rfl

/-- A last completion that sends nothing more of its side. -/
theorem doneRecorded_last {m : Machine} {op : Op} (hc : waitAfter t op = .complete)
    (he : (t.waits.setMachine m .complete).empty = true) :
    doneTicket m op t = recordedTicket t ∧ (doneRecorded m op t p).sent = p.sent := by
  refine ⟨?_, ?_⟩
  · rw [doneTicket, hc, recordedTicket, Waits.eq_none_of_empty he]
  · rw [doneRecorded, hc]
    rfl

/-- The last EXTRACT DONE, from a plant in which the door has been written. -/
theorem extractDone_last {m : Machine} {q : Plant} (ht : p.ticket? t.number = some t) (ho : p.ticketOf? t.oven = some t)
    (hq : DoorWritten p q) (hst : t.state = .undooring) (hs : t.suspended = false)
    (hw : t.waits.machine m = .waiting (.step .extract)) (he : (t.waits.setMachine m .complete).empty = true) :
    (machineDone g m .extract t.oven q).ticket? t.number = some (guidingTicket g (recordedTicket t)) ∧
      (machineDone g m .extract t.oven q).sent =
        p.sent ++ ([(Machine.gc, ToMachine.step .guideLock t.oven)] ++ receiveSent t p) ∧
      Keeps (.of [.tickets, .list .ps, .list .cs]) p (machineDone g m .extract t.oven q) := by
  obtain ⟨recorded, sent⟩ := doneRecorded_last (p := q) (m := m) (waitAfter_complete (.inl (by rw [hst]; decide))) he
  have ticket := doneRecorded_ticket (m := m) (op := .extract) ((hq.ticket t.number).trans ht)
  rw [recorded] at ticket
  have done : machineDone g m .extract t.oven q =
      enterGuiding g t.number (recordedTicket t) (doneRecorded m .extract t q) := by
    rw [machineDone_matched ((hq.ticketOf t.oven).trans ho) hw, tryAdvance_undooring ticket rfl hs hst]
  have told := doneRecorded_keeps m .extract t q
  obtain ⟨entered, send, keeps⟩ := enterGuiding_entered (g := g) (t := recordedTicket t) ticket hs
  rw [done]
  refine ⟨entered, ?_, (hq.keeps.of_subset (by simp)).trans ((told.of_subset (by simp)).trans (keeps.of_subset (by simp)))⟩
  have cars : receiveSent (recordedTicket t) (doneRecorded m .extract t q) = receiveSent t p :=
    receiveSent_congr (t := t) fun c => (told.car c rfl).trans (hq.keeps.car c rfl)
  exact send.trans (by rw [sent, hq.sent, cars]; rfl)

end

/-- Settles O38: the door by its state, and the last EXTRACT DONE. -/
theorem doorDonesWriteTheDoor : Obligations.DoorDonesWriteTheDoor := by
  unfold Obligations.DoorDonesWriteTheDoor
  intro s m n hs hm
  dsimp only
  have door := heard_door s m n (machineSide m)
  have extract := exec_extractDone (n := n) hs hm
  have replace := exec_replaceDone (n := n) hs hm
  have unticketed : ∀ (op : Op) (f : State → State), ((∀ a, (heard s m).plant.ask = some a → a.oven ≠ n) →
      DoorWritten (heard s m).plant (f (heard s m)).plant) →
      (heard s m).plant.ticketOf? n = none → (∀ a, (heard s m).plant.ask = some a → a.oven ≠ n) →
      ((f (heard s m)).work fun g p => machineDone g m op n p).plant =
        withTraffic ((f (heard s m)).work fun g p => machineDone g m op n p).plant
          (withSides ((f (heard s m)).work fun g p => machineDone g m op n p).plant (heard s m).plant) :=
    fun op f hf hn ha => doorDone_unticketed f (hf ha) hn
  have extracted := unticketed .extract (fun s => s.doorExtracted n (machineSide m)) doorExtracted_written
  have replaced := unticketed .replace (fun s => s.doorReplaced n (machineSide m)) doorReplaced_written
  have extractGround := doorExtracted_ground (s := heard s m) (n := n) (side := machineSide m)
  have replaceGround := doorReplaced_ground (s := heard s m) (n := n) (side := machineSide m)
  rw [door] at extractGround replaceGround
  refine ⟨fun h1 h2 h3 => ⟨_, extract, extractGround.trans (if_pos ⟨h1, h2, h3⟩), extracted⟩, fun h =>
    ⟨_, extract, extractGround.trans (if_neg ?_), extracted⟩, fun h => ⟨_, replace, replaceGround.trans (if_pos h), replaced⟩,
    fun h => ⟨_, replace, replaceGround.trans (if_neg h), replaced⟩, fun t ht hto hst hsus hon hw he ha => ⟨_, extract, ?last⟩⟩
  · rintro ⟨h1, h2, h3⟩
    obtain h | h | h := h
    · exact h1 h
    · exact h2 h
    · exact Bool.false_ne_true (h.symm.trans h3)
  case last =>
    subst hto
    have plant := heard_plant hon
    have asks : ∀ a, (heard s m).plant.ask = some a → a.oven ≠ t.oven := by rw [plant]; exact ha
    have written : DoorWritten s.opened.plant ((heard s m).doorExtracted t.oven (machineSide m)).plant := by
      rw [← plant]
      exact doorExtracted_written asks
    obtain ⟨ticket, sent, keeps⟩ := extractDone_last (g := ((heard s m).doorExtracted t.oven (machineSide m)).ground)
      (p := s.opened.plant) ht.1 ht.2 written hst hsus hw he
    have clock : ((heard s m).doorExtracted t.oven (machineSide m)).ground.clock = s.ground.clock ∧
        ((heard s m).doorExtracted t.oven (machineSide m)).ground.params = s.ground.params := by
      rw [doorExtracted_ground]
      split
      · exact ⟨heard_clock .., heard_params ..⟩
      · exact ⟨heard_clock .., heard_params ..⟩
    rw [guidingTicket, clock.1, clock.2] at ticket
    have cars : receiveSent t s.opened.plant = receiveSent t s.plant := receiveSent_congr (opened_car s)
    exact ⟨ticket, sent.trans (congrArg (fun l => [(Machine.gc, ToMachine.step .guideLock t.oven)] ++ l) cars),
      (keeps.of_subset (l' := [.tickets, .counter, .log, .list .ps, .list .cs]) (by simp)).fill⟩

end Sys2Proof.Machine
end

section
/-! PRESS DONE (R75, R93, R95). -/

namespace Sys2Proof.Machine

open Sys2Proof.Safety

section
variable {s : State} {n force : Nat} {side : Side}

/-- A door's record as a press leaves it (R95). -/
def judgedDoor (q : Params) (closing : Bool) (force : Nat) (d : Door) : Door :=
  if q.pressLo ≤ force ∧ force ≤ q.pressHi then { state := .pressed, leak := 0, force := force, count := 0 }
  else if closing = true then { state := .pressFault, leak := 0, force := force, count := d.count }
  else if min q.repressTries (d.count + 1) = q.repressTries then
    { state := .defect, leak := 0, force := force, count := min q.repressTries (d.count + 1) }
  else { state := .pressFault, leak := 0, force := force, count := min q.repressTries (d.count + 1) }

theorem pressFailed_ground : (s.pressFailed n side force).ground = s.ground.setDoor n side
    (if answersClosingPress s.plant n side = true then
      { state := .pressFault, leak := 0, force := force, count := (s.ground.door n side).count }
    else if min s.ground.params.repressTries ((s.ground.door n side).count + 1) = s.ground.params.repressTries then
      { state := .defect, leak := 0, force := force,
        count := min s.ground.params.repressTries ((s.ground.door n side).count + 1) }
    else
      { state := .pressFault, leak := 0, force := force,
        count := min s.ground.params.repressTries ((s.ground.door n side).count + 1) }) := by
  unfold State.pressFailed raisedCount
  dsimp only
  cases answersClosingPress s.plant n side with
  | true => rfl
  | false =>
    rw [if_neg Bool.false_ne_true, if_neg Bool.false_ne_true]
    by_cases h : min s.ground.params.repressTries ((s.ground.door n side).count + 1) = s.ground.params.repressTries
    · rw [if_pos (by simpa using h), if_pos h]
      rfl
    · rw [if_neg (by simpa using h), if_neg h]
      rfl

theorem doorPressed_ground (h : (s.ground.door n side).state = .hung ∨ (s.ground.door n side).state = .pressed ∨
    (s.ground.door n side).state = .pressFault) :
    (s.doorPressed n side force).ground = s.ground.setDoor n side
      (judgedDoor s.ground.params (answersClosingPress s.plant n side) (min 400 force) (s.ground.door n side)) := by
  have judged : (s.doorPressed n side force) =
      if inBand s.ground.params (min 400 force) then
        s.putDoor n side { state := .pressed, leak := 0, force := min 400 force, count := 0 }
      else s.pressFailed n side (min 400 force) := by
    unfold State.doorPressed
    obtain h | h | h := h <;> rw [h]
  rw [judged, judgedDoor]
  by_cases hb : s.ground.params.pressLo ≤ min 400 force ∧ min 400 force ≤ s.ground.params.pressHi
  · rw [if_pos (by simpa [inBand] using hb), if_pos hb]
    rfl
  · rw [if_neg (by simpa [inBand] using hb), if_neg hb, pressFailed_ground]

theorem doorPressed_stays (h : (s.ground.door n side).state = .unknown ∨ (s.ground.door n side).state = .removed ∨
    (s.ground.door n side).state = .defect) : s.doorPressed n side force = s := by
  unfold State.doorPressed
  obtain h | h | h := h <;> rw [h]

/-- A PRESS DONE ends no job on another oven. -/
theorem endJob_of_other {g : Ground} {p : Plant} (h : ∀ j, (p.side side).job = some j → j.oven ≠ n) : endJob g side n p = p := by
  unfold endJob
  split
  · rename_i j hj
    simp [h j hj]
  · rfl

theorem pressEffect_unserved {m : Machine} (hn : s.plant.ticketOf? n = none) (ha : ∀ a, s.plant.ask = some a → a.oven ≠ n)
    (hj : ∀ j, (s.plant.side (machineSide m)).job = some j → j.oven ≠ n) :
    (pressEffect m n force s).plant =
      withTraffic (pressEffect m n force s).plant (withSides (pressEffect m n force s).plant s.plant) := by
  have written := doorPressed_written (side := machineSide m) ha force
  have answered := pressAnswered_keeps (.of [.list .ps, .list .cs]) m n (s.doorPressed n (machineSide m) force).plant
  have same : (pressEffect m n force s).plant = pressAnswered m n (s.doorPressed n (machineSide m) force).plant := by
    have none : (pressAnswered m n (s.doorPressed n (machineSide m) force).plant).ticketOf? n = none :=
      (written.ticketOf n).trans hn
    show endJob _ _ _ (machineDone _ _ _ _ _) = _
    rw [machineDone_of_none none]
    refine endJob_of_other fun j h => hj j ?_
    rw [← written.keeps.job _ (by simp [Kinds.of]), ← answered.job _ (by simp [Kinds.of])]
    exact h
  rw [same]
  exact (written.keeps.trans answered).fill

end

/-- Settles O39: the door by its state and the press force. -/
theorem pressDoneJudgesTheDoor : Obligations.PressDoneJudgesTheDoor := by
  unfold Obligations.PressDoneJudgesTheDoor
  intro s m n force hs hm
  dsimp only
  have door := heard_door s m n (machineSide m)
  refine ⟨fun h => ⟨_, exec_pressDone hs hm, pressEffect_unserved, ?_⟩, fun h => ⟨_, exec_pressDone hs hm, ?_, pressEffect_unserved⟩⟩
  · rw [← door] at h
    have ground := doorPressed_ground (force := force) h
    rw [door, heard_params] at ground
    exact ground
  · rw [← door] at h
    show ((heard s m).doorPressed n (machineSide m) force).ground = _
    rw [doorPressed_stays h]

/-! ## The last completion of CLOSING (R74, R75) -/

section
variable {g : Ground} {t : Ticket} {p q : Plant} {m : Machine}

/-- A PRESS DONE's end of a job keeps both machines free. -/
theorem endJob_free (h : p.claimPm = .free ∧ p.claimGc = .free) (g : Ground) (side : Side) (n : Nat) :
    (endJob g side n p).claimPm = .free ∧ (endJob g side n p).claimGc = .free := by
  unfold endJob
  split
  · split
    · have closed := (closeJob_idle g side n p).2
      have keeps := (closeJob_keeps (k := .of (Kind.ofJob side)) (Kinds.of_has (List.Subset.refl _)) g n p).trans
        (start_keeps _ (.testJob side) _)
      cases side with
      | ps => exact ⟨closed, (keeps.claim .gc (by decide)).trans h.2⟩
      | cs => exact ⟨(keeps.claim .pm (by decide)).trans h.1, closed⟩
    · exact h
  · exact h

/-- The last PRESS DONE, from a plant in which the door has been judged. -/
theorem pressDone_last (ht : p.ticket? t.number = some t) (ho : p.ticketOf? t.oven = some t) (hst : t.state = .closing)
    (hs : t.suspended = false) (hw : t.waits.machine m = .waiting (.step .press))
    (he : (t.waits.setMachine m .complete).empty = true) :
    machineDone g m .press t.oven p = completeTicket g t.number (doneRecorded m .press t p) ∧
      (doneRecorded m .press t p).ticket? t.number = some (recordedTicket t) := by
  obtain ⟨recorded, -⟩ := doneRecorded_last (p := p) (m := m) (waitAfter_complete (.inr rfl)) he
  have ticket := doneRecorded_ticket (m := m) (op := .press) ht
  rw [recorded] at ticket
  refine ⟨?_, ticket⟩
  rw [machineDone_matched ho hw, tryAdvance_closing ticket rfl hs hst]

/-- A ticket that leaves the list leaves it alike however it was changed. -/
theorem modTicket_dropped (p : Plant) (num : Nat) {f : Ticket → Ticket} (hf : ∀ t, (f t).number = t.number) :
    ((p.modTicket num f).tickets.filter fun x => x.number ≠ num) = p.tickets.filter fun x => x.number ≠ num := by
  unfold Plant.modTicket
  dsimp only
  induction p.tickets with
  | nil => rfl
  | cons t l ih =>
    rw [List.map_cons]
    by_cases ht : t.number = num
    · rw [if_pos ht, List.filter_cons_of_neg (by simp [hf, ht]), List.filter_cons_of_neg (by simp [ht]), ih]
    · rw [if_neg ht, List.filter_cons_of_pos (by simp [ht]), List.filter_cons_of_pos (by simp [ht]), ih]

theorem doneRecorded_dropped (m : Machine) (op : Op) (t : Ticket) (p : Plant) :
    ((doneRecorded m op t p).tickets.filter fun x => x.number ≠ t.number) = p.tickets.filter fun x => x.number ≠ t.number := by
  rw [doneRecorded, (nextSent_keeps (.of []) ..).tickets rfl]
  exact modTicket_dropped p t.number (f := fun x => { x with waits := x.waits.setMachine m (waitAfter t op) }) fun _ => rfl

end

theorem doorPressed_clock (s : State) (n force : Nat) (side : Side) :
    (s.doorPressed n side force).ground.clock = s.ground.clock ∧ (s.doorPressed n side force).ground.params = s.ground.params := by
  have goes := s.doorPressed_goes (w := fun _ => false) n side force
  exact ⟨goes.clock rfl, (goes.settings rfl).1⟩

/-- Settles O42: a complete retirement by the last PRESS DONE. -/
theorem closingRetiresTheTicket : Obligations.ClosingRetiresTheTicket := by
  unfold Obligations.ClosingRetiresTheTicket
  intro s t m force hs ht hst hsus hm hon hw he ha
  have plant := heard_plant hon
  have asks : ∀ a, (heard s m).plant.ask = some a → a.oven ≠ t.oven := by rw [plant]; exact ha
  have written : DoorWritten s.opened.plant ((heard s m).doorPressed t.oven (machineSide m) force).plant := by
    rw [← plant]
    exact doorPressed_written asks force
  obtain ⟨clock, params⟩ := doorPressed_clock (heard s m) t.oven force (machineSide m)
  rw [heard_clock] at clock
  rw [heard_params] at params
  have e : (pressEffect m t.oven force (heard s m)).plant = endJob ((heard s m).doorPressed t.oven (machineSide m) force).ground
      (machineSide m) t.oven (machineDone ((heard s m).doorPressed t.oven (machineSide m) force).ground m .press t.oven
        (pressAnswered m t.oven ((heard s m).doorPressed t.oven (machineSide m) force).plant)) := rfl
  generalize ((heard s m).doorPressed t.oven (machineSide m) force).ground = g at *
  have answered := pressAnswered_keeps (.of []) m t.oven ((heard s m).doorPressed t.oven (machineSide m) force).plant
  have before := written.keeps.trans (answered.of_subset (l' := [.list .ps, .list .cs]) (by simp))
  generalize pressAnswered m t.oven ((heard s m).doorPressed t.oven (machineSide m) force).plant = q at *
  have ticket : q.ticket? t.number = some t := (Plant.ticket?_congr (before.tickets rfl) _).trans ht.1
  have ticketOf : q.ticketOf? t.oven = some t := (Plant.ticketOf?_congr (before.tickets rfl) _).trans ht.2
  obtain ⟨done, recorded⟩ := pressDone_last (g := g) ticket ticketOf hst hsus hw he
  have completed : Completed g (recordedTicket t) (doneRecorded m .press t q)
      (completeTicket g t.number (doneRecorded m .press t q)) := completeTicket_completed recorded
  have dropped := doneRecorded_dropped m .press t q
  have told := doneRecorded_keeps m .press t q
  have ended := endJob_keeps (k := .of (Kind.ofJob (machineSide m))) (Kinds.of_has (List.Subset.refl _)) g t.oven
    (completeTicket g t.number (doneRecorded m .press t q))
  have free := endJob_free completed.free g (machineSide m) t.oven
  have kept : Keeps (.of (Kind.ofCancel t.oven)) (doneRecorded m .press t q) (completeTicket g t.number (doneRecorded m .press t q)) :=
    completeTicket_keeps (Kinds.serves_of recorded (List.Subset.trans (Kind.ofTicket_subset _) (by simp [recordedTicket])))
      (by simp [Kinds.of]) (Kinds.of_has (by simp)) g
  rw [done] at e
  generalize completeTicket g t.number (doneRecorded m .press t q) = c at *
  have first := (before.of_subset (l' := [.tickets, .list .ps, .list .cs]) (by simp)).trans (told.of_subset (by simp))
  have all := (first.of_subset (l' := .job .ps :: .job .cs :: Kind.ofCancel t.oven) (by simp)).trans
    ((kept.of_subset (by simp)).trans (ended.of_subset (by cases machineSide m <;> simp [sideMachine])))
  have oven : ∀ k, (endJob g (machineSide m) t.oven c).oven k = c.oven k := fun k => ended.oven k (by simp [Kinds.of])
  have car : ∀ x, (endJob g (machineSide m) t.oven c).car x = c.car x := fun x => ended.car x (by simp [Kinds.of])
  refine ⟨pressEffect m t.oven force (heard s m), exec_pressDone hs hm, ?_⟩
  rw [e]
  refine ⟨?tickets, ⟨logRecordOf g (doneRecorded m .press t q) (recordedTicket t) .complete none, ?log, rfl, rfl, rfl, rfl, rfl,
    clock, rfl, rfl⟩, fun hp hph => ?oven, fun x hx => ⟨?unbound, ?otherCar⟩, free.1, free.2, fun k hk => ?others, fun task h => ?agenda,
    fun hc => ?ranked, all.fill⟩
  case tickets =>
    rw [ended.tickets (by simp [Kinds.of]), completed.tickets]
    exact dropped.trans (by rw [before.tickets rfl]; rfl)
  case log =>
    rw [ended.log (by simp [Kinds.of]), completed.log, first.log rfl]
    rfl
  case oven =>
    have table := first.table rfl
    have empty : c.oven t.oven = _ := completed.oven ((Touches.of_ovens (n := t.oven) table).hasOven.2 hp)
      ((congrArg (fun o => o.phase) (Plant.oven_congr table _)).trans hph)
    rw [oven, empty, clock, params]
    refine ⟨rfl, rfl, rfl, rfl, rfl, ?_⟩
    exact (accrueOven_valve ..).trans (congrArg (fun o => o.valve) (Plant.oven_congr table _))
  case unbound => rw [car, completed.unbound x hx]
  case otherCar => rw [car, completed.keeps.otherCar hx, first.car _ rfl, opened_car]
  case others => exact all.oven k (Kinds.of_eq_false (by simp [hk]))
  case agenda => exact ended.agenda (completed.agenda task h)
  case ranked =>
    have none : Ranked s.opened.plant.agenda := by
      rw [show s.opened.plant.agenda = [] from hc]
      exact List.Pairwise.nil
    exact all.ranked none

end Sys2Proof.Machine
end

section
/-! The cars: CAR SERVICE, and their cycle (R150, R154 to R156, R159, R161). -/

namespace Sys2Proof.Machine

open Sys2Proof.Safety

/-- A car's record without what a run writes: its state, its span and its target. -/
def CarRecord.rest (r : CarRecord) : CarRecord := { r with state := .parked, span := none, target := none }

section
variable {g : Ground} {c : Car} {x n : Nat} {p : Plant}

/-! ## What a run leaves of a car's record (R150) -/

theorem setCarState_rest (g : Ground) (c : Car) (new : CarState) (p : Plant) :
    ((setCarState g c new p).car c).rest = (p.car c).rest := by
  rw [setCarState_car_same]
  rfl

theorem arrive_rest (g : Ground) (c : Car) (x : Nat) (p : Plant) : ((arrive g c x p).car c).rest = (p.car c).rest := by
  unfold arrive
  dsimp only
  split
  · split <;> simp [CarRecord.rest]
  · simp [CarRecord.rest]
  · split <;> simp [CarRecord.rest]
  · simp [CarRecord.rest]

theorem requestTarget_rest (g : Ground) (c : Car) (x : Nat) (p : Plant) :
    ((requestTarget g c x p).car c).rest = (p.car c).rest := by
  unfold requestTarget
  dsimp only
  split
  · simp [CarRecord.rest]
  · split
    · split
      · rw [arrive_rest]
        simp [CarRecord.rest]
      · simp [CarRecord.rest]
    · simp [CarRecord.rest]

theorem runToTower_rest (g : Ground) (c : Car) (p : Plant) : ((runToTower g c p).car c).rest = (p.car c).rest :=
  (requestTarget_rest ..).trans (setCarState_rest ..)

theorem startRun_rest (g : Ground) (c : Car) (n : Nat) (p : Plant) : ((startRun g c n p).car c).rest = (p.car c).rest := by
  unfold startRun
  dsimp only
  split
  · rw [start_car, setCarState_rest]
  · split
    · rw [requestTarget_rest, setCarState_rest]
    · rfl

/-- The state a run's arrival or grant leaves. -/
theorem requestTarget_state (hs : (p.car c).state = .runToWharf) :
    ((requestTarget g c x p).car c).state = .runToWharf ∨ ((requestTarget g c x p).car c).state = .dumping := by
  unfold requestTarget
  dsimp only
  split
  · simp [hs]
  · split
    · split
      · unfold arrive
        dsimp only
        simp only [modCar_car_same, hs]
        split <;> simp
      · simp [hs]
    · simp [hs]

/-! ## A run to the tower (R150, R155) -/

/-- A car may be granted the stretch to a position. -/
def mayRunTo (g : Ground) (p : Plant) (c : Car) (y x : Nat) : Bool :=
  g.running && !p.trackHold && clearStretch g p c (min y x) (max y x)

/-- What a run to the tower leaves of a car at a known position. -/
structure RanToTower (g : Ground) (c : Car) (y : Nat) (p q : Plant) : Prop where
  arrived : mayRunTo g p c y (towerSpot g c) = true → y = towerSpot g c → (p.car c).moving = false →
    (q.car c).state = .waterWait ∧ (q.car c).target = none ∧ (q.car c).span = some (y, y)
  granted : mayRunTo g p c y (towerSpot g c) = true → ¬(y = towerSpot g c ∧ (p.car c).moving = false) →
    (q.car c).state = .runToTower ∧ (q.car c).target = some { position := towerSpot g c, granted := true } ∧
      (q.car c).span = some (min y (towerSpot g c), max y (towerSpot g c)) ∧
      (carMachine c, ToMachine.move (towerSpot g c)) ∈ q.sent
  pending : mayRunTo g p c y (towerSpot g c) = false →
    (q.car c).state = .runToTower ∧ (q.car c).target = some { position := towerSpot g c, granted := false } ∧
      (q.car c).span = (p.car c).span

theorem clearStretch_setCarState (g : Ground) (c : Car) (new : CarState) (p : Plant) (lo hi : Nat) :
    clearStretch g (setCarState g c new p) c lo hi = clearStretch g p c lo hi := by
  unfold clearStretch
  rw [setCarState_car_other]

theorem mayRunTo_setCarState (g : Ground) (c : Car) (new : CarState) (p : Plant) (y x : Nat) :
    mayRunTo g (setCarState g c new p) c y x = mayRunTo g p c y x := by
  have hold : (setCarState g c new p).trackHold = p.trackHold :=
    (setCarState_writes (k := .of [.car c]) (by simp [Kinds.of]) g new p).trackHold (by simp [Kinds.of])
  rw [mayRunTo, clearStretch_setCarState, hold, mayRunTo]

/-- What a granted run writes of its car. -/
def grantedRun (y x : Nat) (r : CarRecord) : CarRecord :=
  { r with span := some (min y x, max y x), target := some { position := x, granted := true } }

theorem requestTarget_stands {y : Nat} (hy : (p.car c).position = some y) (hmay : mayRunTo g p c y x = true) (hx : y = x)
    (hm : (p.car c).moving = false) : requestTarget g c x p = arrive g c x (p.modCar c (grantedRun y x)) := by
  unfold mayRunTo at hmay
  unfold requestTarget grantedRun
  simp only [hy, hm, Nat.min_comm x y, Nat.max_comm x y]
  rw [if_pos hmay, if_pos (by simp [hx])]

theorem requestTarget_runs {y : Nat} (hy : (p.car c).position = some y) (hmay : mayRunTo g p c y x = true)
    (hx : ¬(y = x ∧ (p.car c).moving = false)) :
    requestTarget g c x p = send (carMachine c) (.move x) (p.modCar c (grantedRun y x)) := by
  unfold mayRunTo at hmay
  unfold requestTarget grantedRun
  simp only [hy, Nat.min_comm x y, Nat.max_comm x y]
  rw [if_pos hmay, if_neg (by simpa using hx)]

theorem requestTarget_pends {y : Nat} (hy : (p.car c).position = some y) (hmay : mayRunTo g p c y x = false) :
    requestTarget g c x p = p.modCar c fun r => { r with target := some { position := x, granted := false } } := by
  unfold mayRunTo at hmay
  unfold requestTarget
  simp only [hy, Nat.min_comm x y, Nat.max_comm x y]
  rw [if_neg (by rw [hmay]; decide)]

theorem runToTower_ran {y : Nat} (hy : (p.car c).position = some y) : RanToTower g c y p (runToTower g c p) := by
  have may := mayRunTo_setCarState g c .runToTower p y (towerSpot g c)
  have record := setCarState_car_same g c .runToTower p
  have position : ((setCarState g c .runToTower p).car c).position = some y := by rw [record]; exact hy
  unfold runToTower
  generalize setCarState g c .runToTower p = q at *
  have moving : (p.car c).moving = (q.car c).moving := by rw [record]
  have span : (p.car c).span = (q.car c).span := by rw [record]
  have state : (q.car c).state = .runToTower := by rw [record]
  refine ⟨fun hmay hx hm => ?arrived, fun hmay hx => ?granted, fun hmay => ?pending⟩
  case arrived =>
    rw [requestTarget_stands position (may.trans hmay) hx (moving ▸ hm), hx]
    unfold arrive
    simp [grantedRun, state, setCarState_car_same]
  case granted =>
    rw [requestTarget_runs position (may.trans hmay) (moving ▸ hx)]
    rw [send_car, modCar_car_same]
    exact ⟨state, rfl, rfl, List.mem_append_right _ (List.mem_singleton_self _)⟩
  case pending =>
    rw [requestTarget_pends position (may.trans hmay)]
    simp [state, span]

end

/-! ## CAR SERVICE (R161) -/

section
variable {g : Ground} {c : Car} {p : Plant}

/-- The recovery of a loaded car: it runs to its tower under its hot dwell timer. -/
def recoveryRun (g : Ground) (c : Car) (p : Plant) : Plant := runToTower g c (setHot g c (p.modCar c recovered))

theorem carRecover_loaded {x : Nat} (hx : (p.car c).position = some x) (hl : (p.car c).loaded = true) (d : Car) :
    (carRecover g c p).car d = (recoveryRun g c p).car d ∧ (carRecover g c p).sent = (recoveryRun g c p).sent := by
  have run : ((p.car c).position.isSome && (p.car c).loaded) = true := by simp [hx, hl]
  unfold carRecover
  simp only [run, if_true]
  split
  · exact ⟨start_car .., rfl⟩
  · exact ⟨rfl, rfl⟩

theorem carRecover_parked (h : (p.car c).position = none ∨ (p.car c).loaded = false) :
    (carRecover g c p).car c = { recovered (p.car c) with state := .parked } := by
  have park : ((p.car c).position.isSome && (p.car c).loaded) = false := by
    rcases h with h | h <;> simp [h]
  unfold carRecover
  simp only [park, Bool.false_eq_true, if_false]
  split
  · rw [start_car, setCarState_car_same, modCar_car_same]
    rfl
  · rw [setCarState_car_same, modCar_car_same]
    rfl

theorem mayRunTo_congr {q : Plant} (hold : q.trackHold = p.trackHold) (other : q.car (otherCar c) = p.car (otherCar c)) (y x : Nat) :
    mayRunTo g q c y x = mayRunTo g p c y x := by
  unfold mayRunTo clearStretch
  rw [hold, other]

/-- The record a loaded car is brought back with, before it runs. -/
theorem setHot_recovered (g : Ground) (c : Car) (p : Plant) : (setHot g c (p.modCar c recovered)).car c =
    { recovered (p.car c) with loading := some g.clock, hot := some (g.clock + (g.params.hotDwell : Int) + 1) } := by
  rw [setHot, modCar_car_same, modCar_car_same]

theorem setHot_recovered_mayRunTo (g : Ground) (c : Car) (p : Plant) (y x : Nat) :
    mayRunTo g (setHot g c (p.modCar c recovered)) c y x = mayRunTo g p c y x :=
  mayRunTo_congr (by simp [setHot]) (by simp [setHot]) y x

theorem ordered_congr {q : Plant} (other : q.car (otherCar c) = p.car (otherCar c)) (x : Nat) :
    ordered g q c x = ordered g p c x := by
  unfold ordered
  rw [other]

theorem carIn_car (hf : (p.car c).state ≠ .fault) (d : Car) :
    (carIn g c p).car d = (p.modCar c fun r => { r with inService := true }).car d := by
  unfold carIn
  rw [if_neg hf]
  dsimp only
  split
  · exact start_car ..
  · rfl

/-- What a car brought back from FAULT comes to. -/
structure Recovered (g : Ground) (c : Car) (p q : Plant) : Prop where
  fault : (q.car c).fault = none
  inService : (q.car c).inService = true
  position : (q.car c).position = (p.car c).position
  parked : ((p.car c).position = none ∨ (p.car c).loaded = false) →
    (q.car c).state = .parked ∧ (q.car c).span = (p.car c).position.map fun x => (x, x)
  runs : ∀ x, (p.car c).position = some x → (p.car c).loaded = true →
    (q.car c).loading = some g.clock ∧ (q.car c).hot = some (g.clock + (g.params.hotDwell : Int) + 1) ∧
    (mayRunTo g p c x (towerSpot g c) = true → x = towerSpot g c → (p.car c).moving = false →
      (q.car c).state = .waterWait ∧ (q.car c).target = none ∧ (q.car c).span = some (x, x)) ∧
    (mayRunTo g p c x (towerSpot g c) = true → ¬(x = towerSpot g c ∧ (p.car c).moving = false) →
      (q.car c).state = .runToTower ∧ (q.car c).target = some { position := towerSpot g c, granted := true } ∧
      (q.car c).span = some (min x (towerSpot g c), max x (towerSpot g c)) ∧
      (carMachine c, ToMachine.move (towerSpot g c)) ∈ q.sent) ∧
    (mayRunTo g p c x (towerSpot g c) = false →
      (q.car c).state = .runToTower ∧ (q.car c).target = some { position := towerSpot g c, granted := false } ∧
      (q.car c).span = some (x, x))

theorem carRecover_recovered (g : Ground) (c : Car) (p : Plant) : Recovered g c p (carRecover g c p) := by
  by_cases h : (p.car c).position = none ∨ (p.car c).loaded = false
  · have record := carRecover_parked (g := g) h
    refine ⟨by rw [record]; rfl, by rw [record]; rfl, by rw [record]; rfl, fun _ => by rw [record]; exact ⟨rfl, rfl⟩,
      fun x hx hl => ?_⟩
    simp [hx, hl] at h
  · obtain ⟨hposition, hload⟩ := not_or.1 h
    obtain ⟨y, hy⟩ := Option.ne_none_iff_exists'.1 hposition
    have hload : (p.car c).loaded = true := by simpa using hload
    have record := (carRecover_loaded (g := g) hy hload c).1
    have sent := (carRecover_loaded (g := g) hy hload c).2
    generalize carRecover g c p = q at *
    have start := setHot_recovered g c p
    have ran := runToTower_ran (g := g) (c := c) (p := setHot g c (p.modCar c recovered)) (y := y) (by rw [start]; exact hy)
    have rest := runToTower_rest g c (setHot g c (p.modCar c recovered))
    have may := setHot_recovered_mayRunTo g c p y (towerSpot g c)
    unfold recoveryRun at *
    generalize runToTower g c (setHot g c (p.modCar c recovered)) = q' at *
    rw [← record, start] at rest
    have fault := congrArg CarRecord.fault rest
    have inService := congrArg CarRecord.inService rest
    have position := congrArg CarRecord.position rest
    have loading := congrArg CarRecord.loading rest
    have hot := congrArg CarRecord.hot rest
    refine ⟨fault, inService, position, fun h' => absurd h' h, fun x hx _ => ⟨loading, hot, ?_, ?_, ?_⟩⟩
    all_goals
      cases hy.symm.trans hx
      rw [record, ← may]
    · exact fun hmay hx hm => ran.arrived hmay hx (by rw [start]; exact hm)
    · rw [sent]
      exact fun hmay hx => ran.granted hmay (by rw [start]; exact hx)
    · intro hmay
      obtain ⟨state, target, span⟩ := ran.pending hmay
      exact ⟨state, target, span.trans (by rw [start]; exact congrArg (Option.map fun x => (x, x)) hy)⟩

theorem carIn_recovers (hf : (p.car c).state = .fault) : carIn g c p = carRecover g c p := by
  rw [carIn, if_pos hf]

end

section
variable {s s₀ : State} {port : Port} {tag : Byte} {r : Request} {c : Car} {v : Service}

theorem car_of_takes (ht : takes s port tag r s₀) (d : Car) : s₀.plant.car d = s.plant.car d :=
  plant_of_takes ht (fun p => p.car d) fun _ _ _ _ => by cases d <;> rfl

theorem hold_of_takes (ht : takes s port tag r s₀) : s₀.plant.trackHold = s.plant.trackHold :=
  plant_of_takes ht (fun p => p.trackHold) fun _ _ _ _ => rfl

theorem carServiceChecks_of_takes (ht : takes s port tag r s₀) : carServiceChecks c v s₀ = carServiceChecks c v s := by
  obtain ⟨sup, pnl, rfl⟩ := state_of_takes ht
  cases c <;> rfl

/-- CAR SERVICE with both its fields given comes to the conditions of its own. -/
theorem firstRefusal_carService (ht : takes s port tag r s₀) (hw : working s) :
    firstRefusal ([whileStarting s₀, unlessConfigured s₀, badField ((some c).isNone || (some v).isNone)] ++
      carServiceChecks c v s₀) = firstRefusal (carServiceChecks c v s) := by
  obtain ⟨hstarting, hconfigured⟩ := working_of_takes ht hw
  rw [carServiceChecks_of_takes ht]
  simp [whileStarting, unlessConfigured, badField, hstarting, hconfigured]

theorem carIn_fills (ht : takes s port tag r s₀)
    (ho : (s.plant.car c).state = .fault → ∀ x, (s.plant.car c).position = some x → ordered s.ground s.plant c x = true) :
    Keeps (.of (Kind.ofCar c)) s₀.plant (carIn s₀.ground c s₀.plant) := by
  refine carIn_keeps (Kinds.of_has (List.Subset.refl _)) fun hf x hx => ?_
  rw [ordered_congr (car_of_takes ht _), ground_of_takes ht]
  exact ho (car_of_takes ht c ▸ hf) x (car_of_takes ht c ▸ hx)

theorem carKept_track {q : Plant} (h : Keeps (.of (Kind.ofCar c)) s₀.plant q) (ht : takes s port tag r s₀) :
    q = withTraffic q (withTrack q s.plant) :=
  (Keeps.of_subset (l' := Kind.ofTrack) h (by cases c <;> simp)).fill_of_takes ht

theorem carKept_other {q : Plant} (h : Keeps (.of (Kind.ofCar c)) s₀.plant q) (ht : takes s port tag r s₀) :
    q.car (otherCar c) = s.plant.car (otherCar c) :=
  (h.car _ (by cases c <;> rfl)).trans (car_of_takes ht _)

end

/-- Settles O51: the request's conditions one by one, then its three outcomes. -/
theorem carServiceTakesCarsOutAndIn : Obligations.CarServiceTakesCarsOutAndIn := by
  unfold Obligations.CarServiceTakesCarsOutAndIn
  refine fun s s₀ port tag c hw => ⟨fun ht => ⟨fun hb hc => ?out, fun hb => ?bound⟩, fun ht => ⟨fun hf => ?inService,
    fun hf => ⟨fun hl => ?link, fun hl hg => ?grant, fun x hl hg hx ho => ?order⟩, fun hf hl hg ho => ?recovery⟩⟩
  case out =>
    have calmed : s₀.plant.agenda = [] := calm_of_takes ht hc
    refine (accepted_of_takes_calm_eq ht ?_ rfl ?_).trans ?_
    · refine (firstRefusal_carService ht hw).trans ?_
      simp [carServiceChecks, hb]
    · cases c <;> exact calmed
    · rw [← car_of_takes ht c, ← modCar_car_same s₀.plant c fun r => { r with inService := false }]
      rfl
  case bound =>
    refine refused_of_takes ht ?_
    refine (firstRefusal_carService ht hw).trans ?_
    simp [carServiceChecks, hb]
  case inService =>
    have keeps := carIn_fills ht (c := c) fun h => absurd h hf
    have record : (carIn s₀.ground c s₀.plant).car c = { s.plant.car c with inService := true } := by
      rw [carIn_car (car_of_takes ht c ▸ hf), modCar_car_same, car_of_takes ht]
    refine ⟨s₀.work fun g p => carIn g c p, (accepted_of_takes_eq ht ?_ rfl).trans ?_, (State.work_ground ..).trans (ground_of_takes ht), record,
      carKept_other keeps ht, carKept_track keeps ht⟩
    · refine (firstRefusal_carService ht hw).trans ?_
      simp [carServiceChecks, hf]
    · rw [← record]
      rfl
  case link =>
    refine refused_of_takes ht ?_
    refine (firstRefusal_carService ht hw).trans ?_
    simp [carServiceChecks, hf, hl]
  case grant =>
    refine refused_of_takes ht ?_
    refine (firstRefusal_carService ht hw).trans ?_
    simp [carServiceChecks, hf, hl, hg]
  case order =>
    refine refused_of_takes ht ?_
    refine (firstRefusal_carService ht hw).trans ?_
    simp [carServiceChecks, hf, hl, hg, hx, ho]
  case recovery =>
    have keeps := carIn_fills ht (c := c) fun _ => ho
    have fault : (s₀.plant.car c).state = .fault := car_of_takes ht c ▸ hf
    refine ⟨s₀.work fun g p => carIn g c p, (carIn s₀.ground c s₀.plant).car c, accepted_of_takes_eq ht ?_ rfl,
      (State.work_ground ..).trans (ground_of_takes ht), rfl, ?_⟩
    · refine (firstRefusal_carService ht hw).trans ?_
      simp [carServiceChecks, hf, hl, hg, Option.any_eq_false]
      exact ho
    rw [ground_of_takes ht, carIn_recovers fault] at keeps
    simp only [ground_of_takes ht, carIn_recovers fault]
    have back := carRecover_recovered s.ground c s₀.plant
    rw [State.work_plant, ground_of_takes ht, carIn_recovers fault]
    generalize carRecover s.ground c s₀.plant = q at *
    have record := car_of_takes ht c
    refine ⟨back.fault, back.inService, record ▸ back.position, fun h => record ▸ back.parked (record ▸ h),
      fun x hx hload => ?_, carKept_other keeps ht, carKept_track keeps ht⟩
    have runs := back.runs x (record ▸ hx) (record ▸ hload)
    have may := mayRunTo_congr (g := s.ground) (hold_of_takes ht) (car_of_takes ht (otherCar c)) x (towerSpot s.ground c)
    obtain ⟨loading, hot, arrived, granted, pending⟩ := runs
    rw [record, may] at *
    exact ⟨loading, hot, arrived, granted, pending⟩

end Sys2Proof.Machine
end

section
/-! A car's cycle: RECEIVE DONE, DUMP DONE and the drain (R72, R73, R154 to R156). -/

namespace Sys2Proof.Machine

open Sys2Proof.Safety

section
variable {g : Ground} {c : Car} {p : Plant} {t : Ticket} {cmd : Cmd}

/-! ## The completion of a bound car (R66) -/

/-- A ticket with its car's completion recorded. -/
def carRecorded (t : Ticket) : Ticket := { t with waits := { t.waits with car := .complete } }

theorem carDone_matched (hb : (p.car c).bound = some t.number) (ht : p.ticket? t.number = some t)
    (hw : t.waits.car = .waiting cmd) :
    carDone g c cmd p = tryAdvance g t.number (p.modTicket t.number carRecorded) := by
  simp only [carDone, hb, ht, hw, if_true]
  rfl

theorem carDone_unmatched (hb : (p.car c).bound = some t.number) (ht : p.ticket? t.number = some t)
    (hw : t.waits.car ≠ .waiting cmd) : carDone g c cmd p = p := by
  simp only [carDone, hb, ht, if_neg hw]

theorem carRecorded_ticket (ht : p.ticket? t.number = some t) :
    (p.modTicket t.number carRecorded).ticket? t.number = some (carRecorded t) :=
  p.ticket?_modTicket_of_some ht fun _ => rfl

theorem carRecorded_of_last (he : (carRecorded t).waits.empty = true) : carRecorded t = recordedTicket t := by
  show ({ t with waits := (carRecorded t).waits } : Ticket) = _
  rw [Waits.eq_none_of_empty he]
  rfl

/-- The car's completion as the last of GUIDING (R72). -/
theorem carDone_guiding_last (hb : (p.car c).bound = some t.number) (ht : p.ticket? t.number = some t)
    (hst : t.state = .guiding) (hw : t.waits.car = .waiting cmd) (he : (carRecorded t).waits.empty = true) :
    carDone g c cmd p = guidingDone g t.number (recordedTicket t) (p.modTicket t.number carRecorded) := by
  rw [carDone_matched hb ht hw, tryAdvance_guiding (carRecorded_ticket ht) he hst, carRecorded_of_last he]

/-- The car's completion in GUIDING moves its ticket alone (R72). -/
theorem carDone_guiding_keeps (hb : (p.car c).bound = some t.number) (ht : p.ticket? t.number = some t)
    (hst : t.state = .guiding) (g : Ground) (cmd : Cmd) : Keeps (.of (Kind.ofPush t.oven)) p (carDone g c cmd p) := by
  by_cases hw : t.waits.car = .waiting cmd
  · have recorded : Keeps (.of (Kind.ofPush t.oven)) p (p.modTicket t.number carRecorded) :=
      modTicket_keeps (by simp [Kinds.of]) _ _ p
    cases he : (carRecorded t).waits.empty with
    | false =>
      rw [carDone_matched hb ht hw, tryAdvance_waiting (carRecorded_ticket ht) he]
      exact recorded
    | true =>
      rw [carDone_guiding_last hb ht hst hw he]
      exact recorded.trans (guidingDone_keeps_push g t.number (recordedTicket t) _)
  · rw [carDone_unmatched hb ht hw]
    exact .refl _ p

/-! ## RECEIVE DONE (R154) -/

/-- The plant with the car in RECEIVING. -/
def receivingCar (g : Ground) (c : Car) (p : Plant) : Plant :=
  setCarState g c .receiving (p.modCar c fun r => { r with loading := none })

theorem receivingCar_car : (receivingCar g c p).car c = { p.car c with loading := none, state := .receiving } := by
  rw [receivingCar, setCarState_car_same, modCar_car_same]

theorem receivingCar_keeps (hs : (p.car c).state = .atOven) : Keeps (.of (Kind.ofCar c)) p (receivingCar g c p) := by
  have loading : Keeps (.of (Kind.ofCar c)) p (p.modCar c fun r => { r with loading := none }) :=
    modCar_keeps (Kinds.of_has (List.Subset.refl _)) (fun hr => carSound_congr hr rfl rfl rfl rfl rfl) rfl id
  exact loading.trans (setCarState_keeps (Kinds.of_has (List.Subset.refl _)) g (by simp [hs]) (by decide) (by decide))

theorem receiveDone_at (hs : (p.car c).state = .atOven) (hb : (p.car c).bound = some t.number)
    (ht : p.ticket? t.number = some t) :
    receiveDone g c t.oven p = carDone g c (.step .receive) (receivingCar g c p) := by
  rw [receiveDone, if_pos (by simp [hs, boundOven, hb, ht])]
  rfl

/-! ## DUMP DONE and the drain (R155, R156) -/

/-- The plant with the car emptied and parked. -/
def emptiedCar (g : Ground) (c : Car) (p : Plant) : Plant :=
  setCarState g c .parked (p.modCar c fun r => { r with loaded := false })

theorem dumpDone_dumping (hs : (p.car c).state = .dumping) :
    ((dumpDone g c p).car c).loaded = false ∧ ((p.car c).bound = none → ((dumpDone g c p).car c).state = .parked) := by
  have record : (emptiedCar g c p).car c = { p.car c with loaded := false, state := .parked } := by
    rw [emptiedCar, setCarState_car_same, modCar_car_same]
  have goes : dumpDone g c p = match boundOven (emptiedCar g c p) c with
    | some n => startRun g c n (emptiedCar g c p)
    | none => emptiedCar g c p := by
    rw [dumpDone, if_pos hs]
    rfl
  rw [goes]
  cases hb : boundOven (emptiedCar g c p) c with
  | none => exact ⟨by rw [record], fun _ => by rw [record]⟩
  | some n =>
    refine ⟨(congrArg CarRecord.loaded (startRun_rest g c n (emptiedCar g c p))).trans (congrArg CarRecord.loaded record),
      fun h => ?_⟩
    simp [boundOven, record, h] at hb

theorem drainReached_due {x : Time} (hd : (p.car c).drain = some x) (hdue : x ≤ g.clock) :
    ((drainReached g c p).car c).drain = none ∧
      (((drainReached g c p).car c).state = .runToWharf ∨ ((drainReached g c p).car c).state = .dumping) := by
  have goes : drainReached g c p = requestTarget g c (wharfSpot g c) (setCarState g c .runToWharf
      (p.modCar c fun r => { r with drain := none })) := by
    simp only [drainReached, hd, if_neg (not_lt.2 hdue)]
  rw [goes]
  refine ⟨(congrArg CarRecord.drain ((requestTarget_rest ..).trans (setCarState_rest ..))).trans ?_,
    requestTarget_state (by rw [setCarState_car_same])⟩
  rw [CarRecord.rest, modCar_car_same]

end

/-- Settles O52: the three events by what they make of the car, of its ticket, and of the rest. -/
theorem carsGoThroughTheirCycle : Obligations.CarsGoThroughTheirCycle := by
  unfold Obligations.CarsGoThroughTheirCycle
  intro s c
  have hpm : carMachine c ≠ .pm := by cases c <;> decide
  have hgc : carMachine c ≠ .gc := by cases c <;> decide
  have machineCar : machineCar (carMachine c) = some c := by cases c <;> rfl
  have car : ∀ d, (heard s (carMachine c)).plant.car d = s.plant.car d := fun d =>
    (heard_plant_of hpm hgc (fun p => p.car d) (fun _ _ _ => by cases d <;> rfl) s).trans (opened_car s d)
  have other : Kinds.of (Kind.ofCar c) (.car (otherCar c)) = false := by cases c <;> rfl
  have track : Kind.ofCar c ⊆ Kind.ofTrack := by cases c <;> simp
  refine ⟨fun n num t hs hat hb ht hn hst => ?receive, fun n hs hd => ?dump, fun x hx hdue => ?drain⟩
  case receive =>
    obtain rfl : t.number = num := (Plant.ticket?_eq_some ht).2
    subst hn
    have hat := (congrArg CarRecord.state (car c)).trans hat
    have hb := (congrArg CarRecord.bound (car c)).trans hb
    have ht : (heard s (carMachine c)).plant.ticket? t.number = some t :=
      (heard_plant_of hpm hgc (fun p => p.ticket? t.number) (fun _ _ _ => rfl) s).trans ht
    have lastPush := heard_plant_of hpm hgc (fun p => p.lastPushStart) (fun _ _ _ => rfl) s
    have ovens := heard_plant_of hpm hgc (fun p => p.ovens) (fun _ _ _ => rfl) s
    have work : receiveEffect (carMachine c) t.oven (heard s (carMachine c)) =
        (heard s (carMachine c)).work fun g p => receiveDone g c t.oven p := by
      rw [receiveEffect, machineCar]
    have at' := receivingCar_keeps (g := (heard s (carMachine c)).ground) hat
    have record := receivingCar_car (g := (heard s (carMachine c)).ground) (c := c) (p := (heard s (carMachine c)).plant)
    have received := receiveDone_at (g := (heard s (carMachine c)).ground) hat hb ht
    generalize receivingCar (heard s (carMachine c)).ground c (heard s (carMachine c)).plant = q at *
    have hb : (q.car c).bound = some t.number := by rw [record]; exact hb
    have ht : q.ticket? t.number = some t := (Plant.ticket?_congr (at'.tickets (by simp [Kinds.of])) t.number).trans ht
    have done := carDone_guiding_keeps (c := c) hb ht hst (heard s (carMachine c)).ground (.step .receive)
    have whole := (at'.of_subset (l' := Kind.ofPush t.oven ++ Kind.ofTrack) (List.Subset.trans track (by simp))).trans
      (done.of_subset (by simp))
    refine ⟨(heard s (carMachine c)).work fun g p => receiveDone g c t.oven p, congrArg Host.Outcome.next ?_, rfl, ?_, ?_, ?_⟩
    · rw [← work]
      exact event_doneRecord hs (by cases c <;> rfl) _
    all_goals rw [State.work_plant, received]
    · rw [done.car c (by simp [Kinds.of]), record]
    · intro hw he
      have ended := guidingDone_ended (g := (heard s (carMachine c)).ground) (t := t) (p := s.plant)
        (q := q.modTicket t.number carRecorded) (carRecorded_of_last he ▸ carRecorded_ticket ht)
        (at'.lastPush (by simp [Kinds.of]) |>.trans lastPush) (at'.table (by simp [Kinds.of]) |>.trans ovens)
      rw [carDone_guiding_last hb ht hst hw he]
      simpa only [guidingEnded, heard_clock, heard_params] using ended
    · refine ⟨fun k hk => ?_, ?_, ?_, ?_⟩
      · exact (whole.oven k (Kinds.of_eq_false (by simp [hk]))).trans ((Plant.oven_congr ovens k).trans rfl)
      · exact (whole.log (by simp [Kinds.of])).trans (heard_plant_of hpm hgc (fun p => p.log) (fun _ _ _ => rfl) s)
      · exact ((done.car _ (Kinds.of_eq_false (by simp))).trans (at'.car _ other)).trans (car _)
      · exact (whole.of_subset (l' := .counter :: .log :: Kind.ofPush t.oven ++ Kind.ofTrack) (by simp)).fill_of_heard hpm hgc
  case dump =>
    have hd := (congrArg CarRecord.state (car c)).trans hd
    obtain ⟨loaded, parked⟩ := dumpDone_dumping (g := (heard s (carMachine c)).ground) hd
    have keeps := dumpDone_keeps (k := .of (Kind.ofCar c)) (Kinds.of_has (List.Subset.refl _))
      (heard s (carMachine c)).ground (heard s (carMachine c)).plant
    have work : dumpEffect (carMachine c) (heard s (carMachine c)) =
        (heard s (carMachine c)).work fun g p => dumpDone g c p := by
      rw [dumpEffect, machineCar]
    refine ⟨(heard s (carMachine c)).work fun g p => dumpDone g c p, congrArg Host.Outcome.next ?_, rfl, loaded,
      fun h => parked ((congrArg CarRecord.bound (car c)).trans h), (keeps.car _ other).trans (car _),
      (keeps.of_subset (l' := Kind.ofTrack) track).fill_of_heard hpm hgc⟩
    rw [← work]
    exact event_doneRecord hs (by cases c <;> rfl) _
  case drain =>
    have hd := (congrArg CarRecord.drain (opened_car s c)).trans hx
    obtain ⟨drain, state⟩ := drainReached_due (g := s.ground) hd hdue
    have keeps := drainReached_keeps (k := .of (Kind.ofCar c)) (Kinds.of_has (List.Subset.refl _)) s.ground s.opened.plant
    exact ⟨s.opened.work fun g p => drainReached g c p, rfl, rfl, drain, state, (keeps.car _ other).trans (opened_car s _),
      (keeps.of_subset (l' := Kind.ofTrack) track).fill⟩

end Sys2Proof.Machine
end

section
/-! SUPPORT. The water arbiter, and the reports of a car by their stages (R145, R151, R157). -/

namespace Sys2Proof.Machine

open Sys2Proof.Safety

section
variable {g : Ground} {c : Car} {x : Nat} {moving loaded : Bool} {p : Plant}

/-! ## The arbiter (R157) -/

/-- The arbiter may give a car the water: its tower's node is ONLINE and unfaulted. -/
def towerFit (g : Ground) (c : Car) : Bool := (g.towerNode c).online && !(g.towerNode c).fault

/-- What the arbiter leaves when it looks with the grant free. -/
structure Arbitrated (g : Ground) (p q : Plant) : Prop where
  grant : q.grant = p.waiting.find? fun c => towerFit g c
  spray : ∀ k, q.grant = some k → q.spray k = true
  waiting : ∀ k, q.grant = some k → q.waiting = p.waiting.filter (· ≠ k)

theorem Arbitrated.not_waiting {q : Plant} (h : Arbitrated g p q) {k : Car} (hk : q.grant = some k) : k ∉ q.waiting := by
  rw [h.waiting k hk]
  simp

theorem lookForGrant_arbitrated (h : p.grant = none) : Arbitrated g p (lookForGrant g p) := by
  unfold lookForGrant
  rw [h]
  dsimp only
  cases hk : p.waiting.find? fun c => (g.towerNode c).online && !(g.towerNode c).fault with
  | none => exact ⟨h.trans hk.symm, fun k e => (nomatch h.symm.trans e), fun k e => (nomatch h.symm.trans e)⟩
  | some k =>
    refine ⟨Eq.trans ?_ hk.symm, fun j e => ?_, fun j e => ?_⟩
    · cases k <;> rfl
    all_goals
      obtain rfl : k = j := by cases k <;> exact Option.some.inj e
      cases k <;> rfl

theorem lookForGrant_held {k : Car} (h : p.grant = some k) : lookForGrant g p = p := by
  rw [lookForGrant, h]

/-! ## A report of a car by its stages (R145) -/

/-- The plant with a report judged by the track unit, before the push sequencer is told. -/
def judgedReport (g : Ground) (c : Car) (x : Nat) (moving loaded : Bool) (p : Plant) : Plant :=
  if (p.car c).position.isNone then firstReport g c x (p.modCar c (reported x moving loaded))
  else spanReport g c x moving (p.modCar c (reported x moving loaded))

/-- The other car's target is looked at again where a report moved the span. -/
def recheckOther (old : CarRecord) (c : Car) (p : Plant) : Plant :=
  if old.position.isNone || (p.car c).span ≠ old.span then start (.recheckTarget (otherCar c)) p else p

theorem carReport_eq : carReport g c x moving loaded p =
    recheckOther (p.car c) c (tellSequencer g c (judgedReport g c x moving loaded p)) := rfl

theorem recheckOther_keeps (k : Kinds) (old : CarRecord) (c : Car) (p : Plant) : Keeps k p (recheckOther old c p) :=
  .ite (fun _ => start_keeps ..) fun _ => .refl k p

/-- A report that is not the first to show its car loaded tells the sequencer at most that it came. -/
theorem tellSequencer_keeps_rest (k : Kinds) (h : firstLoaded (p.car c) = false) : Keeps k p (tellSequencer g c p) := by
  unfold tellSequencer
  rw [h]
  exact .ite (fun _ => start_keeps ..) fun _ => .refl k p

theorem spanReport_arrives {t : Target} (hf : (p.car c).state ≠ .fault) (hin : inSpan x (p.car c).span = true)
    (ht : (p.car c).target = some t) (hx : t.position = x) :
    spanReport g c x false p = arrive g c x (p.modCar c fun r => { r with span := some (trimmedSpan x r.target) }) := by
  simp [spanReport, hf, hin, ht, hx]

/-- A car at its target at rest. -/
def standing (x : Nat) (r : CarRecord) : CarRecord := { r with target := none, span := some (x, x) }

theorem arrive_tower (hs : (p.car c).state = .runToTower) :
    arrive g c x p = requestWater g c (setCarState g c .waterWait (p.modCar c (standing x))) := by
  unfold arrive
  dsimp only
  simp only [modCar_car_same, hs]
  rfl

end

/-! ## A valid reply of the offtake line (R124) -/

/-- The state with a reply's node record written. -/
def nodeWritten (s : State) (address : Nat) (reply : NodeReply) : State :=
  { s.received .offtake with
    ground := (s.received .offtake).ground.setNode address (replied (s.ground.node address) reply) }

theorem Ground.setNode_base (g : Ground) (address : Nat) (r : NodeLine) :
    (g.setNode address r).toGroundBase = g.toGroundBase := by
  unfold Ground.setNode
  split
  · rfl
  · split
    · rfl
    · split <;> rfl

theorem nodeWritten_base (s : State) (address : Nat) (reply : NodeReply) :
    (nodeWritten s address reply).ground.toGroundBase = s.ground.toGroundBase := Ground.setNode_base ..

@[simp] theorem nodeWritten_clock (s : State) (address : Nat) (reply : NodeReply) :
    (nodeWritten s address reply).ground.clock = s.ground.clock := congrArg (fun g : GroundBase => g.clock) (nodeWritten_base ..)

@[simp] theorem nodeWritten_params (s : State) (address : Nat) (reply : NodeReply) :
    (nodeWritten s address reply).ground.params = s.ground.params :=
  congrArg (fun g : GroundBase => g.params) (nodeWritten_base ..)

theorem otlReplied_taken {s : State} {x : Poll} {reply : NodeReply} (hp : s.ground.poll = some x)
    (hf : replyFits x.address reply = true) :
    s.otlReplied x.address reply =
      ((nodeWritten s x.address reply).work (replyTaken (s.ground.node x.address) x reply)).nextExchange x := by
  unfold State.otlReplied
  simp only [show (s.received .offtake).ground.poll = some x from hp, hf, decide_true, Bool.and_self, if_true]
  rfl

/-- An unfaulted reply of a node that was ONLINE is the unit's action alone. -/
theorem replyTaken_plain {g : Ground} {p : Plant} {old : NodeLine} {x : Poll} {reply : NodeReply} (ho : old.online = true)
    (hr : replyFaulted reply = false) : replyTaken old x reply g p = actOnReply g x.address x.carried reply p := by
  simp [replyTaken, ho, hr]

theorem State.work_congr {s : State} {f f' : Ground → Plant → Plant} (h : f s.ground s.plant = f' s.ground s.plant) :
    s.work f = s.work f' := congrArg (fun q : Plant => { s with plant := q }) h

theorem otlReplied_plain {s : State} {x : Poll} {reply : NodeReply} (hp : s.ground.poll = some x)
    (hf : replyFits x.address reply = true) (ho : (s.ground.node x.address).online = true) (hr : replyFaulted reply = false) :
    s.otlReplied x.address reply =
      ((nodeWritten s x.address reply).work fun g p => actOnReply g x.address x.carried reply p).nextExchange x := by
  rw [otlReplied_taken hp hf]
  exact congrArg (State.nextExchange · x) (State.work_congr (replyTaken_plain ho hr))

/-! ## A POS record (R163, R165) -/

section
variable {s : State} {m : Machine} {x : Nat} {moving loaded : Bool}

/-- A mirror as a POS record writes it. -/
def mirrored (x : Nat) (moving : Bool) (r : Mirror) : Mirror := { r with position := some x, moving := moving }

/-- The state with the mirror written by a POS record, and the notice of a change raised. -/
def posMirrored (s : State) (m : Machine) (x : Nat) (moving : Bool) : State :=
  let t : State := { s with ground := s.ground.modMirror m (mirrored x moving) }
  if (s.ground.mirror m).position ≠ some x || (s.ground.mirror m).moving ≠ moving then t.raise (.machinePos m x moving) else t

theorem posRecord_car {c : Car} (hm : machineCar m = some c) (hc : s.ground.configured = true) :
    s.posRecord m x moving loaded = (posMirrored s m x moving).work fun g p => carReport g c x moving loaded p := by
  have configured : (posMirrored s m x moving).ground.configured = true := by
    unfold posMirrored
    dsimp only
    split <;> (cases m <;> exact hc)
  rw [show s.posRecord m x moving loaded = match machineCar m with
    | some c => if (posMirrored s m x moving).ground.configured then
        (posMirrored s m x moving).work fun g p => carReport g c x moving loaded p else posMirrored s m x moving
    | none => (posMirrored s m x moving).work (reportHanded m ((s.ground.mirror m).position ≠ some x)) from rfl, hm]
  exact if_pos configured

theorem posRecord_other (hm : machineCar m = none) : s.posRecord m x moving loaded =
    (posMirrored s m x moving).work (reportHanded m ((s.ground.mirror m).position ≠ some x)) := by
  rw [show s.posRecord m x moving loaded = match machineCar m with
    | some c => if (posMirrored s m x moving).ground.configured then
        (posMirrored s m x moving).work fun g p => carReport g c x moving loaded p else posMirrored s m x moving
    | none => (posMirrored s m x moving).work (reportHanded m ((s.ground.mirror m).position ≠ some x)) from rfl, hm]

theorem posMirrored_ground (s : State) (m : Machine) (x : Nat) (moving : Bool) :
    (posMirrored s m x moving).ground = s.ground.setMirror m (mirrored x moving (s.ground.mirror m)) := by
  unfold posMirrored
  dsimp only
  split <;> rfl

theorem posMirrored_plant_ports (s : State) (m : Machine) (x : Nat) (moving : Bool) :
    ∃ sup pnl, (posMirrored s m x moving).plant = { s.plant with sup := sup, pnl := pnl } := by
  unfold posMirrored
  dsimp only
  split
  · exact ⟨_, _, rfl⟩
  · exact ⟨_, _, rfl⟩

/-- The state in which a POS record goes to the work it concerns. -/
def posHeard (s : State) (m : Machine) (x : Nat) (moving : Bool) : State := posMirrored (heard s m) m x moving

/-- What does not hang on the mirrors and the receivers is as it was. -/
theorem ground_of_posHeard {α : Type} (f : Ground → α) (hm : ∀ g m r, f (g.setMirror m r) = f g)
    (hr : ∀ (g : Ground) rx, f { g with rx := rx } = f g) (s : State) (m : Machine) (x : Nat) (moving : Bool) :
    f (posHeard s m x moving).ground = f s.ground := by
  rw [posHeard, posMirrored_ground, hm]
  exact ground_of_heard f hm hr s m

/-- What does not hang on the ports is as it was, for a machine whose contact does no more than raise a notice. -/
theorem plant_of_posHeard {α : Type} (hpm : m ≠ .pm) (hgc : m ≠ .gc) (f : Plant → α)
    (hf : ∀ p sup pnl, f { p with sup := sup, pnl := pnl } = f p) (s : State) (x : Nat) (moving : Bool) :
    f (posHeard s m x moving).plant = f s.opened.plant := by
  obtain ⟨_, _, e⟩ := posMirrored_plant_ports (heard s m) m x moving
  rw [posHeard, e, hf]
  exact heard_plant_of hpm hgc f hf s

theorem car_of_posHeard {c : Car} (hm : machineCar m = some c) (s : State) (x : Nat) (moving : Bool) (d : Car) :
    (posHeard s m x moving).plant.car d = s.plant.car d :=
  (plant_of_posHeard (by rintro rfl; cases hm) (by rintro rfl; cases hm) (fun p => p.car d)
    (fun _ _ _ => by cases d <;> rfl) s x moving).trans (opened_car s d)

/-- A POS record of a configured car. -/
theorem event_carPos {c : Car} (hs : started s) (hm : machineCar m = some c) (hc : s.ground.configured = true) :
    exec (.machinePos m x moving loaded) s =
      .next ((posHeard s m x moving).work fun g p => carReport g c x moving loaded p).settled := by
  have configured : (heard s m).ground.configured = true :=
    (ground_of_heard (fun g => g.configured) (fun _ m _ => by cases m <;> rfl) (fun _ _ => rfl) s m).trans hc
  exact congrArg Host.Outcome.next ((event_record hs _).trans (congrArg State.settled (posRecord_car hm configured)))

end

end Sys2Proof.Machine
end

section
/-! The water (R155, R157, R158). -/

namespace Sys2Proof.Machine

open Sys2Proof.Safety

section
variable {g : Ground} {c : Car} {p : Plant} {on : Bool}

/-! ## Arrival at the tower -/

/-- The plant with the car waiting at its tower, before the arbiter looks. -/
def waitingCar (g : Ground) (c : Car) (x : Nat) (p : Plant) : Plant := setCarState g c .waterWait (p.modCar c (standing x))

/-- What the arrival of a car at its tower leaves. -/
structure Waiting (g : Ground) (c : Car) (x : Nat) (p q : Plant) : Prop where
  state : (q.car c).state = .waterWait
  target : (q.car c).target = none
  span : (q.car c).span = some (x, x)
  granted : p.grant = none → p.waiting = [] → towerFit g c = true → q.grant = some c ∧ q.spray c = true ∧ q.waiting = []
  queued : p.grant ≠ none → c ∉ p.waiting → q.grant = p.grant ∧ q.waiting = p.waiting ++ [c]

theorem arrive_waiting {x : Nat} (hs : (p.car c).state = .runToTower) : Waiting g c x p (arrive g c x p) := by
  have keeps : Writes (.of [.car c]) p (waitingCar g c x p) :=
    (modCar_writes (by simp [Kinds.of]) _ p).trans (setCarState_writes (by simp [Kinds.of]) g _ _)
  have record : (waitingCar g c x p).car c = { standing x (p.car c) with state := .waterWait } := by
    rw [waitingCar, setCarState_car_same, modCar_car_same]
  rw [arrive_tower hs]
  change Waiting g c x p (requestWater g c (waitingCar g c x p))
  have grant := keeps.grant (by simp [Kinds.of])
  have waiting := keeps.waiting (by simp [Kinds.of])
  generalize waitingCar g c x p = q at *
  refine ⟨by simp [record], by simp [record, standing], by simp [record, standing], fun hg hw hfit => ?granted,
    fun hg hw => ?queued⟩
  case granted =>
    have asks : requestWater g c q = lookForGrant g { q with waiting := [c] } := by
      simp [requestWater, waiting, hw]
    have looks := lookForGrant_arbitrated (g := g) (p := { q with waiting := [c] }) (grant.trans hg)
    rw [asks]
    have given := looks.grant.trans (List.find?_cons_of_pos hfit)
    exact ⟨given, looks.spray c given, (looks.waiting c given).trans (by simp)⟩
  case queued =>
    obtain ⟨k, hk⟩ := Option.ne_none_iff_exists'.1 hg
    have asks : requestWater g c q = { q with waiting := p.waiting ++ [c] } := by
      rw [requestWater, waiting, if_neg (by simpa using hw)]
      exact lookForGrant_held (grant.trans hk)
    rw [asks]
    exact ⟨grant, rfl⟩

/-- A report of a car at rest at its tower, to which it runs under a grant. -/
theorem carReport_waiting {l h x : Nat} {loaded : Bool} (hs : (p.car c).state = .runToTower)
    (hp : (p.car c).position ≠ none) (hspan : (p.car c).span = some (l, h)) (hl : l ≤ x) (hh : x ≤ h)
    (ht : (p.car c).target = some { position := x, granted := true }) :
    Waiting g c x p (carReport g c x false loaded p) := by
  have judged : Waiting g c x p (judgedReport g c x false loaded p) := by
    rw [judgedReport, if_neg (by simpa using hp),
      spanReport_arrives (t := { position := x, granted := true }) (by simp [reported, hs])
        (by simp [reported, hspan, inSpan, hl, hh]) (by simpa [reported] using ht) rfl, modCar_modCar]
    obtain ⟨state, target, span, granted, queued⟩ := arrive_waiting (g := g) (x := x) (c := c)
      (p := p.modCar c fun r => { reported x false loaded r with span := some (trimmedSpan x (reported x false loaded r).target) })
      (by simp [reported, hs])
    exact ⟨state, target, span, by simpa using granted, by simpa using queued⟩
  have rest : Keeps (.of []) (judgedReport g c x false loaded p) (carReport g c x false loaded p) := by
    rw [carReport_eq]
    exact (tellSequencer_keeps_rest _ (by simp [firstLoaded, judged.state])).trans (recheckOther_keeps ..)
  obtain ⟨state, target, span, granted, queued⟩ := judged
  generalize carReport g c x false loaded p = q at *
  have car := rest.car c rfl
  exact ⟨car ▸ state, car ▸ target, car ▸ span,
    fun a b e => ⟨(rest.grant rfl).trans (granted a b e).1, (rest.spray rfl c).trans (granted a b e).2.1,
      (rest.waiting rfl).trans (granted a b e).2.2⟩,
    fun a b => ⟨(rest.grant rfl).trans (queued a b).1, (rest.waiting rfl).trans (queued a b).2⟩⟩

/-! ## The reports of the spray (R158) -/

/-- The record of a car whose quench begins. -/
def quenching (g : Ground) (r : CarRecord) : CarRecord :=
  { r with state := .quenching, hot := none, quench := some (g.clock + (g.params.quenchTime : Int)) }

/-- The record of a car that begins to drain. -/
def draining (g : Ground) (r : CarRecord) : CarRecord :=
  { r with state := .draining, drain := some (g.clock + (g.params.drainTime : Int)) }

/-- The drain of a car begun, which ends at once where it takes no time. -/
def drainDue (g : Ground) (c : Car) (p : Plant) : Plant := if g.params.drainTime = 0 then start (.drain c) p else p

theorem drainDue_keeps (k : Kinds) (g : Ground) (c : Car) (p : Plant) : Keeps k p (drainDue g c p) :=
  .ite (fun _ => start_keeps ..) fun _ => .refl k p

theorem Arbitrated.congr {p' q q' : Plant} (h : Arbitrated g p q) (hp : p'.waiting = p.waiting) (hq : Writes (.of []) q q') :
    Arbitrated g p' q' := by
  obtain ⟨grant, spray, waiting⟩ := h
  rw [← hp] at grant waiting
  have hg := hq.grant rfl
  exact ⟨hg.trans grant, fun k hk => (hq.spray rfl k).trans (spray k (hg ▸ hk)),
    fun k hk => (hq.waiting rfl).trans (waiting k (hg ▸ hk))⟩

theorem sprayReported_on (hg : p.grant = some c) (hs : p.spray c = true) (hw : (p.car c).state = .waterWait) :
    (sprayReported g c true p).car c = quenching g (p.car c) ∧ (sprayReported g c true p).grant = some c ∧
      (sprayReported g c true p).waiting = p.waiting := by
  have goes : sprayReported g c true p = setCarState g c .quenching (p.modCar c fun r =>
      { r with hot := none, quench := some (g.clock + (g.params.quenchTime : Int)) }) := by
    simp [sprayReported, hg, hs, hw]
  have keeps : Writes (.of [.car c]) p (sprayReported g c true p) := by
    rw [goes]
    exact (modCar_writes (by simp [Kinds.of]) _ p).trans (setCarState_writes (by simp [Kinds.of]) g _ _)
  refine ⟨?_, (keeps.grant (by simp [Kinds.of])).trans hg, keeps.waiting (by simp [Kinds.of])⟩
  rw [goes, setCarState_car_same, modCar_car_same]
  rfl

theorem withPorts_of_eq {q : Plant} (h : q = p) : q = { p with sup := q.sup, pnl := q.pnl } := by
  subst h
  rfl

theorem sprayReported_unconfirmed (hg : p.grant = some c) (hs : on ≠ p.spray c) : sprayReported g c on p = p := by
  cases on <;> simp_all [sprayReported]

theorem sprayReported_free (hg : p.grant = none) : sprayReported g c on p = lookForGrant g p := by
  simp [sprayReported, hg]

/-- The spray confirmed OFF: the grant is released, and a quench ends. -/
theorem sprayReported_off (hg : p.grant = some c) (hs : p.spray c = false) :
    Arbitrated g { p with grant := none } (sprayReported g c false p) ∧
      ((p.car c).state = .quenching → (sprayReported g c false p).car c = draining g (p.car c)) ∧
      ((p.car c).state ≠ .quenching → (sprayReported g c false p).car c = p.car c) := by
  by_cases hq : (p.car c).state = .quenching
  · have ended := modCar_writes (k := .of [.car c]) (c := c) (by simp [Kinds.of])
      (fun r => { r with drain := some (g.clock + (g.params.drainTime : Int)) }) p
    have ended := ended.trans (setCarState_writes (c := c) (by simp [Kinds.of]) g .draining _)
    have record := setCarState_car_same g c .draining (p.modCar c fun r =>
      { r with drain := some (g.clock + (g.params.drainTime : Int)) })
    rw [modCar_car_same] at record
    have goes : sprayReported g c false p = drainDue g c (releaseGrant g (setCarState g c .draining (p.modCar c fun r =>
        { r with drain := some (g.clock + (g.params.drainTime : Int)) }))) := by
      simp only [sprayReported, hg, hs, hq, if_true, Bool.not_false, Bool.and_self, Bool.false_eq_true, if_false]
      rfl
    rw [goes]
    generalize setCarState g c .draining (p.modCar c fun r => { r with drain := some (g.clock + (g.params.drainTime : Int)) }) = q at *
    have looks := lookForGrant_arbitrated (g := g) (p := { q with grant := none }) rfl
    have due := drainDue_keeps (.of []) g c (releaseGrant g q)
    exact ⟨looks.congr (ended.waiting (by simp [Kinds.of])).symm due.toWrites,
      fun _ => (due.car c rfl).trans ((releaseGrant_car ..).trans record), fun h => absurd hq h⟩
  · have goes : sprayReported g c false p = releaseGrant g p := by
      simp [sprayReported, hg, hs, hq]
    rw [goes]
    exact ⟨lookForGrant_arbitrated rfl, fun h => absurd h hq, fun _ => releaseGrant_car ..⟩

end

/-- Settles O53: the arrival, and each report of the spray. -/
theorem waterArbiterGrantsOneCar : Obligations.WaterArbiterGrantsOneCar := by
  unfold Obligations.WaterArbiterGrantsOneCar
  intro fit address
  refine ⟨fun s c loaded l h hs hconf hst hp hspan hl hh ht => ?arrival, fun s c x on hpoll hx hon => ?report⟩
  case arrival =>
    have hm : machineCar (carMachine c) = some c := by cases c <;> rfl
    have hpm : carMachine c ≠ .pm := by cases c <;> decide
    have hgc : carMachine c ≠ .gc := by cases c <;> decide
    have car := car_of_posHeard hm s (towerSpot s.ground c) false
    have fits : towerFit (posHeard s (carMachine c) (towerSpot s.ground c) false).ground c = fit s.ground c :=
      ground_of_posHeard (fun g => fit g c) (fun g m r => by cases m <;> rfl) (fun _ _ => rfl) s _ _ _
    have grant := plant_of_posHeard hpm hgc (fun p => p.grant) (fun _ _ _ => rfl) s (towerSpot s.ground c) false
    have waiting := plant_of_posHeard hpm hgc (fun p => p.waiting) (fun _ _ _ => rfl) s (towerSpot s.ground c) false
    have arrived : Waiting _ c (towerSpot s.ground c) _ (carReport (posHeard s (carMachine c) (towerSpot s.ground c) false).ground c
        (towerSpot s.ground c) false loaded (posHeard s (carMachine c) (towerSpot s.ground c) false).plant) :=
      carReport_waiting (by rw [car]; exact hst) (by rw [car]; exact hp) (by rw [car]; exact hspan) hl hh
        (by rw [car]; exact ht)
    have keeps := carReport_keeps (k := .of (Kind.ofCar c)) (Kinds.of_has (List.Subset.refl _))
      (posHeard s (carMachine c) (towerSpot s.ground c) false).ground (towerSpot s.ground c) false loaded
      (posHeard s (carMachine c) (towerSpot s.ground c) false).plant
    obtain ⟨state, target, span, granted, queued⟩ := arrived
    rw [grant, waiting] at *
    exact ⟨_, event_carPos hs hm hconf, state, target, span, fun a b e => granted a b (fits.trans e), queued,
      (keeps.car _ (by cases c <;> rfl)).trans (car _),
      (keeps.of_subset (l' := Kind.ofTrack) (by cases c <;> simp)).fill.trans
        (plant_of_posHeard hpm hgc (fun p => (Kinds.of Kind.ofTrack).fill _ p) (fun _ _ _ => rfl) s _ _)⟩
  case report =>
    have tower : towerCar (address c) = c := by cases c <;> rfl
    have node : s.ground.node (address c) = s.ground.towerNode c := by cases c <;> rfl
    have taken := otlReplied_plain (reply := .tower on false) (s := s.opened) hpoll (by rw [hx]; cases c <;> rfl)
      (hx ▸ hon ▸ congrArg NodeLine.online node) rfl
    rw [hx, State.work_congr (f' := fun g p => sprayReported g c on p) (congrArg (sprayReported _ · on _) tower)] at taken
    refine ⟨_, congrArg Host.Outcome.next (congrArg State.settled taken), ?_⟩
    dsimp only [State.nextExchange, State.work_plant]
    have fits : ∀ q k, fit { (nodeWritten s.opened (address c) (.tower on false)).ground with poll := q } k =
      towerFit (nodeWritten s.opened (address c) (.tower on false)).ground k := fun _ _ => rfl
    simp only [fits, State.work_ground]
    have keeps := sprayReported_keeps (k := .of (Kind.ofCar c)) (Kinds.of_has (List.Subset.refl _))
      (nodeWritten s.opened (address c) (.tower on false)).ground on s.opened.plant
    have car := opened_car s
    have spray : s.opened.plant.spray c = s.plant.spray c := by cases c <;> rfl
    refine ⟨fun hg hon hs hw => ?on, fun hg hoff hs => ?off, fun hg hne => ?other, fun hg => ?free,
      (keeps.car _ (by cases c <;> rfl)).trans (car _),
      (keeps.of_subset (l' := Kind.ofTrack) (by cases c <;> simp)).fill⟩
    case on =>
      subst hon
      obtain ⟨record, grant, waiting⟩ := sprayReported_on (g := (nodeWritten s.opened (address c) (.tower true false)).ground)
        (p := s.opened.plant) hg (spray.trans hs) (car c ▸ hw)
      exact ⟨record.trans (by rw [car, quenching, nodeWritten_clock, nodeWritten_params]; rfl), grant, waiting⟩
    case off =>
      subst hoff
      obtain ⟨looks, drains, stays⟩ := sprayReported_off (g := (nodeWritten s.opened (address c) (.tower false false)).ground)
        (p := s.opened.plant) hg (spray.trans hs)
      exact ⟨looks.grant, fun k hk => ⟨looks.spray k hk, looks.not_waiting hk⟩,
        fun h => (drains (car c ▸ h)).trans (by rw [car, draining, nodeWritten_clock, nodeWritten_params]; rfl), fun h => (stays (car c ▸ h)).trans (car c)⟩
    case other =>
      have stays : sprayReported (nodeWritten s.opened (address c) (.tower on false)).ground c on s.opened.plant =
          s.opened.plant := sprayReported_unconfirmed hg (spray ▸ hne)
      exact withPorts_of_eq stays
    case free =>
      have looks := sprayReported_free (g := (nodeWritten s.opened (address c) (.tower on false)).ground) (c := c) (on := on)
        (p := s.opened.plant) hg
      exact ⟨(congrArg (fun q : Plant => q.grant) looks).trans (lookForGrant_arbitrated (p := s.opened.plant) hg).grant,
        (congrArg (fun q : Plant => q.car c) looks).trans ((lookForGrant_car ..).trans (car c))⟩

end Sys2Proof.Machine
end

section
/-! SUPPORT. A car's fault and a car's report: what they leave of the car's record, and what they start (R145, R152, R160). -/

namespace Sys2Proof.Machine

open Sys2Proof.Safety

section
variable {g : Ground} {c : Car} {x : Nat} {moving loaded : Bool} {p : Plant} {reason : CarFault}

/-! ## The entry of a car to FAULT (R160) -/

/-- The STOP that a car's fault sends: to both cars for a fault of the track, which takes the track hold. -/
def faultStopped (c : Car) (reason : CarFault) (p : Plant) : Plant :=
  if (reason = .overrun || reason = .order : Bool) then sendStops [.qa, .qb] { p with trackHold := true }
  else send (carMachine c) .stop p

/-- The spray of a car that waited for the water under the grant, at its fault. -/
def faultSpray (c : Car) (old : CarRecord) (p : Plant) : Plant :=
  if p.grant = some c && old.state = .waterWait then p.setSpray c false else p

/-- What a car's fault clears of its work. -/
def faultCleared (c : Car) (reason : CarFault) (p : Plant) : Plant :=
  let p := p.modCar c fun r => { r with target := none, drain := none, hot := none, fault := some reason }
  { p with waiting := p.waiting.filter (· ≠ c) }

/-- The ticket of a car in FAULT is told. -/
def faultTold (c : Car) (reason : CarFault) (old : CarRecord) (p : Plant) : Plant :=
  match old.bound with
  | some num => start (.carFaulted c num reason) p
  | none => p

/-- A car's fault after its STOP. -/
def faultTail (g : Ground) (c : Car) (reason : CarFault) (old : CarRecord) (p : Plant) : Plant :=
  faultTold c reason old <| raise g (.carFault c reason old.position old.state) <|
    setCarState g c .fault (faultSpray c old (faultCleared c reason p))

theorem faultCar_eq (hf : (p.car c).state ≠ .fault) :
    faultCar g c reason p = faultTail g c reason (p.car c) (faultStopped c reason p) := by
  rw [faultCar, if_neg hf]
  rfl

theorem setCarState_sent (g : Ground) (c : Car) (new : CarState) (p : Plant) : (setCarState g c new p).sent = p.sent := by
  unfold setCarState
  dsimp only
  split
  · rfl
  · split
    · exact Plant.modCar_sent ..
    · exact Plant.modCar_sent ..

theorem setCarState_trackHold (g : Ground) (c : Car) (new : CarState) (p : Plant) :
    (setCarState g c new p).trackHold = p.trackHold :=
  (setCarState_writes (k := .of [.car c]) (by simp [Kinds.of]) g new p).trackHold (by simp [Kinds.of])

/-- What follows the STOP of a fault sends nothing and leaves the track hold. -/
theorem faultTail_quiet (g : Ground) (c : Car) (reason : CarFault) (old : CarRecord) (p : Plant) :
    (faultTail g c reason old p).sent = p.sent ∧ (faultTail g c reason old p).trackHold = p.trackHold := by
  have told : ∀ q : Plant, (faultTold c reason old q).sent = q.sent ∧ (faultTold c reason old q).trackHold = q.trackHold := by
    intro q
    unfold faultTold
    split <;> exact ⟨rfl, rfl⟩
  have sprayed : ∀ q : Plant, (faultSpray c old q).sent = q.sent ∧ (faultSpray c old q).trackHold = q.trackHold := by
    intro q
    unfold faultSpray
    split
    · exact ⟨Plant.setSpray_sent .., Plant.setSpray_trackHold ..⟩
    · exact ⟨rfl, rfl⟩
  unfold faultTail
  refine ⟨(told _).1.trans ?_, (told _).2.trans ?_⟩
  · exact (setCarState_sent ..).trans ((sprayed _).1.trans (Plant.modCar_sent ..))
  · exact (setCarState_trackHold ..).trans ((sprayed _).2.trans (Plant.modCar_trackHold ..))

/-- What the entry of a car to FAULT leaves. -/
structure Faulted (c : Car) (reason : CarFault) (p q : Plant) : Prop where
  record : q.car c = faultRecord reason (p.car c)
  stop : (carMachine c, ToMachine.stop) ∈ q.sent
  held : (reason = .overrun ∨ reason = .order) → q.trackHold = true ∧ (Machine.qa, ToMachine.stop) ∈ q.sent ∧
    (Machine.qb, ToMachine.stop) ∈ q.sent

theorem faultCar_faulted (hf : (p.car c).state ≠ .fault) (g : Ground) (reason : CarFault) :
    Faulted c reason p (faultCar g c reason p) := by
  have record := faultCar_car (g := g) (reason := reason) hf c
  rw [modCar_car_same] at record
  refine ⟨record, ?_, fun h => ?_⟩
  all_goals rw [faultCar_eq hf, (faultTail_quiet ..).1]
  · unfold faultStopped
    split
    · cases c <;> simp [sendStops, send, carMachine]
    · simp [send]
  · rw [(faultTail_quiet ..).2, faultStopped, if_pos (by simpa using h)]
    simp [sendStops, send]

/-! ## What a report leaves of its car's record (R145) -/

/-- The fields of a car's record that a report writes, and the binding. -/
def CarRecord.seen (r : CarRecord) : Option Nat × Bool × Bool × Option Nat := (r.position, r.moving, r.loaded, r.bound)

theorem seen_of_rest {r r' : CarRecord} (h : r.rest = r'.rest) : r.seen = r'.seen := by
  rw [show r.seen = r.rest.seen from rfl, h]
  rfl

theorem faultCar_seen (g : Ground) (c : Car) (reason : CarFault) (p : Plant) :
    ((faultCar g c reason p).car c).seen = (p.car c).seen := by
  by_cases hf : (p.car c).state = .fault
  · rw [faultCar, if_pos hf, raise_car]
  · rw [(faultCar_faulted hf g reason).record]
    rfl

theorem firstReport_seen (g : Ground) (c : Car) (x : Nat) (p : Plant) : ((firstReport g c x p).car c).seen = (p.car c).seen := by
  unfold firstReport
  dsimp only
  split
  · rfl
  · split
    · split
      · rw [seen_of_rest (runToTower_rest ..), setHot, modCar_car_same, modCar_car_same]
        rfl
      · split
        · rw [start_car, modCar_car_same]
          rfl
        · rw [modCar_car_same]
          rfl
    · exact faultCar_seen ..

theorem spanReport_seen (g : Ground) (c : Car) (x : Nat) (moving : Bool) (p : Plant) :
    ((spanReport g c x moving p).car c).seen = (p.car c).seen := by
  unfold spanReport
  dsimp only
  split
  · split
    · rw [modCar_car_same]
      rfl
    · rfl
  · split
    · split
      · rw [seen_of_rest (arrive_rest ..), modCar_car_same]
        rfl
      · split
        · rw [seen_of_rest (setCarState_rest ..), modCar_car_same, modCar_car_same]
          rfl
        · rw [modCar_car_same]
          rfl
    · exact faultCar_seen ..

theorem tellSequencer_seen (g : Ground) (c : Car) (p : Plant) : ((tellSequencer g c p).car c).seen = (p.car c).seen := by
  unfold tellSequencer
  dsimp only
  split <;> split <;> simp [setHot, CarRecord.seen]

theorem recheckOther_car (old : CarRecord) (c : Car) (p : Plant) (d : Car) : (recheckOther old c p).car d = p.car d :=
  (recheckOther_keeps (.of []) old c p).car d rfl

theorem judgedReport_seen (g : Ground) (c : Car) (x : Nat) (moving loaded : Bool) (p : Plant) :
    ((judgedReport g c x moving loaded p).car c).seen = (reported x moving loaded (p.car c)).seen := by
  unfold judgedReport
  split
  · rw [firstReport_seen, modCar_car_same]
  · rw [spanReport_seen, modCar_car_same]

theorem carReport_seen (g : Ground) (c : Car) (x : Nat) (moving loaded : Bool) (p : Plant) :
    ((carReport g c x moving loaded p).car c).seen = (some x, moving, loaded, (p.car c).bound) := by
  rw [carReport_eq, recheckOther_car, tellSequencer_seen, judgedReport_seen]
  rfl

/-! ## An overrun (R152) -/

theorem judgedReport_overrun (hp : (p.car c).position ≠ none) (hf : (p.car c).state ≠ .fault)
    (hx : inSpan x (p.car c).span = false) :
    judgedReport g c x moving loaded p = faultCar g c .overrun (p.modCar c (reported x moving loaded)) := by
  simp [judgedReport, spanReport, reported, hp, hf, hx]

theorem carReport_overrun (hp : (p.car c).position ≠ none) (hf : (p.car c).state ≠ .fault)
    (hx : inSpan x (p.car c).span = false) :
    let q := carReport g c x moving loaded p
    (q.car c).state = .fault ∧ (q.car c).fault = some .overrun ∧ q.trackHold = true ∧
      (Machine.qa, ToMachine.stop) ∈ q.sent ∧ (Machine.qb, ToMachine.stop) ∈ q.sent := by
  have faulted := faultCar_faulted (c := c) (p := p.modCar c (reported x moving loaded)) (by simpa [reported] using hf) g .overrun
  obtain ⟨hold, qa, qb⟩ := faulted.held (.inl rfl)
  have rest : Keeps (.of []) (judgedReport g c x moving loaded p) (carReport g c x moving loaded p) := by
    rw [carReport_eq]
    refine (tellSequencer_keeps_rest _ ?_).trans (recheckOther_keeps ..)
    rw [judgedReport_overrun hp hf hx, faulted.record]
    rfl
  rw [judgedReport_overrun hp hf hx] at rest
  dsimp only
  rw [rest.car c rfl, rest.trackHold rfl, faulted.record]
  exact ⟨rfl, rfl, hold, rest.sent.subset qa, rest.sent.subset qb⟩

/-- A bound car that changes its state starts nothing (R148). -/
theorem setCarState_agenda_bound {num : Nat} {new : CarState} (hb : (p.car c).bound = some num) :
    (setCarState g c new p).agenda = p.agenda := by
  unfold setCarState
  dsimp only
  split
  · rfl
  · rw [if_neg (by simp [bindable, hb])]
    exact Plant.modCar_agenda ..

/-- A follow-up event takes its place after those of its rank. -/
theorem insertTask_of_rank {t : Task} {l : List Task} (h : ∀ y ∈ l, y.rank ≤ t.rank) : insertTask t l = l ++ [t] := by
  induction l with
  | nil => rfl
  | cons y l ih =>
    rw [insertTask, if_pos (h y (List.mem_cons_self ..)), ih fun z hz => h z (List.mem_cons_of_mem _ hz)]
    rfl

/-! ## A bound car that moves within its span (R73, R77, R145) -/

/-- The report is no arrival, and starts nothing but what the push sequencer is told. -/
theorem judgedReport_moving {num : Nat} (hp : (p.car c).position ≠ none) (hf : (p.car c).state ≠ .fault)
    (hx : inSpan x (p.car c).span = true) (hb : (p.car c).bound = some num) :
    firstLoaded ((judgedReport g c x true loaded p).car c) = firstLoaded { p.car c with loaded := loaded } ∧
      (judgedReport g c x true loaded p).agenda = p.agenda := by
  by_cases hat : (p.car c).state = .atOven
  · have goes : judgedReport g c x true loaded p = setCarState g c .runToOven (((p.modCar c (reported x true loaded)).modCar c fun r =>
        { r with span := some (trimmedSpan x r.target) }).modCar c fun r =>
          { r with target := some { position := x, granted := true } }) := by
      simp [judgedReport, spanReport, reported, hp, hx, hat]
    rw [goes]
    refine ⟨?_, ?_⟩
    · rw [setCarState_car_same]
      simp [firstLoaded, hat]
    · rw [setCarState_agenda_bound (num := num) (by simpa [reported] using hb)]
      simp
  · have goes : judgedReport g c x true loaded p = (p.modCar c (reported x true loaded)).modCar c fun r =>
        { r with span := some (trimmedSpan x r.target) } := by
      simp [judgedReport, spanReport, reported, hp, hx, hat, hf]
    rw [goes]
    refine ⟨?_, by simp⟩
    simp only [modCar_car_same, reported]
    rfl

/-- What is started in turn for the sequencer waits first. -/
theorem tellSequencer_agenda {num : Nat} (hb : (p.car c).bound = some num) (ha : p.agenda = []) :
    (tellSequencer g c p).agenda =
      if firstLoaded (p.car c) then [.carLoaded c, .carReported c] else [.carReported c] := by
  unfold tellSequencer
  dsimp only
  split
  · simp [setHot, hb, ha, insertTask, Task.rank]
  · simp [hb, ha]

theorem recheckOther_agenda (old : CarRecord) (c : Car) {p : Plant} (hr : ∀ t ∈ p.agenda, t.rank ≤ 0) :
    p.agenda <+: (recheckOther old c p).agenda := by
  unfold recheckOther
  split
  · rw [start_agenda, insertTask_of_rank hr]
    exact List.prefix_append ..
  · exact List.prefix_refl _

end

end Sys2Proof.Machine
end

section
/-! The POS records (R145, R152, R163, R165), and what one starts at the push sequencer (R73, R77). -/

namespace Sys2Proof.Machine

open Sys2Proof.Safety

section
variable {g : Ground} {c : Car} {p q : Plant} {t : Ticket}

/-! ## The judgement of a bound car's report (R77, R79) -/

/-- The steps in which a bound car's movement aborts its ticket. -/
def TicketState.needsCar : TicketState → Bool
  | .undooring | .guiding | .pushing => true
  | _ => false

theorem TicketState.needsCar_iff (st : TicketState) :
    st.needsCar = true ↔ st = .undooring ∨ st = .guiding ∨ st = .pushing := by
  cases st <;> simp [TicketState.needsCar]

/-- A ticket's state and reason. -/
def Ticket.fate (t : Ticket) : TicketState × Option AbortReason := (t.state, t.reason)

theorem carReported_moving (hb : (p.car c).bound = some t.number) (hm : (p.car c).moving = true)
    (ht : p.ticket? t.number = some t) (hst : t.state.needsCar = true) (he : t.extractSent = true) :
    ((carReported g c p).ticket? t.number).map Ticket.fate = some (.faultHeld, some (.alignmentCar c)) := by
  have aborts : carReported g c p = abortTicket g t.number (.alignmentCar c) p := by
    rcases (TicketState.needsCar_iff _).1 hst with h | h | h <;> simp [carReported, hb, ht, h, hm]
  rw [aborts, abortTicket_late ht (by rintro h; rw [h] at hst; cases hst) he, (holdTicket_held ht _).ticket]
  rfl

theorem carReported_closing (hb : (p.car c).bound = some t.number) (ht : p.ticket? t.number = some t)
    (hst : t.state = .closing) : carReported g c p = p := by
  simp [carReported, hb, ht, hst]

/-! ## The first loaded report before it (R73) -/

theorem letCarGo_bound (g : Ground) (c : Car) (p : Plant) (d : Car) : ((letCarGo g c p).car d).bound = (p.car d).bound := by
  unfold letCarGo
  split
  · by_cases hd : d = c
    · rw [hd, runToTower_bound]
    · rw [(runToTower_writes (k := .of (Kind.ofCar c)) (Kinds.of_has (List.Subset.refl _)) g p).car d
        (Kinds.of_eq_false (by simp [hd]))]
  · rfl

theorem boundLetGo_bound (g : Ground) (t : Ticket) (p : Plant) (d : Car) :
    ((boundLetGo g t p).car d).bound = (p.car d).bound := by
  unfold boundLetGo
  split
  · exact letCarGo_bound ..
  · rfl

theorem enterClosing_bound (g : Ground) (num : Nat) (t : Ticket) (p : Plant) (d : Car) :
    ((enterClosing g num t p).car d).bound = (p.car d).bound := by
  have before := (enterStep_keeps (k := .of [.tickets]) (by decide) g num .closing closingWaits p).trans
    ((send_keeps _ .pm (.step .ramReturn t.oven) _).trans (send_keeps _ .gc (.step .guideRelease t.oven) _))
  have after := fun q => changePhase_keeps (k := .of (Kind.ofPhase t.oven)) (Kinds.of_has (List.Subset.refl _)) g .closing .enterClosing q
  rw [enterClosing_eq, (after _).car d (by simp [Kinds.of]), boundLetGo_bound, before.car d (by simp [Kinds.of])]

/-- A ticket whose completions of GUIDING are recorded stays one that needs its car. -/
theorem guidingDone_ticket (ht : p.ticket? t.number = some (recordedTicket t)) (hst : t.state = .guiding) :
    ∃ t', (guidingDone g t.number (recordedTicket t) p).ticket? t.number = some t' ∧ t'.number = t.number ∧
      t'.extractSent = t.extractSent ∧ t'.state.needsCar = true := by
  obtain ⟨pushing, suspended, paced⟩ := guidingDone_ended (g := g) (p := p) ht rfl rfl
  by_cases met : ∀ w, (p.lastPushStart.map fun w => w + (g.params.pushGap : Int)) = some w → w ≤ g.clock
  · cases hs : t.suspended with
    | false => exact ⟨_, (pushing met hs).1, rfl, rfl, rfl⟩
    | true => exact ⟨_, (suspended met hs).1, rfl, rfl, by rw [hst]; rfl⟩
  · obtain ⟨w, hw, late⟩ : ∃ w, (p.lastPushStart.map fun w => w + (g.params.pushGap : Int)) = some w ∧ g.clock < w := by
      simpa using met
    exact ⟨_, (paced w hw late).1, rfl, rfl, by rw [hst]; rfl⟩

/-- The first loaded report is the last completion of PUSHING, and takes the ticket on to CLOSING. -/
def lastOfPushing (t : Ticket) : Prop :=
  t.state = .pushing ∧ t.suspended = false ∧ t.waits = { Waits.none with car := .waiting .load }

theorem carDone_load_closing (hb : (p.car c).bound = some t.number) (ht : p.ticket? t.number = some t) (hl : lastOfPushing t) :
    ((carReported g c (carDone g c .load p)).ticket? t.number).map Ticket.fate = some (.closing, t.reason) := by
  obtain ⟨hst, hs, hw⟩ := hl
  have he : (carRecorded t).waits.empty = true := by rw [carRecorded, hw]; rfl
  have recorded := carRecorded_ticket ht
  have kept := modTicket_keeps (k := .of [.tickets]) (by decide) t.number carRecorded p
  rw [carDone_matched hb ht (by rw [hw]), tryAdvance_pushing recorded he hs hst]
  generalize p.modTicket t.number carRecorded = q at *
  have closed : Closed g (carRecorded t) q (enterClosing g t.number (carRecorded t) q) := enterClosing_closed recorded
  have bound := (enterClosing_bound g t.number (carRecorded t) q c).trans
    ((congrArg CarRecord.bound (kept.car c (by simp [Kinds.of]))).trans hb)
  have fate : ((enterClosing g t.number (carRecorded t) q).ticket? t.number).map Ticket.fate = some (.closing, t.reason) :=
    congrArg (Option.map Ticket.fate) closed.ticket
  rwa [carReported_closing (t := closedTicket g (carRecorded t)) bound closed.ticket rfl]

theorem waits_of_carRecorded {cmd : Cmd} (hw : t.waits.car = .waiting cmd) (he : (carRecorded t).waits.empty = true) :
    t.waits = { Waits.none with car := .waiting cmd } := by
  rw [← hw, ← Waits.eq_none_of_empty he]
  rfl

/-- The completion of the car's part otherwise leaves a ticket that needs its car. -/
theorem carDone_load_ticket (hb : (p.car c).bound = some t.number) (ht : p.ticket? t.number = some t)
    (hst : t.state.needsCar = true) (hl : ¬lastOfPushing t) :
    ∃ t', (carDone g c .load p).ticket? t.number = some t' ∧ t'.number = t.number ∧ t'.extractSent = t.extractSent ∧
      t'.state.needsCar = true ∧ (carDone g c .load p).car c = p.car c := by
  by_cases hw : t.waits.car = .waiting .load
  · have recorded := carRecorded_ticket ht
    have kept := modTicket_keeps (k := .of [.tickets]) (by decide) t.number carRecorded p
    rw [carDone_matched hb ht hw]
    generalize p.modTicket t.number carRecorded = q at *
    cases he : (carRecorded t).waits.empty with
    | false =>
      rw [tryAdvance_waiting recorded he]
      exact ⟨_, recorded, rfl, rfl, hst, kept.car c (by simp [Kinds.of])⟩
    | true =>
      have car := kept.car c (by simp [Kinds.of])
      rw [carRecorded_of_last he] at recorded
      have guiding : t.state = .guiding → tryAdvance g t.number q = guidingDone g t.number (recordedTicket t) q :=
        fun h => tryAdvance_guiding recorded rfl h
      by_cases hg : t.state = .guiding
      · have frame := guidingDone_keeps_push g t.number (recordedTicket t) q
        rw [guiding hg]
        obtain ⟨t', ticket, number, sent, state⟩ := guidingDone_ticket recorded hg
        exact ⟨t', ticket, number, sent, state, (frame.car c (by simp [Kinds.of])).trans car⟩
      cases hs : t.suspended with
      | true =>
        rw [tryAdvance_suspended recorded hs hg]
        exact ⟨_, recorded, rfl, rfl, hst, car⟩
      | false =>
        have undooring : t.state = .undooring := by
          rcases (TicketState.needsCar_iff _).1 hst with h | h | h
          · exact h
          · exact absurd h hg
          · exact absurd ⟨h, hs, waits_of_carRecorded hw he⟩ hl
        obtain ⟨ticket, -, frame⟩ := enterGuiding_entered (g := g) (t := recordedTicket t) recorded hs
        rw [tryAdvance_undooring recorded rfl hs undooring]
        exact ⟨_, ticket, rfl, rfl, rfl, (frame.car c (by simp [Kinds.of])).trans car⟩
  · rw [carDone_unmatched hb ht hw]
    exact ⟨t, ht, rfl, rfl, hst, rfl⟩

/-- The judgement that follows the first loaded report. -/
theorem carDone_load_held (hb : (p.car c).bound = some t.number) (hm : (p.car c).moving = true)
    (ht : p.ticket? t.number = some t) (hst : t.state.needsCar = true) (he : t.extractSent = true) (hl : ¬lastOfPushing t) :
    ((carReported g c (carDone g c .load p)).ticket? t.number).map Ticket.fate =
      some (.faultHeld, some (.alignmentCar c)) := by
  obtain ⟨t', ticket, number, sent, state, car⟩ := carDone_load_ticket (g := g) hb ht hst hl
  rw [← number] at ticket hb ⊢
  exact carReported_moving (by rw [car]; exact hb) (by rw [car]; exact hm) ticket state (sent.trans he)

end

/-! ## What a POS record comes to -/

section
variable {g g' : Ground} {c : Car} {x : Nat} {loaded moving : Bool} {p : Plant} {num : Nat} {s : State} {m : Machine}

theorem carReport_moving_agenda (hp : (p.car c).position ≠ none) (hf : (p.car c).state ≠ .fault)
    (hx : inSpan x (p.car c).span = true) (hb : (p.car c).bound = some num) (ha : p.agenda = []) :
    (if firstLoaded { p.car c with loaded := loaded } then [Task.carLoaded c, .carReported c] else [Task.carReported c]) <+:
      (carReport g c x true loaded p).agenda := by
  obtain ⟨first, agenda⟩ := judgedReport_moving (g := g) (loaded := loaded) hp hf hx hb
  have bound : ((judgedReport g c x true loaded p).car c).bound = some num :=
    (congrArg (·.2.2.2) (judgedReport_seen g c x true loaded p)).trans hb
  have told := tellSequencer_agenda (g := g) bound (agenda.trans ha)
  rw [first] at told
  rw [carReport_eq, ← told]
  refine recheckOther_agenda _ c fun t ht => ?_
  rw [told] at ht
  split at ht <;> simp at ht
  · rcases ht with rfl | rfl <;> exact Nat.le_refl _
  · rw [ht]
    exact Nat.le_refl _

theorem raise_congr (h : g'.clock = g.clock) (body : NoticeBody) (p : Plant) : raise g' body p = raise g body p := by
  rw [raise, raise, h]

theorem Ground.mirror_setMirror (g : Ground) (m : Machine) (r : Mirror) : (g.setMirror m r).mirror m = r := by
  cases m <;> rfl

/-- The mirror of a machine heard (R165). -/
theorem heard_mirror (s : State) (m : Machine) :
    (heard s m).ground.mirror m = contacted s.ground (s.ground.mirror m) := by
  rw [heard_ground, Ground.mirror_setMirror]
  cases m <;> rfl

theorem posRecord_ground (s : State) (m : Machine) (x : Nat) (moving loaded : Bool) :
    (s.posRecord m x moving loaded).ground = (posMirrored s m x moving).ground := by
  cases hm : machineCar m with
  | none => rw [posRecord_other hm, State.work_ground]
  | some c =>
    rw [show s.posRecord m x moving loaded = match machineCar m with
      | some c => if (posMirrored s m x moving).ground.configured then
          (posMirrored s m x moving).work fun g p => carReport g c x moving loaded p else posMirrored s m x moving
      | none => (posMirrored s m x moving).work (reportHanded m ((s.ground.mirror m).position ≠ some x)) from rfl, hm]
    dsimp only
    split
    · rw [State.work_ground]
    · rfl

theorem event_pos (hs : started s) :
    exec (.machinePos m x moving loaded) s = .next ((heard s m).posRecord m x moving loaded).settled :=
  congrArg Host.Outcome.next (event_record hs _)

/-- The machines whose position is no one's work are PM and GC with no claim, and CC with no ask. -/
theorem reportHanded_idle {changed : Bool} (h : ((m = .pm ∨ m = .gc) ∧ p.claim m = .free) ∨ (m = .cc ∧ p.ask = none)) :
    reportHanded m changed g p = p := by
  rcases h with ⟨rfl | rfl, hc⟩ | ⟨rfl, ha⟩
  · simp [reportHanded, hc]
  · simp [reportHanded, hc]
  · simp [reportHanded, dropAsk_of_no_ask ha]

end

/-- Settles O54: the mirror, the machines without work, and the cars. -/
theorem positionReportsReachMirrorsAndCars : Obligations.PositionReportsReachMirrorsAndCars := by
  unfold Obligations.PositionReportsReachMirrorsAndCars
  intro s m x moving loaded hs
  refine ⟨?mirror, fun hc hon hidle => ?idle, fun c hm hconf => ?car⟩
  case mirror =>
    refine ⟨_, event_pos hs, ?_, ?_⟩
    all_goals rw [State.settled_ground, posRecord_ground, posMirrored_ground]
    · rfl
    · rw [Ground.mirror_setMirror, heard_mirror]
      rfl
  case idle =>
    have plant := heard_plant hon
    have none : machineCar m = none := by rcases hidle with ⟨rfl | rfl, _⟩ | ⟨rfl, _⟩ <;> rfl
    have mirror := heard_mirror s m
    have work : ((heard s m).posRecord m x moving loaded).plant = (posMirrored (heard s m) m x moving).plant := by
      rw [posRecord_other none, State.work_plant, reportHanded_idle]
      obtain ⟨_, _, e⟩ := posMirrored_plant_ports (heard s m) m x moving
      rw [e, plant]
      exact hidle
    have calmed : ((heard s m).posRecord m x moving loaded).plant.agenda = [] := by
      obtain ⟨_, _, e⟩ := posMirrored_plant_ports (heard s m) m x moving
      rw [work, e, plant]
      exact hc
    refine ⟨_, (event_pos hs).trans (next_settled_of_calm calmed), fun hx hmov => ?_, fun h => ?_⟩
    all_goals rw [work, posMirrored, mirror, ← plant]
    · rw [if_neg (by simp [contacted, hx, hmov])]
    · have changed : (contacted s.ground (s.ground.mirror m)).position ≠ some x ∨
          (contacted s.ground (s.ground.mirror m)).moving ≠ moving := h
      rw [if_pos (Bool.or_eq_true_iff.2 (changed.imp decide_eq_true decide_eq_true))]
      exact raise_congr (by rw [Ground.modMirror, Ground.setMirror_clock, heard_clock]) ..
  case car =>
    have hpm : m ≠ .pm := by rintro rfl; cases hm
    have hgc : m ≠ .gc := by rintro rfl; cases hm
    have car := car_of_posHeard hm s x moving
    have tickets := fun num => plant_of_posHeard hpm hgc (fun p => p.ticket? num) (fun _ _ _ => rfl) s x moving
    have agenda := plant_of_posHeard hpm hgc (fun p => p.agenda) (fun _ _ _ => rfl) s x moving
    have keeps := carReport_keeps (k := .of (Kind.ofCar c)) (Kinds.of_has (List.Subset.refl _))
      (posHeard s m x moving).ground x moving loaded (posHeard s m x moving).plant
    have seen := carReport_seen (posHeard s m x moving).ground c x moving loaded (posHeard s m x moving).plant
    refine ⟨_, event_carPos hs hm hconf, congrArg (·.1) seen, congrArg (·.2.1) seen, congrArg (·.2.2.1) seen,
      (keeps.car _ (by cases c <;> rfl)).trans (car _),
      (keeps.of_subset (l' := Kind.ofTrack) (by cases c <;> simp)).fill.trans
        (plant_of_posHeard hpm hgc (fun p => (Kinds.of Kind.ofTrack).fill _ p) (fun _ _ _ => rfl) s _ _),
      fun hp hf hx => ?overrun, fun t hc ht hb he hst hmov hp hf hx => ?moves⟩
    case overrun =>
      exact carReport_overrun (by rw [car]; exact hp) (by rw [car]; exact hf) (by rw [car]; exact hx)
    case moves =>
      subst hmov
      have waits := carReport_moving_agenda (g := (posHeard s m x true).ground) (p := (posHeard s m x true).plant) (c := c)
        (x := x) (loaded := loaded) (by rw [car]; exact hp) (by rw [car]; exact hf) (by rw [car]; exact hx)
        (by rw [car]; exact hb) (agenda.trans hc)
      rw [car] at waits
      refine ⟨waits, ?_⟩
      have ticket := (Plant.ticket?_congr (keeps.tickets (by simp [Kinds.of])) t.number).trans ((tickets t.number).trans ht.1)
      have bound := (congrArg (·.2.2.2) seen).trans ((congrArg CarRecord.bound (car c)).trans hb)
      have moves := congrArg (·.2.1) seen
      have needs := (TicketState.needsCar_iff _).2 hst
      have first := carReported_moving (g := (posHeard s m x true).ground) bound moves ticket needs he
      have held := carDone_load_held (g := (posHeard s m x true).ground) bound moves ticket needs he
      have closing := carDone_load_closing (g := (posHeard s m x true).ground) bound ticket
      by_cases hl : firstLoaded { s.plant.car c with loaded := loaded } = true
      · by_cases hlast : lastOfPushing t
        · rw [if_pos hl, if_pos ⟨hl, hlast⟩]
          exact closing hlast
        · rw [if_pos hl, if_neg fun h => hlast h.2]
          exact held hlast
      · rw [if_neg hl, if_neg fun h => hl h.1]
        exact first

end Sys2Proof.Machine
end

section
/-! The FAULT records and the silence of the machines (R77, R79, R106, R114, R160, R164, R165). -/

namespace Sys2Proof.Machine

open Sys2Proof.Safety

section
variable {g : Ground} {p : Plant} {t : Ticket} {m : Machine}

/-! ## The pending ask at PM's loss (R112, R114) -/

theorem dropAsk_ask (g : Ground) (p : Plant) : (dropAsk g p).ask = none := by
  unfold dropAsk
  split
  · assumption
  · split
    · exact (releasePm_keeps (k := .of [.claim .pm]) (by decide) g true _).ask (by decide)
    · rfl

theorem dropAsk_free (h : p.claim .pm = .free) (g : Ground) : (dropAsk g p).claim .pm = .free := by
  unfold dropAsk
  split
  · exact h
  · split
    · exact releasePm_claim ..
    · exact h

/-- An answer that is none of a table's entries is not the table's. -/
theorem ite_ne_of {α : Type} {b : Prop} [Decidable b] {x y z : α} (h : x ≠ z) (h' : y ≠ z) : (if b then x else y) ≠ z := by
  split
  · exact h
  · exact h'

theorem askAnswer_offline (h : g.pm.online = false) (n : Nat) : askAnswer g p n ≠ .clear := by
  unfold askAnswer
  iterate 11 refine ite_ne_of AskAnswer.noConfusion ?_
  rw [if_pos (by rw [h]; rfl)]
  exact AskAnswer.noConfusion

/-- With PM OFFLINE an ask is dropped, or waits. -/
theorem recheckAsk_offline (h : g.pm.online = false) :
    Keeps (.of Kind.ofAsk) p (recheckAsk g p) ∧ (p.claim .pm = .free → (recheckAsk g p).claim .pm = .free) := by
  have has := Kinds.of_has (List.Subset.refl Kind.ofAsk)
  unfold recheckAsk
  split
  · exact ⟨.refl _ p, id⟩
  · rename_i a ha
    cases ho : askAnswer g p a.oven with
    | no reason => exact ⟨(send_keeps ..).trans (dropAsk_keeps has g _), fun hf => dropAsk_free (p := send .cc (.chargeNo reason) p) hf g⟩
    | wait reason =>
      refine ⟨tellWait_keeps has a reason p, fun hf => ?_⟩
      unfold tellWait
      dsimp only
      split <;> exact hf
    | clear => exact absurd ho (askAnswer_offline h _)

/-! ## The loss of a machine (R165) -/

/-- A pending ask not holding PM is re-checked at PM's loss. -/
theorem recheckLost_offline (h : m = .pm → g.pm.online = false) (hm : m = .pm ∨ m = .gc) :
    Keeps (.of Kind.ofAsk) p (machineLost.recheckLost m g p) ∧
      (p.claim m = .free → (machineLost.recheckLost m g p).claim m = .free) := by
  unfold machineLost.recheckLost
  rcases hm with rfl | rfl
  · exact recheckAsk_offline (h rfl)
  · exact ⟨.refl _ p, id⟩

theorem machineLost_service (hm : m = .pm ∨ m = .gc) (hc : p.claim m = .service) :
    machineLost m g p = machineLost.recheckLost m g (abandonJob g (machineSide m) .offline p) := by
  rcases hm with rfl | rfl <;> simp [machineLost, machineCar, hc]

theorem machineLost_ticket {num : Nat} (hm : m = .pm ∨ m = .gc) (hc : p.claim m = .ticket num) :
    machineLost m g p = machineLost.recheckLost m g (ticketMachineLost g num (.offline m) p) := by
  rcases hm with rfl | rfl <;> simp [machineLost, machineCar, hc]

theorem machineLost_car {c : Car} (hm : machineCar m = some c) (hc : g.configured = true) :
    machineLost m g p = faultCar g c .offline p := by
  simp [machineLost, hm, hc]

theorem faultHanded_car {c : Car} {code : Nat} (hm : machineCar m = some c) (hc : g.configured = true) :
    faultHanded m code g p = faultCar g c (.code code) p := by
  simp [faultHanded, hm, hc]

theorem faultHanded_free {code : Nat} (hm : machineCar m = none) (hc : p.claim m = .free) : faultHanded m code g p = p := by
  simp [faultHanded, hm, hc]

/-- A service job that loses its machine. -/
theorem machineLost_job {j : Job} (ho : m = .pm → g.pm.online = false) (hm : m = .pm ∨ m = .gc) (hc : p.claim m = .service)
    (hj : (p.side (machineSide m)).job = some j) :
    ((machineLost m g p).side (machineSide m)).job = none ∧ (machineLost m g p).claim m = .free ∧
      (m, ToMachine.stop) ∈ (machineLost m g p).sent := by
  have side : sideMachine (machineSide m) = m := by rcases hm with rfl | rfl <;> rfl
  obtain ⟨job, sent, claim, -⟩ := abandonJob_idle (g := g) (reason := .offline) hj
  obtain ⟨keeps, free⟩ := recheckLost_offline (p := abandonJob g (machineSide m) .offline p) ho hm
  rw [side] at sent claim
  rw [machineLost_service hm hc]
  exact ⟨(keeps.job _ (by simp [Kinds.of])).trans job, free claim, keeps.sent.subset sent⟩

/-- A ticket at work that loses a machine it has claimed. -/
theorem machineLost_aborts (ho : m = .pm → g.pm.online = false) (hm : m = .pm ∨ m = .gc)
    (hc : p.claim m = .ticket t.number) (ht : p.ticket? t.number = some t) (hst : t.state.claims = true) :
    (t.extractSent = true → ((machineLost m g p).ticket? t.number).map Ticket.fate = some (.faultHeld, some (.offline m))) ∧
      (t.extractSent = false → (machineLost m g p).ticket? t.number = none) := by
  have held : t.state ≠ .faultHeld := by
    intro h
    rw [h] at hst
    cases hst
  have lost : ticketMachineLost g t.number (.offline m) p = abortTicket g t.number (.offline m) p := by
    simp [ticketMachineLost, ht, hst]
  have aborted : Aborted g t (.offline m) p _ := abortTicket_aborted ht held (.offline m)
  obtain ⟨keeps, -⟩ := recheckLost_offline (p := abortTicket g t.number (.offline m) p) ho hm
  rw [machineLost_ticket hm hc, lost, Plant.ticket?_congr (keeps.tickets (by simp [Kinds.of]))]
  refine ⟨fun he => ?_, fun he => ?_⟩
  · rw [(aborted.late he).ticket]
    rfl
  · rw [Plant.ticket?, (aborted.early he).tickets]
    simp

end

/-- The mirror of a machine that has gone silent. -/
def silenced (s : State) (m : Machine) : State :=
  { s.opened with ground := s.ground.setMirror m { s.ground.mirror m with online := false, silence := none } }

/-- The state in which a machine's silence goes to the work it concerns. -/
def silenceRaised (s : State) (m : Machine) : State :=
  (silenced s m).raise (.machineOffline m (s.ground.mirror m).position (s.plant.claim m))

theorem event_silence {s : State} {m : Machine} {t : Time} (ht : (s.ground.mirror m).silence = some t) (hdue : t ≤ s.ground.clock) :
    exec (.silenceTimerExpiry m) s = .next ((silenceRaised s m).work (machineLost m)).settled := by
  have reached : s.opened.silenceReached m = ((silenced s m).raise
      (.machineOffline m ((silenced s m).ground.mirror m).position ((silenced s m).plant.claim m))).work (machineLost m) := by
    rw [State.silenceReached, show (s.opened.ground.mirror m).silence = some t from ht]
    exact if_neg (not_lt.2 hdue)
  have position : ((silenced s m).ground.mirror m).position = (s.ground.mirror m).position := by
    rw [silenced, Ground.mirror_setMirror]
  have claim : (silenced s m).plant.claim m = s.plant.claim m := by cases m <;> rfl
  rw [position, claim] at reached
  exact congrArg (fun s : State => Host.Outcome.next s.settled) reached

/-- The state in which a FAULT record goes to the work it concerns. -/
def faultRaised (s : State) (m : Machine) (code : Nat) : State :=
  ({ heard s m with
    ground := (heard s m).ground.setMirror m
      { (heard s m).ground.mirror m with lastFault := some (code, s.ground.clock) } } : State).raise
        (.machineFault m code (s.ground.mirror m).position ((heard s m).plant.claim m))

theorem event_fault {s : State} {m : Machine} {code : Nat} (hs : started s) :
    exec (.machineFault m code) s = .next ((faultRaised s m code).work (faultHanded m code)).settled := by
  have position : (s.ground.mirror m).position =
      (((heard s m).ground.setMirror m { (heard s m).ground.mirror m with
        lastFault := some (code, (heard s m).ground.clock) }).mirror m).position := by
    rw [Ground.mirror_setMirror, heard_mirror]
    rfl
  rw [faultRaised, position, ← heard_clock s m]
  exact congrArg Host.Outcome.next (event_record hs _)

/-- A fault of a configured car, on a plant with the cars of another. -/
theorem faultCar_from {g : Ground} {c : Car} {reason : CarFault} {p q : Plant} (hcar : ∀ d, q.car d = p.car d)
    (hf : (p.car c).state ≠ .fault) :
    let f := faultCar g c reason q
    (f.car c).state = .fault ∧ (f.car c).fault = some reason ∧ (carMachine c, ToMachine.stop) ∈ f.sent ∧
      f.car (otherCar c) = p.car (otherCar c) ∧ Keeps (.of Kind.ofTrack) q f := by
  have keeps := faultCar_keeps (k := .of (Kind.ofCar c)) (Kinds.of_has (List.Subset.refl _)) g reason q
  have faulted := faultCar_faulted (c := c) (p := q) (by rw [hcar]; exact hf) g reason
  exact ⟨by rw [faulted.record]; rfl, by rw [faulted.record]; rfl, faulted.stop,
    (keeps.car _ (by cases c <;> rfl)).trans (hcar _), keeps.of_subset (by cases c <;> simp)⟩

/-- Settles O55: the FAULT records and the silence timers, each with the work it is handed to. -/
theorem faultsAndSilenceAreRecorded : Obligations.FaultsAndSilenceAreRecorded := by
  unfold Obligations.FaultsAndSilenceAreRecorded
  refine fun s m => ⟨fun code hs => ⟨⟨_, event_fault hs, rfl⟩, event_fault hs, fun hc hon hm hf => ?idle, fun c hm hconf hf => ?car⟩,
    fun t ht hdue => ⟨⟨_, event_silence ht hdue, rfl⟩, _, event_silence ht hdue, rfl, fun c hm hconf hf => ?lostCar, fun hm => ?cc,
      fun hm => ⟨fun hc j hj => ?job, fun x hx hc hst => ?ticket⟩⟩⟩
  case idle =>
    have plant := heard_plant hon
    have claim : (heard s m).plant.claim m = .free := by
      rw [plant, ← hf]; cases m <;> rfl
    have work : ((faultRaised s m code).work (faultHanded m code)).plant =
        Machine.raise s.ground (.machineFault m code (s.ground.mirror m).position .free) s.opened.plant := by
      rw [State.work_plant, faultHanded_free hm (by rw [← claim]; cases m <;> rfl), faultRaised, claim, ← plant]
      exact raise_congr (by rw [Ground.setMirror_clock, heard_clock]) ..
    have calmed : ((faultRaised s m code).work (faultHanded m code)).plant.agenda = [] := by
      rw [work]
      exact hc
    exact ⟨_, (event_fault hs).trans (next_settled_of_calm calmed), work⟩
  case car =>
    have hpm : m ≠ .pm := by rintro rfl; cases hm
    have hgc : m ≠ .gc := by rintro rfl; cases hm
    obtain rfl : carMachine c = m := by cases m <;> cases hm <;> rfl
    have configured : (faultRaised s (carMachine c) code).ground.configured = true := by
      rw [← hconf, ← ground_of_heard (fun g => g.configured) (fun _ m _ => by cases m <;> rfl) (fun _ _ => rfl) s (carMachine c)]
      cases c <;> rfl
    have cars : ∀ d, (faultRaised s (carMachine c) code).plant.car d = s.plant.car d := fun d =>
      (raise_car ..).trans ((heard_plant_of hpm hgc (fun p => p.car d) (fun _ _ _ => by cases d <;> rfl) s).trans (opened_car s d))
    have fills := fun d => heard_plant_of hpm hgc (fun p => (Kinds.of Kind.ofTrack).fill d p) (fun _ _ _ => rfl) s
    obtain ⟨state, fault, stop, other, keeps⟩ := faultCar_from (g := (faultRaised s (carMachine c) code).ground)
      (reason := .code code) cars hf
    refine ⟨_, event_fault hs, ?_⟩
    rw [State.work_plant, faultHanded_car hm configured]
    exact ⟨state, fault, stop, other, keeps.fill.trans (fills _)⟩
  case lostCar =>
    have configured : (silenceRaised s m).ground.configured = true := by
      rw [← hconf]; cases m <;> rfl
    obtain ⟨state, fault, -, other, -⟩ := faultCar_from (g := (silenceRaised s m).ground) (reason := .offline)
      (q := (silenceRaised s m).plant) (p := s.plant) (fun d => (raise_car ..).trans (opened_car s d)) hf
    rw [State.work_plant, machineLost_car hm configured]
    exact ⟨state, fault, other⟩
  case cc =>
    subst hm
    exact dropAsk_ask ..
  case job =>
    have claim : (silenceRaised s m).plant.claim m = .service := by
      rw [← hc]; cases m <;> rfl
    refine machineLost_job (j := j) (fun h => ?_) hm claim ?_
    · subst h
      rfl
    · rw [← hj]; cases m <;> rfl
  case ticket =>
    have claim : (silenceRaised s m).plant.claim m = .ticket x.number := by
      rw [← hc]; cases m <;> rfl
    refine machineLost_aborts (fun h => ?_) hm claim hx.1 hst
    subst h
    rfl

end Sys2Proof.Machine
end

section
/-! The exchanges of the offtake line and the regulators (R124, R126 to R128, R136, R138). -/

namespace Sys2Proof.Machine

open Sys2Proof.Safety

/-! ## The regulator step (R136) -/

section
variable {deadband gain lo : Nat} {sp measured : Int} {position : Nat}

theorem regulatorStep_within (h : (measured - sp).natAbs ≤ deadband) :
    regulatorStep deadband gain lo sp measured position = position := if_pos h

theorem regulatorStep_beyond (h : deadband < (measured - sp).natAbs) :
    regulatorStep deadband gain lo sp measured position =
      (max (lo : Int) (min 1000 ((position : Int) + ((measured - sp) * (gain : Int)).tdiv 64))).toNat :=
  if_neg (Nat.not_le.2 h)

theorem regulatorStep_bounds (h : deadband < (measured - sp).natAbs) (hlo : lo ≤ 1000) :
    lo ≤ regulatorStep deadband gain lo sp measured position ∧ regulatorStep deadband gain lo sp measured position ≤ 1000 := by
  rw [regulatorStep_beyond h]
  generalize (position : Int) + _ = x
  omega

theorem regulatorStep_moves (h : deadband < (measured - sp).natAbs)
    (hl : (lo : Int) ≤ position + ((measured - sp) * gain).tdiv 64)
    (hh : position + ((measured - sp) * gain).tdiv 64 ≤ 1000) :
    (regulatorStep deadband gain lo sp measured position : Int) = position + ((measured - sp) * gain).tdiv 64 := by
  rw [regulatorStep_beyond h]
  generalize (position : Int) + _ = x at *
  omega

end

/-! ## The node records (R124, R125) -/

section
variable {g : Ground} {p : Plant} {s : State} {n address other : Nat}

theorem Ground.ovenNode_congr {g g' : Ground} (h : g'.ovenNodes = g.ovenNodes) (n : Nat) : g'.ovenNode n = g.ovenNode n := by
  rw [Ground.ovenNode, Ground.ovenNode, h]

/-- A record written is read back, of the main and tower nodes and of the ovens in the table. -/
theorem Ground.setNode_node (r : NodeLine) (h : isPlantNode address = true ∨ (1 ≤ address ∧ address ≤ g.ovenNodes.length)) :
    (g.setNode address r).node address = r := by
  by_cases h0 : address = 0
  · simp [Ground.setNode, Ground.node, h0]
  by_cases ha : address = 120
  · simp [Ground.setNode, Ground.node, ha]
  by_cases hb : address = 121
  · simp [Ground.setNode, Ground.node, hb]
  have hin : 1 ≤ address ∧ address ≤ g.ovenNodes.length := h.resolve_left (by simp [isPlantNode, h0, ha, hb])
  have entry : (numbered g.ovenNodes address).isSome = true := by
    rw [numbered_isSome]
    simpa using hin
  obtain ⟨old, hold⟩ := Option.isSome_iff_exists.1 entry
  simp [Ground.setNode, Ground.node, h0, ha, hb, Ground.ovenNode, numbered_updateNumbered, hold]

theorem Ground.setNode_doors (g : Ground) (address : Nat) (r : NodeLine) : (g.setNode address r).doors = g.doors := by
  unfold Ground.setNode
  split
  · rfl
  · split
    · rfl
    · split <;> rfl

/-- No other record is written. -/
theorem Ground.setNode_node_ne (r : NodeLine) (h : other ≠ address) : (g.setNode address r).node other = g.node other := by
  by_cases h0 : address = 0
  · have : other ≠ 0 := fun e => h (e.trans h0.symm)
    simp [Ground.setNode, Ground.node, h0, this, Ground.ovenNode]
  by_cases ha : address = 120
  · have : other ≠ 120 := fun e => h (e.trans ha.symm)
    simp [Ground.setNode, Ground.node, ha, this, Ground.ovenNode]
  by_cases hb : address = 121
  · have : other ≠ 121 := fun e => h (e.trans hb.symm)
    simp [Ground.setNode, Ground.node, hb, this, Ground.ovenNode]
  simp [Ground.setNode, Ground.node, h0, ha, hb, Ground.ovenNode, numbered_updateNumbered_ne _ h]

/-! ## The steps of the regulators (R136, R138) -/

theorem updateAt_congr {α : Type} {l : List α} {i : Nat} {f f' : α → α} (h : ∀ a, l[i]? = some a → f a = f' a) :
    updateAt l i f = updateAt l i f' := by
  refine List.ext_getElem? fun j => ?_
  rw [getElem?_updateAt, getElem?_updateAt]
  split
  · rename_i hj
    cases ha : l[j]? with
    | none => rfl
    | some a => exact congrArg some (h a (hj ▸ ha))
  · rfl

theorem updateNumbered_congr {α : Type} {l : List α} {n : Nat} {f f' : α → α} (h : ∀ a, numbered l n = some a → f a = f' a) :
    updateNumbered l n f = updateNumbered l n f' := by
  cases n with
  | zero => rfl
  | succ i => exact updateAt_congr h

theorem updateNumbered_id {α : Type} (l : List α) (n : Nat) : updateNumbered l n (fun a => a) = l := by
  cases n with
  | zero => rfl
  | succ i =>
    refine List.ext_getElem? fun j => ?_
    rw [updateNumbered, getElem?_updateAt]
    split <;> simp

theorem Plant.modValve_congr {f f' : Valve → Valve} (h : f (p.oven n).valve = f' (p.oven n).valve) :
    p.modValve n f = p.modValve n f' := by
  refine congrArg (fun l => { p with ovens := l }) (updateNumbered_congr fun o ho => ?_)
  have oven : p.oven n = o := by rw [Plant.oven, ho]; rfl
  rw [← oven, h]

theorem Plant.modValve_self {f : Valve → Valve} (h : f (p.oven n).valve = (p.oven n).valve) : p.modValve n f = p :=
  (Plant.modValve_congr (f' := fun v => v) h).trans
    (congrArg (fun l => ({ p with ovens := l } : Plant)) (updateNumbered_id p.ovens n))

/-- A valid reply of an oven under REGULATE, to a poll that carried REGULATE. -/
theorem actOnReply_regulate {carried : Carried} {then? : Option Nat} {pressure : Int} {position x : Nat} {fault : Bool}
    (hn : n ≠ 0) (hc : carried = .oven .regulate then?) (hm : (p.oven n).valve.mode = .regulate)
    (hx : (p.oven n).valve.position = some x) :
    actOnReply g n carried (.valve pressure position fault) p = p.modValve n fun v =>
      { v with
        position := some (regulatorStep g.params.deadband g.params.gOven g.params.vMin
          (ovenSetPoint g n (p.oven n).toOvenRecord) (clampInt (-2000) 2000 pressure) x)
        setPoint := some (ovenSetPoint g n (p.oven n).toOvenRecord) } := by
  have held : holdPosition n (min 1000 position) p = p := Plant.modValve_self (by rw [hm]; rfl)
  have judged : judgeIsolation g n carried (min 1000 position) p = p := by
    unfold judgeIsolation
    exact if_pos (by rw [hm]; decide)
  have step : ovenStep g n carried (clampInt (-2000) 2000 pressure) p = p.modValve n fun v =>
      { v with
        position := some (regulatorStep g.params.deadband g.params.gOven g.params.vMin
          (ovenSetPoint g n (p.oven n).toOvenRecord) (clampInt (-2000) 2000 pressure) x)
        setPoint := some (ovenSetPoint g n (p.oven n).toOvenRecord) } := by
    unfold ovenStep
    simp only [hc, hm, hx]
  refine Eq.trans (if_neg hn) ?_
  rw [held, judged, step]

theorem mainSetPointNow_eq (g : Ground) (p : Plant) :
    mainSetPointNow g p = if p.charge = none then g.params.pMain else g.params.pMain - (g.params.aOff : Int) := by
  unfold mainSetPointNow
  cases p.charge <;> rfl

/-- The set point of an oven does not hang on the node records. -/
theorem ovenSetPoint_written (s : State) (address : Nat) (reply : NodeReply) (n : Nat) (o : OvenRecord) :
    ovenSetPoint (nodeWritten s address reply).ground n o = ovenSetPoint s.ground n o := by
  have doors : (nodeWritten s address reply).ground.doors = s.ground.doors := Ground.setNode_doors ..
  rw [ovenSetPoint, ovenSetPoint, nodeWritten_params, leakFigure, leakFigure, Ground.doorPair, Ground.doorPair, doors]

/-- A valid reply of the main. -/
theorem actOnReply_main {carried : Carried} {pressure : Int} {position : Nat} {fault : Bool} :
    actOnReply g 0 carried (.valve pressure position fault) p =
      mainStep g (clampInt (-2000) 2000 pressure) (min 1000 position) p := rfl

theorem mainStep_first {pressure : Int} {actual : Nat} (h : p.mainPosition = none) :
    mainStep g pressure actual p = { p with mainPosition := some actual } := by
  rw [mainStep, h]

theorem mainStep_moves {pressure : Int} {actual x : Nat} (h : p.mainPosition = some x) :
    mainStep g pressure actual p = { p with
      mainPosition := some (regulatorStep g.params.deadband g.params.gMain g.params.mVmin (mainSetPointNow g p) pressure x)
      mainSetPoint := some (mainSetPointNow g p) } := by
  rw [mainStep, h]

end

/-! ## The end of an exchange (R124, R126) -/

section
variable {s : State} {x : Poll} {reply : NodeReply} {address : Nat}

/-- A reply that does not answer the poll is received and no more. -/
theorem otlReplied_discarded (h : ∀ x, s.ground.poll = some x → ¬(address = x.address ∧ replyFits address reply = true)) :
    s.otlReplied address reply = s.received .offtake := by
  unfold State.otlReplied
  dsimp only
  split
  · rfl
  · rename_i x hx
    exact if_neg (by simpa using h x hx)

/-- A faulted reply of a node that was ONLINE raises a notice at most. -/
theorem replyTaken_faulted {g : Ground} {p : Plant} {old : NodeLine} (ho : old.online = true) (hr : replyFaulted reply = true) :
    ∃ sup pnl, replyTaken old x reply g p = { p with sup := sup, pnl := pnl } := by
  simp only [replyTaken, ho, hr, if_true]
  split
  · exact ⟨_, _, rfl⟩
  · exact ⟨_, _, rfl⟩

theorem withPorts_of_ports {p q : Plant} {sup pnl : PortState} (h : q = { p with sup := sup, pnl := pnl }) :
    q = { p with sup := q.sup, pnl := q.pnl } := by
  subst h
  rfl

theorem replyMissed_idle (h : s.ground.poll = none) : s.replyMissed = s := by
  rw [State.replyMissed, h]

/-- The node record written by a miss, and the loss that it may bring handed on. -/
def nodeMissed (s : State) (x : Poll) : State :=
  let t : State := { s with ground := s.ground.setNode x.address (missed (s.ground.node x.address)) }
  if (s.ground.node x.address).online && !(missed (s.ground.node x.address)).online then
    t.work fun g p => nodeLost g x.address p
  else t

theorem replyMissed_polled (h : s.ground.poll = some x) : s.replyMissed = (nodeMissed s x).nextExchange x := by
  rw [State.replyMissed, h]
  rfl

theorem nodeMissed_ground (s : State) (x : Poll) :
    (nodeMissed s x).ground = s.ground.setNode x.address (missed (s.ground.node x.address)) := by
  unfold nodeMissed
  dsimp only
  split <;> rfl

theorem nextExchange_ground (s : State) (x : Poll) :
    (s.nextExchange x).ground = { s.ground with poll := nextPoll s.ground s.plant x } := rfl

end

/-- Settles O56: each end of an exchange, and the steps it brings. -/
theorem offtakeExchangesEnd : Obligations.OfftakeExchangesEnd := by
  unfold Obligations.OfftakeExchangesEnd
  refine ⟨fun s address reply => ⟨fun hc h => ?discarded, fun x hx hxa hf => ⟨?taken, fun pressure position fault hr hon hc => ?valve⟩⟩,
    fun deadband gain lo sp measured position =>
      ⟨regulatorStep_within, fun h hlo => ⟨(regulatorStep_bounds h hlo).1, (regulatorStep_bounds h hlo).2, regulatorStep_moves h⟩⟩,
    fun s => ⟨fun h hc => ?idle, fun x hx => ?missed⟩⟩
  case discarded =>
    have discarded : s.opened.otlReplied address reply = s.opened.received .offtake := otlReplied_discarded h
    exact event_eq_of_calm discarded hc
  case taken =>
    subst hxa
    have taken := otlReplied_taken (s := s.opened) hx hf
    refine ⟨_, congrArg (fun s : State => Host.Outcome.next s.settled) taken, rfl, fun hin => ?_, fun other ho => ?_⟩
    · have node : (nodeWritten s.opened x.address reply).ground.node x.address = replied (s.ground.node x.address) reply :=
        Ground.setNode_node _ hin
      have node : ((nodeWritten s.opened x.address reply).work (replyTaken (s.opened.ground.node x.address) x reply)
        |>.nextExchange x).ground.node x.address = replied (s.ground.node x.address) reply := node
      rw [node]
      refine ⟨?_, ?_, ?_, ?_⟩
      · cases reply <;> rfl
      · cases reply <;> rfl
      · rintro pressure position fault rfl
        exact ⟨rfl, rfl, rfl⟩
      · rintro spray fault rfl
        exact ⟨rfl, rfl⟩
    · exact Ground.setNode_node_ne _ ho
  case valve =>
    subst hxa hr
    have plain := fun h => otlReplied_plain (s := s.opened) (reply := .valve pressure position fault) hx hf hon h
    have params := nodeWritten_params s.opened x.address (.valve pressure position fault)
    refine ⟨fun posNow modeThen hfault hplant hholds hcarried hmode hposition => ?regulate, fun h0 hfault => ?main,
      fun hfault => ?faulted⟩
    case regulate =>
      have step := actOnReply_regulate (g := (nodeWritten s.opened x.address (.valve pressure position fault)).ground)
        (p := s.opened.plant) (n := x.address) (carried := x.carried) (pressure := pressure) (position := position)
        (fault := fault) (by rintro h; rw [h] at hplant; cases hplant) hcarried hmode hposition
      rw [params, ovenSetPoint_written] at step
      refine ⟨_, event_eq_of_calm (plain hfault) ?_, step⟩
      exact (congrArg (fun q : Plant => q.agenda) step).trans ((Plant.modValve_agenda ..).trans hc)
    case main =>
      rw [h0] at plain params ⊢
      cases hm : s.plant.mainPosition with
      | none =>
        have step : mainStep (nodeWritten s.opened 0 (.valve pressure position fault)).ground (clampInt (-2000) 2000 pressure)
            (min 1000 position) s.opened.plant = _ := mainStep_first hm
        exact ⟨_, event_eq_of_calm (plain hfault) ((congrArg (fun q : Plant => q.agenda) step).trans hc), fun _ => step,
          fun posNow e => nomatch e⟩
      | some y =>
        have step : mainStep (nodeWritten s.opened 0 (.valve pressure position fault)).ground (clampInt (-2000) 2000 pressure)
            (min 1000 position) s.opened.plant = _ := mainStep_moves hm
        rw [mainSetPointNow_eq, params] at step
        refine ⟨_, event_eq_of_calm (plain hfault) ((congrArg (fun q : Plant => q.agenda) step).trans hc),
          fun e => (nomatch e), fun posNow e => ?_⟩
        cases e
        exact step
    case faulted =>
      have taken := otlReplied_taken (s := s.opened) (reply := .valve pressure position fault) hx hf
      obtain ⟨sup, pnl, quiet⟩ := replyTaken_faulted (x := x) (reply := .valve pressure position fault)
        (g := (nodeWritten s.opened x.address (.valve pressure position fault)).ground) (p := s.opened.plant) hon hfault
      exact ⟨_, event_eq_of_calm taken ((congrArg (fun q : Plant => q.agenda) quiet).trans hc), withPorts_of_ports quiet⟩
  case idle =>
    have idle : s.opened.replyMissed = s.opened := replyMissed_idle h
    exact event_eq_of_calm idle hc
  case missed =>
    have missed : s.opened.replyMissed = (nodeMissed s.opened x).nextExchange x := replyMissed_polled hx
    refine ⟨_, congrArg (fun s : State => Host.Outcome.next s.settled) missed, ?_, fun h => ?_, fun h => ?_⟩
    · rw [nextExchange_ground, nodeMissed_ground]
      rfl
    · rw [Machine.missed, h]
      rfl
    · rw [Machine.missed, h]
      exact ⟨rfl, rfl⟩

end Sys2Proof.Machine
end

section
/-! Isolation confirmed, and the way of a ticket into ALIGNING and UNDOORING (R68 to R71, R77, R133, R166). -/

namespace Sys2Proof.Machine

open Sys2Proof.Safety

section
variable {g : Ground} {p : Plant} {t : Ticket}

/-! ## The entry to UNDOORING (R71) -/

/-- What a phase change writes that concerns no service list. -/
abbrev Kind.ofOpening (n : Nat) : List Kind := [.ovens, .oven n, .phases]

/-- The change to OPENING informs no other block. -/
theorem changePhase_opening (g : Ground) (n : Nat) (p : Plant) :
    Keeps (.of (Kind.ofOpening n)) p (changePhase g n .opening .enterUndooring p) ∧
      (changePhase g n .opening .enterUndooring p).sent = p.sent := by
  by_cases h : (p.oven n).phase = .ticketed
  · have plain : changePhase g n .opening .enterUndooring p = raise g (.phase n .ticketed .opening .enterUndooring)
        ((accrue g n p).modOven n (phaseFields g.clock .ticketed .opening)) := by
      rw [changePhase_eq (by rw [h]; rfl), h]
      rfl
    rw [plain]
    refine ⟨?_, rfl⟩
    exact (accrue_keeps (k := .of (Kind.ofOpening n)) (Kinds.of_has (by simp)) g p).trans <|
      (modOven_keeps_phases (k := .of (Kind.ofOpening n)) (Kinds.of_has (by simp)) _ _).trans (raise_keeps ..)
  · rw [changePhase, if_neg (by cases hp : (p.oven n).phase <;> simp_all [Cause.moves])]
    exact ⟨.refl .., rfl⟩

/-- The waits of UNDOORING. -/
def undooringWaits : Waits := { Waits.none with pm := .waiting (.step .extract), gc := .waiting (.step .extract) }

/-- EXTRACT sent to both machines. -/
def extractsSent (n : Nat) (p : Plant) : Plant :=
  send .gc (.step .extract n) (send .pm (.step .extract n) (forgetPresses .gc n (forgetPresses .pm n p)))

theorem extractsSent_keeps (n : Nat) (p : Plant) : Keeps (.of []) p (extractsSent n p) :=
  (forgetPresses_keeps ..).trans <| (forgetPresses_keeps ..).trans <| (send_keeps ..).trans (send_keeps ..)

/-- The EXTRACT recorded in the ticket, with the oven's credit. -/
def extracted (q : Plant) (t : Ticket) : Ticket := { t with extractSent := true, credit := some (q.oven t.oven).credit }

theorem enterUndooring_eq (g : Ground) (num : Nat) (t : Ticket) (p : Plant) : enterUndooring g num t p =
    let q := changePhase g t.oven .opening .enterUndooring (extractsSent t.oven (enterStep g num .undooring undooringWaits p))
    q.modTicket num (extracted q) := rfl

/-- What the entry to UNDOORING leaves. -/
structure Undoored (g : Ground) (t : Ticket) (p q : Plant) : Prop where
  ticket : q.ticket? t.number = some { t with
    state := .undooring
    waits := undooringWaits
    entry := g.clock
    timer := if t.suspended then none else some (g.clock + (g.params.tDoor : Int))
    extractSent := true
    credit := some (q.oven t.oven).credit }
  sent : q.sent = p.sent ++ [(Machine.pm, ToMachine.step .extract t.oven), (Machine.gc, ToMachine.step .extract t.oven)]
  oven : p.hasOven t.oven → (p.oven t.oven).phase = .ticketed → (q.oven t.oven).phase = .opening
  keeps : Keeps (.of (.tickets :: Kind.ofOpening t.oven)) p q

theorem enterUndooring_undoored (ht : p.ticket? t.number = some t) : Undoored g t p (enterUndooring g t.number t p) := by
  have entered := enterStep_keeps (k := .of [.tickets]) (by decide) g t.number .undooring undooringWaits p
  have ticket := enterStep_ticket ht g .undooring undooringWaits
  have sent := enterStep_sent g t.number .undooring undooringWaits p
  rw [enterUndooring_eq]
  generalize enterStep g t.number .undooring undooringWaits p = e at *
  have sends := extractsSent_keeps t.oven e
  have extracts : (extractsSent t.oven e).sent =
      e.sent ++ [(Machine.pm, ToMachine.step .extract t.oven), (Machine.gc, ToMachine.step .extract t.oven)] := by
    simp [extractsSent, send, forgetPresses]
  generalize extractsSent t.oven e = x at *
  obtain ⟨changed, still⟩ := changePhase_opening g t.oven x
  have phase : x.hasOven t.oven → (x.oven t.oven).phase = .ticketed →
      ((changePhase g t.oven .opening .enterUndooring x).oven t.oven).phase = .opening := fun hp hph =>
    changePhase_phase (by rw [hph]; rfl) hp
  generalize changePhase g t.oven .opening .enterUndooring x = y at *
  have whole : Keeps (.of (.tickets :: Kind.ofOpening t.oven)) p (y.modTicket t.number (extracted y)) :=
    (entered.of_subset (by simp)).trans <| (sends.of_subset (by simp)).trans <|
      (changed.of_subset (by simp)).trans (modTicket_keeps (by simp [Kinds.of]) _ _ _)
  have tickets : y.ticket? t.number = e.ticket? t.number :=
    (Plant.ticket?_congr (changed.tickets (by simp [Kinds.of])) _).trans (Plant.ticket?_congr (sends.tickets rfl) _)
  refine ⟨?_, ?_, fun hp hph => ?_, whole⟩
  · exact Plant.ticket?_modTicket_of_some (f := extracted y) (tickets.trans ticket) fun _ => rfl
  · exact (Plant.modTicket_sent ..).trans (still.trans (extracts.trans (by rw [sent])))
  · refine phase ?_ ?_
    · rwa [Plant.hasOven, sends.length, entered.length]
    · rw [← hph, sends.oven _ rfl, entered.oven _ (by simp [Kinds.of])]

/-! ## The entry to ALIGNING (R69, R70) -/

/-- Both claims taken for a ticket. -/
def claimsTaken (g : Ground) (num : Nat) (p : Plant) : Plant :=
  setClaim g .gc (.ticket num) (setClaim g .pm (.ticket num) p)

/-- A ticket offered the machines: suspended at once while the run state is not RUNNING. -/
def offered (g : Ground) (t : Ticket) : Ticket := { t with suspended := !g.running }

/-- The ticket in ALIGNING. -/
def aligningTicket (g : Ground) (w : Waits) (t : Ticket) : Ticket :=
  { t with
    state := .aligning
    waits := w
    entry := g.clock
    timer := if !g.running then none else some (g.clock + (g.params.tAlign : Int))
    suspended := !g.running }

/-- The plant with the ticket in ALIGNING, before it is sent on. -/
def alignEntered (g : Ground) (t : Ticket) (p : Plant) : Plant :=
  enterStep g t.number .aligning (alignWaits g p t) ((claimsTaken g t.number p).modTicket t.number (offered g))

theorem alignWaits_congr {q : Plant} (h : ∀ c, q.car c = p.car c) (t : Ticket) : alignWaits g q t = alignWaits g p t := by
  unfold alignWaits
  congr 1
  cases t.car with
  | none => rfl
  | some c => exact congrArg (fun r : CarRecord => if r.state = .atOven then Wait.complete else .waiting .stand) (h c)

theorem claimsTaken_keeps (g : Ground) (num : Nat) (p : Plant) :
    Keeps (.of [.claim .pm, .claim .gc]) p (claimsTaken g num p) :=
  (setClaim_keeps (by decide) ..).trans (setClaim_keeps (by decide) ..)

/-- What the entry to ALIGNING leaves, before the ticket is sent on. -/
structure Aligned (g : Ground) (t : Ticket) (p q : Plant) : Prop where
  ticket : q.ticket? t.number = some (aligningTicket g (alignWaits g p t) t)
  others : (q.tickets.filter fun x => x.number ≠ t.number) = p.tickets.filter fun x => x.number ≠ t.number
  claimPm : q.claimPm = .ticket t.number
  claimGc : q.claimGc = .ticket t.number
  keeps : Keeps (.of [.tickets, .claim .pm, .claim .gc]) p q

theorem modTicket_others (num : Nat) (f : Ticket → Ticket) (hf : ∀ t, (f t).number = t.number) (p : Plant) :
    ((p.modTicket num f).tickets.filter fun x => x.number ≠ num) = p.tickets.filter fun x => x.number ≠ num := by
  rw [Plant.modTicket_tickets]
  induction p.tickets with
  | nil => rfl
  | cons x l ih =>
    rw [List.map_cons]
    by_cases hx : x.number = num
    · rw [if_pos hx, List.filter_cons_of_neg (by simp [hf, hx]), List.filter_cons_of_neg (by simp [hx]), ih]
    · rw [if_neg hx, List.filter_cons_of_pos (by simp [hx]), List.filter_cons_of_pos (by simp [hx]), ih]

theorem enterStep_others (g : Ground) (num : Nat) (st : TicketState) (w : Waits) (p : Plant) :
    ((enterStep g num st w p).tickets.filter fun x => x.number ≠ num) = p.tickets.filter fun x => x.number ≠ num := by
  unfold enterStep
  split
  · rfl
  · exact (congrArg _ (raise_tickets ..)).trans (modTicket_others num _ (by exact fun _ => rfl) p)

theorem alignEntered_aligned (ht : p.ticket? t.number = some t) : Aligned g t p (alignEntered g t p) := by
  have claims := claimsTaken_keeps g t.number p
  have claimGc : (claimsTaken g t.number p).claimGc = .ticket t.number :=
    setClaim_claim g .gc (.ticket t.number) (setClaim g .pm (.ticket t.number) p) (.inr rfl)
  have claimPm : (claimsTaken g t.number p).claimPm = .ticket t.number :=
    ((setClaim_keeps (k := .of [.claim .gc]) (by decide) g (.ticket t.number) _).claim .pm (by decide)).trans
      (setClaim_claim g .pm (.ticket t.number) p (.inl rfl))
  unfold alignEntered
  generalize claimsTaken g t.number p = c at *
  have ticket : (c.modTicket t.number (offered g)).ticket? t.number = some (offered g t) :=
    Plant.ticket?_modTicket_of_some ((Plant.ticket?_congr (claims.tickets (by simp [Kinds.of])) _).trans ht) fun _ => rfl
  have entered := enterStep_keeps (k := .of [.tickets]) (by decide) g t.number .aligning (alignWaits g p t)
    (c.modTicket t.number (offered g))
  refine ⟨enterStep_ticket ticket g .aligning _, ?_, ?_, ?_, ?_⟩
  · rw [enterStep_others, modTicket_others _ (offered g) (fun _ => rfl), claims.tickets (by simp [Kinds.of])]
  · exact (entered.claim .pm rfl).trans claimPm
  · exact (entered.claim .gc rfl).trans claimGc
  · exact (claims.of_subset (by simp)).trans ((modTicket_keeps (by simp [Kinds.of]) ..).trans (entered.of_subset (by simp)))

theorem alignEntered_sent (g : Ground) (t : Ticket) (p : Plant) : (alignEntered g t p).sent = p.sent := by
  rw [alignEntered, enterStep_sent, Plant.modTicket_sent]
  exact (setClaim_sent ..).trans (setClaim_sent ..)

/-- The machines sent to the spot, while the run state is RUNNING. -/
def alignSent (g : Ground) (t : Ticket) (p : Plant) : Plant :=
  if g.running then sendMoves (alignWaits g p t) t.oven (alignEntered g t p) else alignEntered g t p

theorem alignSent_aligned (ht : p.ticket? t.number = some t) : Aligned g t p (alignSent g t p) := by
  obtain ⟨ticket, others, claimPm, claimGc, keeps⟩ := alignEntered_aligned (g := g) ht
  unfold alignSent
  split
  · have moves := sendMoves_keeps (.of []) (alignWaits g p t) t.oven (alignEntered g t p)
    have tickets := moves.tickets rfl
    exact ⟨(Plant.ticket?_congr tickets _).trans ticket, (congrArg _ tickets).trans others, (moves.claim .pm rfl).trans claimPm,
      (moves.claim .gc rfl).trans claimGc, keeps.trans (moves.of_subset (by simp))⟩
  · exact ⟨ticket, others, claimPm, claimGc, keeps⟩

/-- The MOVEs of an entry to ALIGNING. -/
def movesSent (g : Ground) (t : Ticket) : List (Machine × ToMachine) :=
  (if g.atSpot .pm t.oven then [] else [(Machine.pm, ToMachine.move t.oven)]) ++
    (if g.atSpot .gc t.oven then [] else [(Machine.gc, ToMachine.move t.oven)])

theorem alignSent_sent (g : Ground) (t : Ticket) (p : Plant) :
    (alignSent g t p).sent = p.sent ++ if g.running then movesSent g t else [] := by
  have none := alignEntered_sent g t p
  unfold alignSent
  generalize alignEntered g t p = q at *
  split
  · unfold sendMoves alignWaits movesSent
    cases g.atSpot .pm t.oven <;> cases g.atSpot .gc t.oven <;> simp [send, none]
  · rw [none, List.append_nil]

theorem movesSent_of_empty (h : (alignWaits g p t).empty = true) : movesSent g t = [] := by
  obtain ⟨-, pm, gc', -⟩ := (Waits.empty_iff _).1 h
  have hpm : g.atSpot .pm t.oven = true := by
    by_contra hn
    simp [alignWaits, hn] at pm
  have hgc : g.atSpot .gc t.oven = true := by
    by_contra hn
    simp [alignWaits, hn] at gc'
  simp [movesSent, hpm, hgc]

theorem enterAligning_eq (ht : p.ticket? t.number = some t) : enterAligning g t.number p =
    if !g.pm.online then abortTicket g t.number (.offline .pm) (alignSent g t p)
    else if !g.gc.online then abortTicket g t.number (.offline .gc) (alignSent g t p)
    else tryAdvance g t.number (alignSent g t p) := by
  have waits : alignWaits g ((claimsTaken g t.number p).modTicket t.number (offered g)) t = alignWaits g p t :=
    alignWaits_congr (fun c => (claimsTaken_keeps g t.number p).car c (by simp [Kinds.of])) t
  rw [alignSent, alignEntered, ← waits, enterAligning, ht]
  rfl

/-! ## The offer (R69, R166, R167) -/

/-- The offer with both machines ONLINE: the ticket waits in ALIGNING, or goes on to UNDOORING. -/
theorem enterAligning_online (ht : p.ticket? t.number = some t) (hpm : g.pm.online = true) (hgc : g.gc.online = true) :
    enterAligning g t.number p = tryAdvance g t.number (alignSent g t p) := by
  rw [enterAligning_eq ht, hpm, hgc]
  rfl

theorem tryAdvance_aligned_waits (ht : p.ticket? t.number = some t) (h : g.running = false ∨ (alignWaits g p t).empty = false) :
    tryAdvance g t.number (alignSent g t p) = alignSent g t p := by
  have aligned := alignSent_aligned (g := g) ht
  rcases h with h | h
  · exact tryAdvance_suspended aligned.ticket (by simp [aligningTicket, h]) (by simp [aligningTicket])
  · exact tryAdvance_waiting aligned.ticket h

theorem tryAdvance_aligned_goes (ht : p.ticket? t.number = some t) (hr : g.running = true)
    (h : (alignWaits g p t).empty = true) :
    tryAdvance g t.number (alignSent g t p) =
      enterUndooring g t.number (aligningTicket g (alignWaits g p t) t) (alignSent g t p) :=
  tryAdvance_aligning (alignSent_aligned ht).ticket h (by simp [aligningTicket, hr]) rfl

theorem mayAlign_iff (p : Plant) (t : Ticket) : mayAlign p t = true ↔ t.state = .isolating ∧ t.isolated = true ∧
    ∀ o ∈ p.tickets, o.number ≠ t.number → atWork o.state = false := by
  have other : ∀ o : Ticket, (o.number = t.number || !(o.state.claims || o.state = .faultHeld) : Bool) = true ↔
      (o.number ≠ t.number → atWork o.state = false) := fun o => by
    by_cases h : o.number = t.number <;> simp [h, atWork]
  rw [mayAlign, Bool.and_eq_true, Bool.and_eq_true, decide_eq_true_eq, List.all_eq_true, and_assoc]
  simp only [other]

/-- What the offer leaves with both machines ONLINE. -/
theorem enterAligning_keeps_online (ht : p.ticket? t.number = some t) (hpm : g.pm.online = true) (hgc : g.gc.online = true) :
    Keeps (.of (.tickets :: .claim .pm :: .claim .gc :: Kind.ofOpening t.oven)) p (enterAligning g t.number p) ∧
      (enterAligning g t.number p).claimPm = .ticket t.number ∧ (enterAligning g t.number p).claimGc = .ticket t.number := by
  have aligned := alignSent_aligned (g := g) ht
  have before : Keeps (.of (.tickets :: .claim .pm :: .claim .gc :: Kind.ofOpening t.oven)) p (alignSent g t p) :=
    aligned.keeps.of_subset (by simp)
  rw [enterAligning_online ht hpm hgc]
  by_cases h : g.running = false ∨ (alignWaits g p t).empty = false
  · rw [tryAdvance_aligned_waits ht h]
    exact ⟨before, aligned.claimPm, aligned.claimGc⟩
  · obtain ⟨hr, he⟩ := not_or.1 h
    rw [tryAdvance_aligned_goes ht (by simpa using hr) (by simpa using he)]
    have undoored : Undoored g (aligningTicket g (alignWaits g p t) t) (alignSent g t p) _ := enterUndooring_undoored aligned.ticket
    exact ⟨before.trans (undoored.keeps.of_subset (by simp [aligningTicket])),
      (undoored.keeps.claim .pm (by simp [Kinds.of])).trans aligned.claimPm,
      (undoored.keeps.claim .gc (by simp [Kinds.of])).trans aligned.claimGc⟩

end

/-! ## The confirmation (R68, R133) -/

/-- A ticket whose oven is isolated. -/
def isolatedTicket (t : Ticket) : Ticket :=
  { t with isolated := true, timer := none, waits := { t.waits with offtake := .complete } }

/-- The plant with an isolation confirmed. -/
def confirmedPlant (t : Ticket) (p : Plant) : Plant :=
  start .offerTicket ((p.modValve t.oven fun v => { v with confirmed := true }).modTicket t.number isolatedTicket)

section
variable {g : Ground} {p : Plant} {t : Ticket} {carried : Carried} {then? : Option Nat} {pressure : Int} {position : Nat}

theorem actOnReply_isolate (ho : p.ticketOf? t.oven = some t) (hst : t.state = .isolating) (hiso : t.isolated = false)
    (hn : t.oven ≠ 0) (hcarried : carried = .oven .isolate then?) (hmode : (p.oven t.oven).valve.mode = .isolate)
    (hconf : (p.oven t.oven).valve.confirmed = false) (htol : min 1000 position ≤ g.params.isoTol) :
    actOnReply g t.oven carried (.valve pressure position false) p = confirmedPlant t p := by
  have held : holdPosition t.oven (min 1000 position) p = p := Plant.modValve_self (by rw [hmode]; rfl)
  have judged : judgeIsolation g t.oven carried (min 1000 position) p = confirmedPlant t p := by
    simp only [judgeIsolation, hmode, hcarried, hconf, if_neg (Nat.not_lt.2 htol), ne_eq, not_true_eq_false, if_false,
      isolationConfirmed, Plant.modValve_tickets, Plant.ticketOf?] at ho ⊢
    simp only [ho, hst, hiso]
    rfl
  have still : ∀ q, ovenStep g t.oven carried (clampInt (-2000) 2000 pressure) q = q := fun q => by
    unfold ovenStep
    simp [hcarried]
  refine Eq.trans (if_neg hn) ?_
  rw [held, judged, still]

theorem confirmedPlant_agenda (h : p.agenda = []) : (confirmedPlant t p).agenda = [.offerTicket] := by
  simp [confirmedPlant, h]

end

/-- Settles O34: the confirmation, and the offer it starts. -/
theorem isolationLeadsToUndooring : Obligations.IsolationLeadsToUndooring := by
  unfold Obligations.IsolationLeadsToUndooring
  refine ⟨fun s t x then? pressure position ht hc hst hiso hpoll hx hplant hcarried hon hmode hconf htol => ?confirmed,
    fun g p => ⟨fun h => ?none, mayAlign_iff p, fun t hpm hgc hfind ht => ?offer⟩⟩
  case confirmed =>
    have plain := otlReplied_plain (s := s.opened) (reply := .valve pressure position false) hpoll
      (by rw [hx]; simp only [isPlantNode] at hplant; simp_all [replyFits]) (hx ▸ hon) rfl
    rw [hx] at plain
    have acts := actOnReply_isolate (g := (nodeWritten s.opened t.oven (.valve pressure position false)).ground)
      (p := s.opened.plant) (pressure := pressure) ht.2 hst hiso (by rintro h; rw [h] at hplant; cases hplant) hcarried hmode hconf
      (by rw [nodeWritten_params]; exact htol)
    have keeps : Keeps (.of (.tickets :: Kind.ofOven t.oven)) s.opened.plant (confirmedPlant t s.opened.plant) :=
      (modValve_keeps (Kinds.of_has (by simp)) _ _).trans ((modTicket_keeps (by simp [Kinds.of]) _ _ _).trans (start_keeps ..))
    rw [State.work_congr (f' := fun _ p => confirmedPlant t p) acts] at plain
    refine ⟨_, congrArg (fun s : State => Host.Outcome.next s.settled) plain, ?_, ?_, fun hp => ?_, fun k hk => ?_,
      keeps.log (by simp [Kinds.of]), (keeps.of_subset (l' := .tickets :: .counter :: .log :: Kind.ofOven t.oven) (by simp)).fill⟩
    · exact Plant.ticket?_modTicket_of_some (f := isolatedTicket) (p := s.opened.plant.modValve t.oven fun v => { v with confirmed := true })
        ht.1 fun _ => rfl
    · exact confirmedPlant_agenda (p := s.opened.plant) hc
    · exact congrArg (fun v : Valve => v.confirmed) (modValve_oven_same (p := s.opened.plant) hp fun v => { v with confirmed := true })
    · exact keeps.oven k (Kinds.of_eq_false (by simp [hk]))
  case none =>
    show offerToTickets g p = p
    unfold offerToTickets
    rcases h with h | h
    · rw [if_neg (by simpa using h)]
    · have nobody : p.tickets.find? (mayAlign p) = none := List.find?_eq_none.2 fun t ht => by rw [h t ht]; decide
      rw [nobody]
      split <;> rfl
  case offer =>
    have offer : runTask g .offerTicket p = enterAligning g t.number p := by
      show offerToTickets g p = _
      rw [offerToTickets, if_pos (by simp [hpm, hgc]), hfind]
    have aligned := alignSent_aligned (g := g) ht
    rw [offer]
    refine ⟨fun hpm hgc => ?online, fun m he hm => ?offline⟩
    case online =>
      obtain ⟨keeps, claimPm, claimGc⟩ := enterAligning_keeps_online ht hpm hgc
      refine ⟨claimPm, claimGc, keeps.log (by simp [Kinds.of]), fun k hk => keeps.oven k (Kinds.of_eq_false (by simp [hk])),
        (keeps.of_subset (l' := .tickets :: .counter :: .log :: .claim .pm :: .claim .gc :: Kind.ofOpening t.oven) (by simp)).fill,
        fun hr => ?_, fun hr hw => ?_, fun hr hw => ?_⟩
      · rw [enterAligning_online ht hpm hgc, tryAdvance_aligned_waits ht (.inl hr), alignSent_sent, hr]
        exact ⟨aligned.ticket.trans (by simp [aligningTicket, hr]), List.append_nil _, aligned.keeps.table (by simp [Kinds.of])⟩
      · rw [enterAligning_online ht hpm hgc, tryAdvance_aligned_waits ht (.inr hw), alignSent_sent, hr]
        exact ⟨aligned.ticket.trans (by simp [aligningTicket, hr]), (List.append_assoc ..).symm, aligned.keeps.table (by simp [Kinds.of])⟩
      · have undoored : Undoored g (aligningTicket g (alignWaits g p t) t) (alignSent g t p) _ := enterUndooring_undoored aligned.ticket
        rw [enterAligning_online ht hpm hgc, tryAdvance_aligned_goes ht hr hw]
        refine ⟨undoored.ticket.trans ?_, ?_, fun h1 h2 hph => undoored.oven ?_ ?_⟩
        · simp [aligningTicket, hr, undooringWaits]
        · refine undoored.sent.trans ?_
          rw [alignSent_sent, movesSent_of_empty hw]
          simp [aligningTicket]
        · exact ⟨h1, aligned.keeps.length.symm ▸ h2⟩
        · exact (congrArg (fun o : Oven => o.phase) (aligned.keeps.oven t.oven (by simp [Kinds.of]))).trans hph
    case offline =>
      have goes : enterAligning g t.number p = abortTicket g t.number (.offline m) (alignSent g t p) := by
        rcases hm with ⟨rfl, h⟩ | ⟨rfl, h, h'⟩
        · rw [enterAligning_eq ht, h]; rfl
        · rw [enterAligning_eq ht, h, h']; rfl
      have aborted : Aborted g (aligningTicket g (alignWaits g p t) t) (.offline m) (alignSent g t p) _ :=
        abortTicket_aborted aligned.ticket (by simp [aligningTicket]) (.offline m)
      have early := aborted.early he
      rw [goes]
      obtain ⟨claimPm, claimGc⟩ := early.freed aligned.claimPm
      refine ⟨early.tickets.trans aligned.others, claimPm, claimGc, ⟨earlyRecord g (alignSent g t p)
        (aligningTicket g (alignWaits g p t) t) .abort (.offline m), early.log.trans ?_, rfl, rfl, rfl, rfl⟩, fun k hk => ?_, ?_⟩
      · rw [aligned.keeps.log (by simp [Kinds.of])]
      · exact (aborted.keeps.oven_ne hk).trans (aligned.keeps.oven k (by simp [Kinds.of]))
      · exact ((aligned.keeps.of_subset (l' := Kind.ofRetirements t.oven) (by simp)).trans
          (aborted.keeps.of_subset (Kind.ofRetirement_subset_all (aligningTicket g (alignWaits g p t) t)))).fill

end Sys2Proof.Machine
end

section
/-! RESTART (R178, R179). -/

namespace Sys2Proof.Machine

open Sys2Proof.Safety

section
variable {g : Ground} {p q : Plant}

/-- Nothing of the push, the service jobs and the charge is under way that a follow-up event could bring back while nothing
runs. -/
structure Idle (p : Plant) : Prop where
  tickets : p.tickets = []
  jobs : ∀ side, (p.side side).job = none
  ask : p.ask = none

/-- All kinds but the tickets, the jobs and the ask. -/
def Kind.beside : Kinds
  | .tickets | .job _ | .ask => false
  | _ => true

theorem Idle.of_keeps (h : Idle p) (hk : Keeps Kind.beside p q) : Idle q :=
  ⟨(hk.tickets rfl).trans h.tickets, fun side => (hk.job side rfl).trans (h.jobs side), (hk.ask rfl).trans h.ask⟩

theorem Idle.of_eq (h : Idle p) (e : q = p) : Idle q := e ▸ h

theorem Idle.ticket? (h : Idle p) (num : Nat) : p.ticket? num = none := by
  rw [Plant.ticket?, h.tickets]
  rfl

/-! ## Follow-up events while nothing runs -/

theorem beside_car (c : Car) : Kind.beside.has (Kind.ofCar c) := by
  intro k hk
  simp at hk
  rcases hk with rfl | rfl <;> rfl

theorem beside_phase (n : Nat) : Kind.beside.has (Kind.ofPhase n) := by
  intro k hk
  simp at hk
  rcases hk with rfl | rfl | rfl | rfl | rfl <;> rfl

/-- With the scheduler STOPPED and the run state not RUNNING nothing is issued and no job is started. -/
theorem runTask_idle (hs : g.schedRunning = false) (hr : g.running = false) (t : Task) (h : Idle p) : Idle (runTask g t p) := by
  cases t with
  | evaluate =>
    have idle : evaluate g p = p := by simp [evaluate, evaluationActs, hs]
    exact h.of_eq idle
  | pacing => exact h.of_keeps (pacingReached_keeps rfl g p)
  | offerTicket =>
    have idle : offerToTickets g p = p := by simp [offerToTickets, h.tickets]
    exact h.of_eq idle
  | recheckAsk => exact h.of_eq (recheckAsk_of_none h.ask)
  | testJob side =>
    have idle : testJob g side p = p := by simp [testJob, jobChoice, hr]
    exact h.of_eq idle
  | recheckTarget c => exact h.of_keeps (recheckTarget_keeps (beside_car c) g p)
  | carReported c =>
    have idle : carReported g c p = p := by
      unfold carReported
      split
      · rfl
      · rw [h.ticket?]
    exact h.of_eq idle
  | carLoaded c =>
    have idle : carDone g c .load p = p := by
      unfold carDone
      split
      · rfl
      · rw [h.ticket?]
    exact h.of_eq idle
  | carFaulted c num reason =>
    have idle : carFaulted g c num reason p = p := by rw [carFaulted, h.ticket?]
    exact h.of_eq idle
  | readiness n => exact h.of_keeps (readinessReached_keeps (beside_phase n) g p)
  | overdue n => exact h.of_keeps (overdueReached_keeps ((beside_phase n).sub (by simp)) g p)
  | dwell n => exact h.of_keeps (dwellReached_keeps ((beside_phase n).sub (by simp)) g p)
  | drain c => exact h.of_keeps (drainReached_keeps (beside_car c) g p)

theorem settle_idle (hs : g.schedRunning = false) (hr : g.running = false) (k : Nat) (h : Idle p) : Idle (settle g k p) :=
  settle_induction (I := Idle) g (fun _ _ h => ⟨h.tickets, h.jobs, h.ask⟩) (fun t _ h => runTask_idle hs hr t h) k p h

/-! ## The work cleared (R85, R110, R121, R179) -/

/-- An early retirement takes the tickets of a number out of the list, and no other. -/
theorem retireEarly_tickets (g : Ground) (num : Nat) (how : EarlyEnd) (reason : AbortReason) (p : Plant) :
    (retireEarly g num how reason p).tickets = p.tickets.filter fun x => x.number ≠ num := by
  cases ht : p.ticket? num with
  | some t =>
    obtain rfl := (Plant.ticket?_eq_some ht).2
    exact (retireEarly_retired ht how reason).tickets
  | none =>
    have nobody : ∀ x ∈ p.tickets, x.number ≠ num := fun x hx => by
      simpa using List.find?_eq_none.1 ht x hx
    rw [retireEarly, ht, List.filter_eq_self.2 fun x hx => decide_eq_true (nobody x hx)]

theorem restartTickets_tickets (g : Ground) (p : Plant) : (restartTickets g p).tickets = [] := by
  have folded : ∀ (nums : List Nat) (q : Plant), (nums.foldl (fun q num => retireEarly g num .restart .restart q) q).tickets =
      q.tickets.filter fun x => x.number ∉ nums := fun nums => by
    induction nums with
    | nil => simp
    | cons num nums ih =>
      intro q
      rw [List.foldl_cons, ih, retireEarly_tickets, List.filter_filter]
      refine List.filter_congr fun x _ => ?_
      simp [Bool.and_comm]
  rw [restartTickets, folded, List.filter_eq_nil_iff]
  intro x hx
  simpa using ⟨x, hx, rfl⟩

theorem restartJob_job (g : Ground) (side : Side) (p : Plant) : ((restartJob g side p).side side).job = none := by
  unfold restartJob
  split
  · assumption
  · rename_i j _
    have judged := rejudge_keeps (k := .of [.list side]) (side := side) (by simp [Kinds.of]) g j.oven
      ((releaseClaims g [sideMachine side] false p).modSide side fun d => { d with job := none })
    exact (judged.job side (by simp [Kinds.of])).trans (by rw [modSide_side_same])

theorem restartAsk_ask (g : Ground) (p : Plant) : (restartAsk g p).ask = none := by
  unfold restartAsk
  split
  · assumption
  · split
    · exact (releasePm_keeps (k := .of [.claim .pm]) (by decide) g false _).ask (by decide)
    · rfl

theorem restartWork_eq (g : Ground) (p : Plant) : restartWork g p =
    restartCar .b (restartCar .a (restartAsk g (restartJob g .cs (restartJob g .ps (restartTickets g p))))) := rfl

theorem restartWork_idle (g : Ground) (p : Plant) : Idle (restartWork g p) := by
  have tickets := restartTickets_tickets g p
  rw [restartWork_eq]
  generalize restartTickets g p = a at *
  have ps := restartJob_keeps (k := .of (Kind.ofJob .ps)) (Kinds.of_has (List.Subset.refl _)) g a
  have psJob := restartJob_job g .ps a
  generalize restartJob g .ps a = b at *
  have cs := restartJob_keeps (k := .of (Kind.ofJob .cs)) (Kinds.of_has (List.Subset.refl _)) g b
  have csJob := restartJob_job g .cs b
  generalize restartJob g .cs b = d at *
  have asks := restartAsk_keeps (k := .of Kind.ofAsk) (Kinds.of_has (List.Subset.refl _)) g d
  have ask := restartAsk_ask g d
  generalize restartAsk g d = e at *
  have idle : Idle e := by
    refine ⟨?_, fun side => ?_, ask⟩
    · rw [asks.tickets (by decide), cs.tickets (by decide), ps.tickets (by decide), tickets]
    · rw [asks.job side (by simp [Kinds.of])]
      cases side with
      | ps => rw [cs.job .ps (by decide), psJob]
      | cs => exact csJob
  exact idle.of_keeps ((restartCar_keeps (beside_car .a) e).trans (restartCar_keeps (beside_car .b) _))

end

/-- The answer of a request is a port's. -/
theorem State.answer_ports (s : State) (port : Port) (tag : Byte) (r : Reply) :
    ∃ sup pnl, (s.answer port tag r).plant = { s.plant with sup := sup, pnl := pnl } := by
  cases port <;> exact ⟨_, _, rfl⟩

theorem restartWork_keeps (g : Ground) (p : Plant) : Keeps .all p (restartWork g p) :=
  (restartTickets_keeps g p).trans <| (restartJob_keeps (Kinds.all_has _) g _).trans <|
    (restartJob_keeps (Kinds.all_has _) g _).trans <| (restartAsk_keeps (Kinds.all_has _) g _).trans <|
    (restartCar_keeps (Kinds.all_has _) _).trans (restartCar_keeps (Kinds.all_has _) _)

theorem restart_idle (s : State) : Idle (restart s).1.plant := by
  have work := restartWork_idle s.restartPorts.restartMachines.stopSchedule.ground
    s.restartPorts.restartMachines.stopSchedule.plant
  exact work.of_keeps (raise_keeps ..)

theorem restart_sent (s : State) (m : Machine) : (m, ToMachine.stop) ∈ (restart s).1.plant.sent := by
  have stops : (m, ToMachine.stop) ∈ s.restartPorts.restartMachines.plant.sent := mem_stopAll_sent m _
  have schedule : Keeps .all s.restartPorts.restartMachines.plant s.restartPorts.restartMachines.stopSchedule.plant :=
    announceWindow_keeps ..
  exact (restartWork_keeps ..).sent.subset (schedule.sent.subset stops)

/-- Settles O22: the work cleared, which no follow-up event brings back, and the three refusals in the order of the checks. -/
theorem restartClearsTheWork : Obligations.RestartClearsTheWork := by
  unfold Obligations.RestartClearsTheWork
  refine fun s s₀ port tag hs ht => ⟨fun hw hf hc => ?accepted, fun hw => ?working, fun hw hf => ?held, fun hw hf hc => ?charge⟩
  case accepted =>
    have done := execRestart_accepted hs ht hw hf hc
    have ground := restart_ground s₀
    have stopped : (restart s₀).1.ground.running = false := by
      rw [ground]
      cases hr : s₀.ground.runState <;> simp [Ground.running, hr]
    have idle : Idle (restart s₀).1.settled.plant :=
      settle_idle (by rw [ground]) stopped settleLimit (restart_idle s₀)
    have sent := fun m => (settle_sent (restart s₀).1.ground settleLimit (restart s₀).1.plant).subset (restart_sent s₀ m)
    have masks := restart_settled_answer_masks s₀ port tag (.ok (restart s₀).2)
    obtain ⟨sup, pnl, e⟩ := State.answer_ports (restart s₀).1.settled port tag (.ok (restart s₀).2)
    have given := ground_of_takes ht
    refine ⟨_, done, ?_, ?_, ?_, ?_, fun m => ?_, ?_, ?_, ?_⟩
    · rw [e]; exact idle.tickets
    · rw [e]; exact idle.jobs .ps
    · rw [e]; exact idle.jobs .cs
    · rw [e]; exact idle.ask
    · rw [e]; exact sent m
    · rw [← given]; exact congrArg Prod.fst masks
    · rw [← given]; exact congrArg Prod.snd masks
    · rw [State.answer_ground, State.settled_ground, ground, given]
      cases hr : s.ground.runState <;> simp [Ground.running, hr]
  case working =>
    refine refused_of_takes ht ?_
    have starting : s₀.ground.starting = false := started_of_takes ht hs
    have working : workingPush s₀.plant = true := by rwa [workingPush, tickets_of_takes ht]
    simp [whileStarting, starting, working]
  case held =>
    refine refused_of_takes ht ?_
    have starting : s₀.ground.starting = false := started_of_takes ht hs
    have working : workingPush s₀.plant = false := by rwa [workingPush, tickets_of_takes ht]
    simp [whileStarting, starting, working, tickets_of_takes ht, hf]
  case charge =>
    refine refused_of_takes ht ?_
    have starting : s₀.ground.starting = false := started_of_takes ht hs
    have working : workingPush s₀.plant = false := by rwa [workingPush, tickets_of_takes ht]
    simp [whileStarting, starting, working, tickets_of_takes ht, charge_of_takes ht, Option.isSome_iff_ne_none.2 hc]
    exact hf

end Sys2Proof.Machine
end

section
/-! RESUME (R87, R107, R119, R153, R168, R169): the tickets that go on, one beside the other. -/

namespace Sys2Proof.Machine

open Sys2Proof.Safety

/-- Every kind but those of a list. -/
def Kinds.but (l : List Kind) : Kinds := fun x => decide (x ∉ l)

theorem Kinds.but_has {l l' : List Kind} (h : ∀ x ∈ l', x ∉ l) : (Kinds.but l).has l' := fun x hx => decide_eq_true (h x hx)

theorem Kinds.but_eq_false {l : List Kind} {x : Kind} (h : x ∈ l) : Kinds.but l x = false := decide_eq_false (not_not.2 h)

/-! ## Other tickets -/

section
variable {g : Ground} {p q r : Plant} {num : Nat} {t : Ticket}

/-- The tickets of other numbers are as they were. -/
structure Beside (num : Nat) (p q : Plant) : Prop where
  ticket : ∀ k, k ≠ num → q.ticket? k = p.ticket? k

theorem Beside.refl (num : Nat) (p : Plant) : Beside num p p := ⟨fun _ _ => rfl⟩

theorem Beside.trans (h : Beside num p q) (h' : Beside num q r) : Beside num p r :=
  ⟨fun k hk => (h'.ticket k hk).trans (h.ticket k hk)⟩

theorem Beside.of_keeps {k : Kinds} (h : Keeps k p q) (hk : k .tickets = false) : Beside num p q :=
  ⟨fun n _ => Plant.ticket?_congr (h.tickets hk) n⟩

theorem Beside.ite {c : Prop} [Decidable c] (h : Beside num p q) (h' : Beside num p r) : Beside num p (if c then q else r) := by
  split
  · exact h
  · exact h'

/-- A ticket of another number is found among the others. -/
theorem Beside.of_others
    (h : (q.tickets.filter fun x => x.number ≠ num) = p.tickets.filter fun x => x.number ≠ num) : Beside num p q := by
  have others : ∀ (u : Plant) k, k ≠ num → u.ticket? k = (u.tickets.filter fun x => x.number ≠ num).find? fun x => x.number = k :=
    fun u k hk => by
      rw [List.find?_filter]
      refine congrArg (fun f => u.tickets.find? f) (funext fun x => ?_)
      by_cases hx : x.number = k
      · simp [hx, hk]
      · simp [hx]
  exact ⟨fun k hk => by rw [others q k hk, others p k hk, h]⟩

theorem modTicket_beside (num : Nat) {f : Ticket → Ticket} (hf : ∀ t, (f t).number = t.number) (p : Plant) :
    Beside num p (p.modTicket num f) :=
  .of_others (modTicket_others num f hf p)

theorem enterStep_beside (g : Ground) (num : Nat) (st : TicketState) (w : Waits) (p : Plant) :
    Beside num p (enterStep g num st w p) :=
  .of_others (enterStep_others ..)

theorem changePhase_beside (num : Nat) (g : Ground) (n : Nat) (new : Phase) (cause : Cause) (p : Plant) :
    Beside num p (changePhase g n new cause p) :=
  .of_keeps (changePhase_keeps (k := .of (Kind.ofPhase n)) (Kinds.of_has (List.Subset.refl _)) ..) (by simp [Kinds.of])

theorem enterUndooring_beside (g : Ground) (num : Nat) (t : Ticket) (p : Plant) : Beside num p (enterUndooring g num t p) := by
  rw [enterUndooring_eq]
  exact (enterStep_beside ..).trans <| (Beside.of_keeps (extractsSent_keeps ..) rfl).trans <|
    (changePhase_beside ..).trans (modTicket_beside num (by exact fun _ => rfl) _)

theorem enterGuiding_beside (g : Ground) (num : Nat) (t : Ticket) (p : Plant) : Beside num p (enterGuiding g num t p) := by
  rw [enterGuiding_eq]
  exact (enterStep_beside ..).trans <| (Beside.of_keeps (send_keeps (.of []) ..) rfl).trans
    ⟨fun k _ => Plant.ticket?_congr (receiveOffered_tickets ..) k⟩

theorem enterPushing_beside (g : Ground) (num : Nat) (t : Ticket) (p : Plant) : Beside num p (enterPushing g num t p) := by
  rw [enterPushing_eq]
  exact (enterStep_beside ..).trans <| (Beside.of_keeps (send_keeps (.of []) ..) rfl).trans <|
    (modTicket_beside num (by exact fun _ => rfl) _).trans <| (Beside.of_keeps (pushStarted_keeps ..) rfl).trans (changePhase_beside ..)

theorem guidingDone_beside (g : Ground) (num : Nat) (t : Ticket) (p : Plant) : Beside num p (guidingDone g num t p) :=
  .ite (.ite (.refl ..) (enterPushing_beside ..)) (modTicket_beside num (by exact fun _ => rfl) p)

theorem enterClosing_beside (g : Ground) (num : Nat) (t : Ticket) (p : Plant) : Beside num p (enterClosing g num t p) := by
  rw [enterClosing_eq]
  exact (enterStep_beside ..).trans <| (Beside.of_keeps (send_keeps (.of []) ..) rfl).trans <|
    (Beside.of_keeps (send_keeps (.of []) ..) rfl).trans <| (Beside.of_keeps (boundLetGo_keeps ..) rfl).trans (changePhase_beside ..)

theorem completeTicket_beside (g : Ground) (num : Nat) (p : Plant) : Beside num p (completeTicket g num p) := by
  cases ht : p.ticket? num with
  | none => rw [completeTicket, ht]; exact .refl ..
  | some t =>
    obtain ⟨-, rfl⟩ := Plant.ticket?_eq_some ht
    have dropped := (completeTicket_completed (g := g) ht).tickets
    exact .of_others (by rw [dropped]; simp [List.filter_filter])

theorem tryAdvance_beside (g : Ground) (num : Nat) (p : Plant) : Beside num p (tryAdvance g num p) := by
  unfold tryAdvance
  split
  · exact .refl ..
  · refine .ite (.refl ..) (.ite (.ite (guidingDone_beside ..) (.refl ..)) ?_)
    split
    · exact enterUndooring_beside ..
    · exact enterGuiding_beside ..
    · exact guidingDone_beside ..
    · exact enterClosing_beside ..
    · exact completeTicket_beside ..
    · exact .refl ..

/-! ## A ticket resumed (R87) -/

/-- The waits a ticket is resumed under: those of ALIGNING as the mirrors now stand (R70, R87). -/
def resumedWaits (g : Ground) (p : Plant) (t : Ticket) : Waits := if t.state = .aligning then alignWaits g p t else t.waits

/-- The ticket no longer suspended. -/
def goingTicket (w : Waits) (t : Ticket) : Ticket := { t with suspended := false, waits := w }

/-- RECEIVE sent again to a car whose completion of it is outstanding. -/
def receiveResent (o : Option Car) (n : Nat) (w : Wait) (p : Plant) : Plant :=
  match o, w with
  | some c, .waiting (.step .receive) => sendReceive c n p
  | _, _ => p

/-- The outstanding commands sent again. -/
def commandsResent (t : Ticket) (w : Waits) (p : Plant) : Plant :=
  receiveResent t.car t.oven w.car (resend .gc t.oven w.gc (resend .pm t.oven w.pm p))

/-- The ticket under a full step timer, a recorded side waiting for its next command. -/
def resentTicket (g : Ground) (w : Waits) (t : Ticket) : Ticket :=
  { t with
    waits := { w with pm := resumeWait w.pm, gc := resumeWait w.gc }
    timer := some (g.clock + (stepTime g.params t.state : Int)) }

theorem resumeTicket_idle (h : ∀ t, p.ticket? num = some t → t.suspended = false) : resumeTicket g num p = p := by
  unfold resumeTicket
  split
  · rfl
  · rename_i t ht
    rw [h t ht]
    rfl

theorem resumeTicket_eq (ht : p.ticket? num = some t) (hs : t.suspended = true) :
    resumeTicket g num p =
      let w := resumedWaits g p t
      let q := p.modTicket num (goingTicket w)
      if w.empty then tryAdvance g num q else (commandsResent t w q).modTicket num (resentTicket g w) := by
  unfold resumeTicket
  rw [ht]
  dsimp only
  rw [hs]
  rfl

theorem commandsResent_keeps (k : Kinds) (t : Ticket) (w : Waits) (p : Plant) : Keeps k p (commandsResent t w p) :=
  (resend_keeps ..).trans <| (resend_keeps ..).trans (resendCar_keeps ..)

theorem resumeTicket_beside (g : Ground) (num : Nat) (p : Plant) : Beside num p (resumeTicket g num p) := by
  cases ht : p.ticket? num with
  | none => rw [resumeTicket_idle (by simp [ht])]; exact .refl ..
  | some t =>
    by_cases hs : t.suspended = true
    · rw [resumeTicket_eq ht hs]
      refine .ite ?_ ?_
      · exact (modTicket_beside num (by exact fun _ => rfl) p).trans (tryAdvance_beside ..)
      · exact (modTicket_beside num (by exact fun _ => rfl) p).trans <|
          (Beside.of_keeps (commandsResent_keeps (.of []) ..) rfl).trans (modTicket_beside num (by exact fun _ => rfl) _)
    · rw [resumeTicket_idle (by simp [ht, hs])]
      exact .refl ..

/-- With a single ticket suspended, the resumption is that ticket's. -/
theorem resumeTickets_single (ht : p.ticket? t.number = some t)
    (only : ∀ x ∈ p.tickets, x.suspended = true → x = t)
    (going : ∀ x, (resumeTicket g t.number p).ticket? t.number = some x → x.suspended = false) :
    resumeTickets g p = resumeTicket g t.number p := by
  have other : ∀ k, k ≠ t.number → ∀ x, p.ticket? k = some x → x.suspended = false := fun k hk x hx => by
    obtain ⟨mem, rfl⟩ := Plant.ticket?_eq_some hx
    by_contra h
    exact hk (congrArg _ (only x mem (by simpa using h)))
  have after : ∀ l : List Nat, l.foldl (fun p num => resumeTicket g num p) (resumeTicket g t.number p) = resumeTicket g t.number p := by
    intro l
    induction l with
    | nil => rfl
    | cons k l ih =>
      have still : resumeTicket g k (resumeTicket g t.number p) = resumeTicket g t.number p := by
        refine resumeTicket_idle fun x hx => ?_
        by_cases hk : k = t.number
        · exact going x (hk ▸ hx)
        · exact other k hk x (((resumeTicket_beside g t.number p).ticket k hk) ▸ hx)
      rw [List.foldl_cons, still, ih]
  have before : ∀ l : List Nat, t.number ∈ l → l.foldl (fun p num => resumeTicket g num p) p = resumeTicket g t.number p := by
    intro l
    induction l with
    | nil => exact fun h => absurd h (List.not_mem_nil)
    | cons k l ih =>
      intro hl
      rw [List.foldl_cons]
      by_cases hk : k = t.number
      · rw [hk, after]
      · rw [resumeTicket_idle (other k hk), ih (by simpa [Ne.symm hk] using hl)]
  obtain ⟨mem, -⟩ := Plant.ticket?_eq_some ht
  exact before _ (List.mem_map_of_mem mem)

end

/-! ## Cars under way -/

/-- The car is on a granted run, or dumping. -/
def UnderWay (r : CarRecord) : Prop :=
  ((r.state = .runToOven ∨ r.state = .runToTower ∨ r.state = .runToWharf) ∧ ∃ x, r.target = some { position := x, granted := true }) ∨
    (r.state = .dumping ∧ r.target = none)

/-- Cars under way keep their state and target. -/
structure RunsKept (p q : Plant) : Prop where
  car : ∀ c, UnderWay (p.car c) → (q.car c).state = (p.car c).state ∧ (q.car c).target = (p.car c).target

section
variable {g : Ground} {p q r : Plant} {num : Nat} {t : Ticket}

theorem RunsKept.refl (p : Plant) : RunsKept p p := ⟨fun _ _ => ⟨rfl, rfl⟩⟩

theorem UnderWay.congr {r r' : CarRecord} (h : UnderWay r) (hs : r'.state = r.state) (ht : r'.target = r.target) : UnderWay r' := by
  unfold UnderWay
  rw [hs, ht]
  exact h

theorem RunsKept.trans (h : RunsKept p q) (h' : RunsKept q r) : RunsKept p r := by
  refine ⟨fun c hc => ?_⟩
  obtain ⟨state, target⟩ := h.car c hc
  obtain ⟨state', target'⟩ := h'.car c (hc.congr state target)
  exact ⟨state'.trans state, target'.trans target⟩

theorem RunsKept.of_keeps {k : Kinds} (h : Keeps k p q) (hk : ∀ c, k (.car c) = false) : RunsKept p q := by
  refine ⟨fun c _ => ?_⟩
  rw [h.car c (hk c)]
  exact ⟨rfl, rfl⟩

theorem RunsKept.ite {c : Prop} [Decidable c] (h : RunsKept p q) (h' : RunsKept p r) : RunsKept p (if c then q else r) := by
  split
  · exact h
  · exact h'

theorem RunsKept.foldl {α : Type} {f : Plant → α → Plant} (l : List α) (hf : ∀ a q, RunsKept q (f q a)) (p : Plant) :
    RunsKept p (l.foldl f p) := by
  induction l generalizing p with
  | nil => exact .refl p
  | cons a l ih => exact (hf a p).trans (ih _)

/-- A car under way is in none of the states in which a car is let go or sent on. -/
theorem UnderWay.state {r : CarRecord} (h : UnderWay r) : r.state = .runToOven ∨ r.state = .runToTower ∨ r.state = .runToWharf ∨
    r.state = .dumping := by
  rcases h with ⟨h | h | h, -⟩ | ⟨h, -⟩ <;> simp [h]

theorem letCarGo_runs (g : Ground) (c : Car) (p : Plant) : RunsKept p (letCarGo g c p) := by
  refine ⟨fun d hd => ?_⟩
  by_cases h : d = c
  · rw [letCarGo, if_neg]
    · exact ⟨rfl, rfl⟩
    · rw [← h]
      rcases hd.state with e | e | e | e <;> simp [e]
  · have keeps := letCarGo_keeps (k := .of (Kind.ofCar c)) (Kinds.of_has (List.Subset.refl _)) g p
    rw [keeps.car d (Kinds.of_eq_false (by simpa using h))]
    exact ⟨rfl, rfl⟩

/-- The record of a car under way, unbound. -/
theorem unbindCar_underWay {c : Car} (h : UnderWay (p.car c)) :
    (unbindCar g c false p).car c = { p.car c with bound := none } := by
  have own : (p.modCar c fun r => { r with bound := none }).car c = { p.car c with bound := none } := by
    rw [modCar_car, if_pos rfl]
  rw [unbindCar]
  generalize (p.modCar c fun r => { r with bound := none }) = u at *
  have run := h
  unfold UnderWay at run
  rw [← own]
  have state : (u.car c).state = (p.car c).state := by rw [own]
  have target : (u.car c).target = (p.car c).target := by rw [own]
  rcases run with ⟨e | e | e, x, hx⟩ | ⟨e, -⟩
  · simp only [state, e, target, hx, Bool.false_and, Bool.false_eq_true, if_false]
  · simp only [state, e]
  · simp only [state, e]
    split <;> simp
  · simp only [state, e]
    split <;> simp

theorem unbindCar_runs (g : Ground) (c : Car) (p : Plant) : RunsKept p (unbindCar g c false p) := by
  refine ⟨fun d hd => ?_⟩
  by_cases h : d = c
  · subst h
    rw [unbindCar_underWay hd]
    exact ⟨rfl, rfl⟩
  · have keeps := unbindCar_keeps (k := .of (Kind.ofCar c)) (Kinds.of_has (List.Subset.refl _)) g false p
    rw [keeps.car d (Kinds.of_eq_false (by simpa using h))]
    exact ⟨rfl, rfl⟩

theorem changePhase_runs (g : Ground) (n : Nat) (new : Phase) (cause : Cause) (p : Plant) :
    RunsKept p (changePhase g n new cause p) :=
  .of_keeps (changePhase_keeps (k := .of (Kind.ofPhase n)) (Kinds.of_has (List.Subset.refl _)) ..) fun _ => by simp [Kinds.of]

theorem boundLetGo_runs (g : Ground) (t : Ticket) (p : Plant) : RunsKept p (boundLetGo g t p) := by
  unfold boundLetGo
  split
  · exact letCarGo_runs ..
  · exact .refl _

theorem endBinding_runs (g : Ground) (t : Ticket) (p : Plant) : RunsKept p (endBinding g t false p) := by
  unfold endBinding
  split
  · exact unbindCar_runs ..
  · exact .refl _

theorem enterClosing_runs (g : Ground) (num : Nat) (t : Ticket) (p : Plant) : RunsKept p (enterClosing g num t p) := by
  rw [enterClosing_eq]
  exact (RunsKept.of_keeps (enterStep_keeps (k := .of [.tickets]) (by decide) ..) fun _ => rfl).trans <|
    (RunsKept.of_keeps (send_keeps (.of []) ..) fun _ => rfl).trans <|
    (RunsKept.of_keeps (send_keeps (.of []) ..) fun _ => rfl).trans <| (boundLetGo_runs ..).trans (changePhase_runs ..)

theorem completeTicket_runs (g : Ground) (num : Nat) (p : Plant) : RunsKept p (completeTicket g num p) := by
  cases ht : p.ticket? num with
  | none => rw [completeTicket, ht]; exact .refl p
  | some t =>
    rw [completeTicket_eq ht]
    have last : ∀ u : Plant, RunsKept u (startAll retirementTasks (raise g (.ticketEnd num t.oven .complete) <|
        writeLog (logRecordOf g p t .complete none) <| releaseClaims g [.pm, .gc] true u)) := fun u =>
      .of_keeps (k := .of (.log :: Kind.bothClaims)) ((releaseClaims_keeps (Kinds.of_has (by simp)).bothClaims g true u).trans <|
        (writeLog_keeps (by simp [Kinds.of]) _ _).trans <| (raise_keeps ..).trans (startAll_keeps ..)) fun _ => rfl
    exact (RunsKept.of_keeps (dropTicket_keeps (k := .of [.tickets]) (by decide) num p) fun _ => rfl).trans <|
      (changePhase_runs ..).trans <| (endBinding_runs ..).trans (last _)

theorem tryAdvance_runs (g : Ground) (num : Nat) (p : Plant) : RunsKept p (tryAdvance g num p) := by
  have guided : ∀ t, RunsKept p (guidingDone g num t p) := fun t =>
    .of_keeps (guidingDone_keeps_push ..) fun _ => Kinds.of_eq_false (by simp)
  unfold tryAdvance
  split
  · exact .refl p
  · rename_i t ht
    refine .ite (.refl p) (.ite (.ite (guided t) (.refl p)) ?_)
    split
    · exact .of_keeps (enterUndooring_keeps (k := .of (.tickets :: Kind.ofPhase t.oven)) (by simp [Kinds.of]) (Kinds.of_has (by simp)) ..)
        fun _ => Kinds.of_eq_false (by simp)
    · exact .of_keeps (enterGuiding_keeps (k := .of [.tickets]) (by decide) ..) fun _ => rfl
    · exact guided t
    · exact enterClosing_runs ..
    · exact completeTicket_runs ..
    · exact .refl p

theorem resumeTickets_runs (g : Ground) (p : Plant) : RunsKept p (resumeTickets g p) := by
  have written : ∀ num f (q : Plant), RunsKept q (q.modTicket num f) := fun num f q =>
    .of_keeps (modTicket_keeps (k := .of [.tickets]) (by decide) num f q) fun _ => rfl
  refine .foldl _ (fun num q => ?_) p
  cases ht : q.ticket? num with
  | none => rw [resumeTicket_idle (by simp [ht])]; exact .refl q
  | some t =>
    by_cases hs : t.suspended = true
    · rw [resumeTicket_eq ht hs]
      exact .ite ((written ..).trans (tryAdvance_runs ..)) ((written ..).trans <|
        (RunsKept.of_keeps (commandsResent_keeps (.of []) ..) fun _ => rfl).trans (written ..))
    · rw [resumeTicket_idle (by simp [ht, hs])]
      exact .refl q

/-- What a resumption of tickets leaves of the jobs, the charge and the ask. -/
abbrev Kind.ofWork : List Kind := [.job .ps, .job .cs, .charge, .ask]

theorem Kinds.but_serves {l : List Kind} (h : ∀ x ∈ l, x ∈ Kind.ofWork) (p : Plant) (num : Nat) : (Kinds.but l).Serves p num := by
  refine ⟨decide_eq_true fun hx => ?_, fun t _ => but_has fun x hx hl => ?_, fun t _ c _ => but_has fun x hx hl => ?_⟩
  · exact absurd (h _ hx) (by simp)
  · have := h x hl
    simp only [List.mem_cons, List.not_mem_nil, or_false] at hx this
    obtain rfl | rfl | rfl | rfl | rfl := hx <;> simp at this
  · have := h x hl
    simp only [List.mem_cons, List.not_mem_nil, or_false] at hx this
    obtain rfl | rfl := hx <;> simp at this

theorem resumeTickets_keeps_work (g : Ground) (p : Plant) : Keeps (.but Kind.ofWork) p (resumeTickets g p) :=
  .foldl _ (fun num _ q => resumeTicket_keeps (Kinds.but_serves (fun _ => id) q num)
    (Kinds.but_has (by decide)) g) p

end

end Sys2Proof.Machine
end

section
/-! RESUME (R87, R107, R119, R153, R168, R169): what is sent again, and the work that goes on. -/

namespace Sys2Proof.Machine

open Sys2Proof.Safety

/-! ## Commands sent again (R87) -/

section
variable {g : Ground} {p q : Plant} {t : Ticket} {w : Waits}

/-- The record by which a command is sent again for an oven. -/
def commandRecord (n : Nat) : Cmd → Option ToMachine
  | .step op => some (.step op n)
  | .move => some (.move n)
  | _ => none

theorem resend_sent {m : Machine} {n : Nat} {x : Wait} {c : Cmd} {record : ToMachine} (hx : resendOf x = some c)
    (hc : commandRecord n c = some record) : (m, record) ∈ (resend m n x p).sent := by
  unfold resend
  rw [hx]
  cases c with
  | step op =>
    obtain rfl := Option.some.inj hc
    simp [sendStep_sent]
  | move =>
    obtain rfl := Option.some.inj hc
    simp [send]
  | stand => cases hc
  | load => cases hc
  | isolate => cases hc

theorem commandsResent_sent {m : Machine} {c : Cmd} {record : ToMachine} (hm : m = .pm ∨ m = .gc)
    (hx : resendOf (w.machine m) = some c) (hc : commandRecord t.oven c = some record) :
    (m, record) ∈ (commandsResent t w p).sent := by
  have last := (resendCar_keeps (.of []) t.oven t.car w.car (resend .gc t.oven w.gc (resend .pm t.oven w.pm p))).sent
  refine last.subset ?_
  obtain rfl | rfl := hm
  · exact (resend_keeps (.of []) .gc t.oven w.gc _).sent.subset (resend_sent hx hc)
  · exact resend_sent hx hc

/-! ## The ticket resumed (R70, R72 to R75, R87) -/

/-- The ticket after its resumption with commands outstanding. -/
def waitingResumed (g : Ground) (w : Waits) (t : Ticket) : Ticket := resentTicket g w (goingTicket w t)

/-- The ticket in its pacing wait. -/
def pacedTicket (w : Option Time) (t : Ticket) : Ticket := { t with timer := none, pacingWait := w }

theorem completeTicket_gone (ht : p.ticket? t.number = some t) : (completeTicket g t.number p).ticket? t.number = none := by
  rw [Plant.ticket?, (completeTicket_completed ht).tickets]
  refine List.find?_eq_none.2 fun x hx => ?_
  obtain ⟨-, hne⟩ := List.mem_filter.1 hx
  simpa using hne

theorem goingTicket_ticket (ht : p.ticket? t.number = some t) (w : Waits) :
    (p.modTicket t.number (goingTicket w)).ticket? t.number = some (goingTicket w t) :=
  Plant.ticket?_modTicket_of_some (f := goingTicket w) ht fun _ => rfl

theorem resumeTicket_waits (ht : p.ticket? t.number = some t) (hs : t.suspended = true) (hw : resumedWaits g p t = w)
    (he : w.empty = false) :
    (resumeTicket g t.number p).ticket? t.number = some (waitingResumed g w t) ∧
      ∀ m c record, m = .pm ∨ m = .gc → resendOf (w.machine m) = some c → commandRecord t.oven c = some record →
        (m, record) ∈ (resumeTicket g t.number p).sent := by
  rw [resumeTicket_eq ht hs, hw]
  dsimp only
  rw [if_neg (by rw [he]; decide)]
  have ticket := goingTicket_ticket ht w
  generalize p.modTicket t.number (goingTicket w) = u at *
  refine ⟨?_, fun m c record hm hx hc => ?_⟩
  · exact Plant.ticket?_modTicket_of_some (f := resentTicket g w)
      ((Plant.ticket?_congr ((commandsResent_keeps (.of []) t w u).tickets rfl) _).trans ticket) fun _ => rfl
  · rw [Plant.modTicket_sent]
    exact commandsResent_sent hm hx hc

/-- A ticket with nothing outstanding advances. -/
theorem resumeTicket_advances (ht : p.ticket? t.number = some t) (hs : t.suspended = true) (hst : t.state ≠ .aligning)
    (he : t.waits.empty = true) :
    resumeTicket g t.number p = tryAdvance g t.number (p.modTicket t.number (goingTicket t.waits)) := by
  rw [resumeTicket_eq ht hs, resumedWaits, if_neg hst]
  exact if_pos he

/-- What becomes of a resumed ticket with nothing outstanding. -/
theorem resumeTicket_advanced (ht : p.ticket? t.number = some t) (hs : t.suspended = true) (he : t.waits.empty = true) :
    (t.state = .undooring → (resumeTicket g t.number p).ticket? t.number = some (guidingTicket g (goingTicket t.waits t))) ∧
    (t.state = .guiding → pacingMet g p = true →
      (resumeTicket g t.number p).ticket? t.number = some (pushingTicket g (goingTicket t.waits t))) ∧
    (t.state = .guiding → pacingMet g p = false →
      (resumeTicket g t.number p).ticket? t.number =
        some (pacedTicket (pacingTime g p) (goingTicket t.waits t))) ∧
    (t.state = .pushing → (resumeTicket g t.number p).ticket? t.number = some (closedTicket g (goingTicket t.waits t))) ∧
    (t.state = .closing → (resumeTicket g t.number p).ticket? t.number = none) := by
  have advances := resumeTicket_advances (g := g) ht hs
  have ticket := goingTicket_ticket ht t.waits
  have pacing : pacingTime g (p.modTicket t.number (goingTicket t.waits)) = pacingTime g p := rfl
  have met : pacingMet g (p.modTicket t.number (goingTicket t.waits)) = pacingMet g p := rfl
  generalize p.modTicket t.number (goingTicket t.waits) = u at *
  have going : (goingTicket t.waits t).suspended = false := rfl
  refine ⟨fun hst => ?_, fun hst hp => ?_, fun hst hp => ?_, fun hst => ?_, fun hst => ?_⟩
  · rw [advances (by rw [hst]; decide) he, tryAdvance_undooring ticket he going hst]
    exact (enterGuiding_entered (t := goingTicket t.waits t) ticket going).1
  · rw [advances (by rw [hst]; decide) he, tryAdvance_guiding ticket he hst, guidingDone, if_pos (met.trans hp),
      if_neg (by rw [going]; decide)]
    exact (enterPushing_pushed (t := goingTicket t.waits t) ticket going).ticket
  · rw [advances (by rw [hst]; decide) he, tryAdvance_guiding ticket he hst, guidingDone,
      if_neg (by rw [met, hp]; decide), pacing]
    exact Plant.ticket?_modTicket_of_some (f := pacedTicket (pacingTime g p)) ticket fun _ => rfl
  · rw [advances (by rw [hst]; decide) he, tryAdvance_pushing ticket he going hst]
    exact (enterClosing_closed (t := goingTicket t.waits t) ticket).ticket
  · rw [advances (by rw [hst]; decide) he, tryAdvance_closing ticket he going hst]
    exact completeTicket_gone (t := goingTicket t.waits t) ticket

end

/-! ## Jobs (R107) -/

section
variable {g : Ground} {p : Plant} {side : Side} {j : Job}

theorem sendJob_sent {n : Nat} {c : Cmd} {record : ToMachine} (hc : commandRecord n c = some record) :
    (sideMachine side, record) ∈ (sendJob side n c p).sent := by
  cases c with
  | step op =>
    obtain rfl := Option.some.inj hc
    simp [sendJob, send, forgetPresses]
  | move =>
    obtain rfl := Option.some.inj hc
    simp [sendJob, send]
  | stand => cases hc
  | load => cases hc
  | isolate => cases hc

/-- The job with its command, under its timer. -/
theorem sendJob_set {n : Nat} {c : Cmd} {record : ToMachine} (hc : commandRecord n c = some record) (j : Job) :
    ((sendJob side n c (p.modSide side fun d => { d with job := some j })).side side).job = some j ∧
      (sideMachine side, record) ∈ (sendJob side n c (p.modSide side fun d => { d with job := some j })).sent := by
  refine ⟨((sendJob_keeps (.of []) side n c _).job side rfl).trans ?_, sendJob_sent hc⟩
  rw [modSide_side_same]

theorem resumeJob_resumed (hj : (p.side side).job = some j) (hs : j.suspended = true) :
    (j.state = .moving → g.atSpot (sideMachine side) j.oven = true →
      ((resumeJob g side p).side side).job =
          some { oven := j.oven, state := .pressing, suspended := false, command := .step .press,
                 timer := some (g.clock + (g.params.tService : Int)) } ∧
        (sideMachine side, ToMachine.step .press j.oven) ∈ (resumeJob g side p).sent) ∧
    ((j.state = .moving → g.atSpot (sideMachine side) j.oven = false) → ∀ record, commandRecord j.oven j.command = some record →
      ((resumeJob g side p).side side).job =
          some { j with suspended := false, timer := some (g.clock + (g.params.tService : Int)) } ∧
        (sideMachine side, record) ∈ (resumeJob g side p).sent) := by
  unfold resumeJob
  rw [hj]
  dsimp only
  rw [if_pos hs]
  refine ⟨fun hst hat => ?_, fun hst record hc => ?_⟩
  · rw [hst, hat]
    exact sendJob_set (side := side) (n := j.oven) (c := .step .press) rfl _
  · cases hstate : j.state with
    | moving =>
      rw [hst hstate]
      exact sendJob_set hc _
    | pressing => exact sendJob_set hc _

end

/-! ## The charge (R119) -/

theorem resumeCharge_resumed {g : Ground} {p : Plant} {c : Charge} {left : Int} (hc : p.charge = some c) (hs : c.suspended = true)
    (hr : c.remaining = some left) (hleft : 0 < left) :
    (resumeCharge g p).charge = some { c with suspended := false, timer := some (g.clock + left), remaining := none } ∧
      (c.ccEnd = false → (Machine.cc, ToMachine.chargeGo c.oven) ∈ (resumeCharge g p).sent) ∧
      (c.level = none → (Machine.pm, ToMachine.step .level c.oven) ∈ (resumeCharge g p).sent) := by
  have early : ∀ u : Plant, u.charge = some { c with suspended := false, timer := some (g.clock + left), remaining := none } →
      chargeTimeout g u = u := fun u hu => by
    simp only [chargeTimeout, hu]
    exact if_pos (Int.lt_add_of_pos_right _ hleft)
  unfold resumeCharge
  rw [hc]
  dsimp only
  rw [if_pos hs, hr]
  dsimp only [Option.getD]
  rw [early _ (by cases c.ccEnd <;> cases c.level <;> rfl)]
  cases c.ccEnd <;> cases c.level <;> simp [send]

/-! ## Cars (R152, R153) -/

section
variable {g : Ground} {c : Car} {p : Plant}

theorem lookForGrant_trackHold (g : Ground) (p : Plant) : (lookForGrant g p).trackHold = p.trackHold := by
  unfold lookForGrant
  split
  · rfl
  · split
    · rfl
    · exact Plant.setSpray_trackHold ..

theorem requestWater_trackHold (g : Ground) (c : Car) (p : Plant) : (requestWater g c p).trackHold = p.trackHold := by
  unfold requestWater
  rw [lookForGrant_trackHold]
  split <;> rfl

theorem arrive_trackHold (g : Ground) (c : Car) (x : Nat) (p : Plant) : (arrive g c x p).trackHold = p.trackHold := by
  unfold arrive
  dsimp only
  split
  · split
    · rw [start_trackHold, setCarState_trackHold, Plant.modCar_trackHold]
    · rw [setCarState_trackHold, Plant.modCar_trackHold]
  · rw [requestWater_trackHold, setCarState_trackHold, Plant.modCar_trackHold]
  · split
    · rw [send_trackHold, setCarState_trackHold, Plant.modCar_trackHold]
    · rw [setCarState_trackHold, Plant.modCar_trackHold]
  · exact Plant.modCar_trackHold ..

theorem requestTarget_trackHold (g : Ground) (c : Car) (x : Nat) (p : Plant) : (requestTarget g c x p).trackHold = p.trackHold := by
  unfold requestTarget
  dsimp only
  split
  · exact Plant.modCar_trackHold ..
  · split
    · split
      · rw [arrive_trackHold, Plant.modCar_trackHold]
      · rw [send_trackHold, Plant.modCar_trackHold]
    · exact Plant.modCar_trackHold ..

theorem startRun_trackHold (g : Ground) (c : Car) (n : Nat) (p : Plant) : (startRun g c n p).trackHold = p.trackHold := by
  unfold startRun
  dsimp only
  split
  · rw [start_trackHold, setCarState_trackHold]
  · split
    · rw [requestTarget_trackHold, setCarState_trackHold]
    · rfl

theorem resumeCar_trackHold (g : Ground) (c : Car) (p : Plant) : (resumeCar g c p).trackHold = p.trackHold := by
  unfold resumeCar
  dsimp only
  split
  · rfl
  · exact requestTarget_trackHold ..
  · split
    · exact startRun_trackHold ..
    · rfl
  · rfl
  · split
    · exact requestTarget_trackHold ..
    · rfl

/-- The command that sends a car under way on. -/
def carCommand (r : CarRecord) : Option ToMachine :=
  match r.target, r.state with
  | some { position := x, granted := true }, _ => some (.move x)
  | none, .dumping => some .dump
  | _, _ => none

theorem resumeCar_sent {record : ToMachine} (h : carCommand (p.car c) = some record) :
    (carMachine c, record) ∈ (resumeCar g c p).sent := by
  unfold carCommand at h
  unfold resumeCar
  split at h
  · rename_i x _ htarget
    obtain rfl := Option.some.inj h
    simp [htarget, send]
  · rename_i htarget hstate
    obtain rfl := Option.some.inj h
    simp [htarget, hstate, send]
  · cases h

theorem resumeTrack_sent {record : ToMachine} (h : carCommand (p.car c) = some record) :
    (carMachine c, record) ∈ (resumeTrack g p).sent := by
  unfold resumeTrack
  have free : ∀ d, ({ p with trackHold := false } : Plant).car d = p.car d := fun d => by cases d <;> rfl
  generalize ({ p with trackHold := false } : Plant) = u at *
  have first := resumeCar_keeps (k := .of (Kind.ofCar .a)) (Kinds.of_has (List.Subset.refl _)) g u
  have second := resumeCar_keeps (k := .of (Kind.ofCar .b)) (Kinds.of_has (List.Subset.refl _)) g (resumeCar g .a u)
  rw [← free] at h
  cases c with
  | a => exact second.sent.subset (resumeCar_sent h)
  | b => exact resumeCar_sent (by rw [first.car .b (by decide)]; exact h)

theorem resumeTrack_trackHold (g : Ground) (p : Plant) : (resumeTrack g p).trackHold = false :=
  (resumeCar_trackHold ..).trans (resumeCar_trackHold ..)

end

end Sys2Proof.Machine
end

section
/-! RESUME (R87, R107, R119, R153, R168, R169): the statement. -/

namespace Sys2Proof.Machine

open Sys2Proof.Safety

/-! ## The work gone on (R169) -/

section
variable {g : Ground} {p : Plant}

/-- The tickets and the charge gone on. -/
def workBegun (g : Ground) (p : Plant) : Plant := resumeCharge g (resumeTickets g p)

/-- The jobs gone on too. -/
def jobsResumed (g : Ground) (p : Plant) : Plant := resumeJob g .cs (resumeJob g .ps (workBegun g p))

theorem resumeCharge_keeps_rest (g : Ground) (p : Plant) :
    Keeps (.but (.tickets :: .job .ps :: .job .cs :: Kind.ofTrack)) p (resumeCharge g p) :=
  resumeCharge_keeps (Kinds.but_has (by decide)) (fun _ _ => Kinds.but_has (by simp)) g

theorem jobs_keep (side : Side) (g : Ground) (p : Plant) : Keeps (.of (Kind.ofJob side)) p (resumeJob g side p) :=
  resumeJob_keeps (Kinds.of_has (List.Subset.refl _)) g p

theorem track_keeps (g : Ground) (p : Plant) : Keeps (.of Kind.ofTrack) p (resumeTrack g p) :=
  resumeTrack_keeps (Kinds.of_has (List.Subset.refl _)) g p

/-- What follows the jobs sends more, and is the track unit's. -/
theorem resumeWork_track (g : Ground) (p : Plant) : Keeps (.of Kind.ofTrack) (jobsResumed g p) (resumeWork g p) :=
  (track_keeps ..).trans (startAll_keeps ..)

theorem jobsResumed_keeps (g : Ground) (p : Plant) :
    Keeps (.of (Kind.ofJob .ps ++ Kind.ofJob .cs)) (workBegun g p) (jobsResumed g p) :=
  ((jobs_keep .ps ..).of_subset (by simp)).trans ((jobs_keep .cs ..).of_subset (by simp))

/-- What follows the tickets leaves them and sends more. -/
theorem resumeWork_tickets (g : Ground) (p : Plant) :
    (resumeWork g p).tickets = (resumeTickets g p).tickets ∧ (resumeTickets g p).sent <+: (resumeWork g p).sent := by
  have charge := resumeCharge_keeps_rest g (resumeTickets g p)
  have jobs := jobsResumed_keeps g p
  have track := resumeWork_track g p
  exact ⟨(track.tickets rfl).trans ((jobs.tickets (by decide)).trans (charge.tickets (by decide))),
    charge.sent.trans (jobs.sent.trans track.sent)⟩

theorem workBegun_job (side : Side) (g : Ground) (p : Plant) : ((workBegun g p).side side).job = (p.side side).job :=
  ((resumeCharge_keeps_rest ..).job side (by cases side <;> decide)).trans
    ((resumeTickets_keeps_work ..).job side (by cases side <;> decide))

/-- The plant in which a side's job goes on. -/
def sideBefore (g : Ground) (p : Plant) : Side → Plant
  | .ps => workBegun g p
  | .cs => resumeJob g .ps (workBegun g p)

/-- A side's job goes on by its own part of the resumption. -/
theorem resumeWork_side (side : Side) (g : Ground) (p : Plant) :
    ((sideBefore g p side).side side).job = (p.side side).job ∧
      ((resumeWork g p).side side).job = ((resumeJob g side (sideBefore g p side)).side side).job ∧
      (resumeJob g side (sideBefore g p side)).sent <+: (resumeWork g p).sent := by
  have track := resumeWork_track g p
  cases side with
  | ps =>
    have other := jobs_keep .cs g (resumeJob g .ps (workBegun g p))
    exact ⟨workBegun_job .ps g p, (track.job .ps (by decide)).trans (other.job .ps (by decide)), other.sent.trans track.sent⟩
  | cs =>
    have other := jobs_keep .ps g (workBegun g p)
    exact ⟨(other.job .cs (by decide)).trans (workBegun_job .cs g p), track.job .cs (by decide), track.sent⟩

theorem resumeWork_charge (g : Ground) (p : Plant) :
    (resumeTickets g p).charge = p.charge ∧ (resumeWork g p).charge = (workBegun g p).charge ∧
      (workBegun g p).sent <+: (resumeWork g p).sent := by
  have jobs := jobsResumed_keeps g p
  have track := resumeWork_track g p
  exact ⟨(resumeTickets_keeps_work ..).charge (by decide), (track.charge (by decide)).trans (jobs.charge (by decide)),
    jobs.sent.trans track.sent⟩

theorem carCommand_congr {r r' : CarRecord} (hs : r'.state = r.state) (ht : r'.target = r.target) :
    carCommand r' = carCommand r := by
  unfold carCommand
  rw [hs, ht]

/-- A car under way is sent on. -/
theorem resumeWork_car {c : Car} {record : ToMachine} (hc : UnderWay (p.car c)) (h : carCommand (p.car c) = some record) :
    (carMachine c, record) ∈ (resumeWork g p).sent := by
  have runs : RunsKept p (jobsResumed g p) := (resumeTickets_runs g p).trans <|
    (RunsKept.of_keeps (resumeCharge_keeps_rest ..) fun c => by cases c <;> decide).trans
      (RunsKept.of_keeps (jobsResumed_keeps ..) fun c => by cases c <;> decide)
  obtain ⟨state, target⟩ := runs.car c hc
  exact (startAll_keeps (.of []) _ _).sent.subset (resumeTrack_sent ((carCommand_congr state target).trans h))

theorem resumeWork_trackHold (g : Ground) (p : Plant) : (resumeWork g p).trackHold = false :=
  (startAll_trackHold ..).trans (resumeTrack_trackHold ..)

end

/-! ## The single suspended ticket (R87) -/

section
variable {g : Ground} {p : Plant} {t : Ticket} {w : Waits}

/-- The suspended ticket, and no other. -/
structure Alone (p : Plant) (t : Ticket) : Prop where
  ticket : p.ticket? t.number = some t
  suspended : t.suspended = true
  only : ∀ x ∈ p.tickets, x.suspended = true → x = t

/-- What the resumption leaves of the single suspended ticket. -/
theorem Alone.resumed (h : Alone p t) {o : Option Ticket} (ho : (resumeTicket g t.number p).ticket? t.number = o)
    (going : ∀ x, o = some x → x.suspended = false) :
    (resumeWork g p).ticket? t.number = o ∧ (resumeTicket g t.number p).sent <+: (resumeWork g p).sent := by
  obtain ⟨tickets, sent⟩ := resumeWork_tickets g p
  rw [resumeTickets_single h.ticket h.only fun x hx => going x (ho.symm.trans hx)] at tickets sent
  exact ⟨(Plant.ticket?_congr tickets _).trans ho, sent⟩

theorem Alone.waits (h : Alone p t) (hw : resumedWaits g p t = w) (he : w.empty = false) :
    (resumeWork g p).ticket? t.number = some (waitingResumed g w t) ∧
      ∀ m c record, m = .pm ∨ m = .gc → resendOf (w.machine m) = some c → commandRecord t.oven c = some record →
        (m, record) ∈ (resumeWork g p).sent := by
  obtain ⟨ticket, sends⟩ := resumeTicket_waits h.ticket h.suspended hw he
  obtain ⟨final, sent⟩ := h.resumed ticket fun x hx => by
    obtain rfl := Option.some.inj hx
    rfl
  exact ⟨final, fun m c record hm hx hc => sent.subset (sends m c record hm hx hc)⟩

/-- A machine of a ticket with commands outstanding: the same command again, or the next one of its side. -/
theorem Alone.machine (h : Alone p t) (hst : t.state ≠ .aligning) (he : t.waits.empty = false) {m : Machine} {op : Op}
    (hm : m = .pm ∨ m = .gc) :
    (t.waits.machine m = .waiting (.step op) → (m, ToMachine.step op t.oven) ∈ (resumeWork g p).sent) ∧
      ∀ next, t.waits.machine m = .recorded (.step op) → closingNext op = some next →
        (m, ToMachine.step next t.oven) ∈ (resumeWork g p).sent ∧
          ((resumeWork g p).ticket? t.number).map (fun x => x.waits.machine m) = some (.waiting (.step next)) := by
  obtain ⟨ticket, sends⟩ := h.waits (g := g) (if_neg hst) he
  refine ⟨fun hw => sends m (.step op) _ hm (by rw [hw]; rfl) rfl, fun next hw hnext => ?_⟩
  have again : resendOf (t.waits.machine m) = some (.step next) := by
    rw [hw]
    exact congrArg (Option.map Cmd.step) hnext
  have waits : resumeWait (t.waits.machine m) = .waiting (.step next) := by
    rw [hw]
    simp [resumeWait, resendOf, hnext]
  refine ⟨sends m (.step next) _ hm again rfl, ?_⟩
  rw [ticket]
  obtain rfl | rfl := hm
  · exact congrArg some waits
  · exact congrArg some waits

/-- A ticket in ALIGNING with a machine not at the spot. -/
theorem Alone.aligning (h : Alone p t) (hst : t.state = .aligning) {m : Machine} (hm : m = .pm ∨ m = .gc)
    (hat : g.atSpot m t.oven = false) :
    (m, ToMachine.move t.oven) ∈ (resumeWork g p).sent ∧
      ((resumeWork g p).ticket? t.number).map (fun x => (x.state, x.suspended, x.timer)) =
        some (.aligning, false, some (g.clock + (g.params.tAlign : Int))) := by
  have outstanding : (alignWaits g p t).machine m = .waiting .move := by
    obtain rfl | rfl := hm
    · exact if_neg (by rw [hat]; decide)
    · exact if_neg (by rw [hat]; decide)
  have he : (alignWaits g p t).empty = false := by
    cases he : (alignWaits g p t).empty with
    | false => rfl
    | true =>
      obtain ⟨-, pm, gc', -⟩ := (Waits.empty_iff _).1 he
      obtain rfl | rfl := hm
      · rw [show (alignWaits g p t).machine .pm = (alignWaits g p t).pm from rfl, pm] at outstanding
        cases outstanding
      · rw [show (alignWaits g p t).machine .gc = (alignWaits g p t).gc from rfl, gc'] at outstanding
        cases outstanding
  obtain ⟨ticket, sends⟩ := h.waits (g := g) (if_pos hst) he
  refine ⟨sends m .move _ hm (by rw [outstanding]; rfl) rfl, ?_⟩
  rw [ticket]
  simp [waitingResumed, resentTicket, goingTicket, hst, stepTime]

/-- A ticket with nothing outstanding goes to its next step. -/
theorem Alone.advanced (h : Alone p t) (he : t.waits.empty = true) :
    (t.state = .undooring → ((resumeWork g p).ticket? t.number).map (fun x => x.state) = some .guiding) ∧
    (t.state = .guiding → pacingMet g p = true →
      ((resumeWork g p).ticket? t.number).map (fun x => x.state) = some .pushing) ∧
    (t.state = .guiding → pacingMet g p = false →
      ((resumeWork g p).ticket? t.number).map (fun x => (x.state, x.suspended, x.timer, x.pacingWait)) =
        some (.guiding, false, none, pacingTime g p)) ∧
    (t.state = .pushing → ((resumeWork g p).ticket? t.number).map (fun x => x.state) = some .closing) ∧
    (t.state = .closing → (resumeWork g p).ticket? t.number = none) := by
  obtain ⟨undooring, pushing, paced, closing, gone⟩ := resumeTicket_advanced (g := g) h.ticket h.suspended he
  have going : ∀ {u : Ticket}, u.suspended = false → ∀ x, some u = some x → x.suspended = false := fun hu x hx => by
    rwa [← Option.some.inj hx]
  refine ⟨fun hst => ?_, fun hst hp => ?_, fun hst hp => ?_, fun hst => ?_, fun hst => ?_⟩
  · rw [(h.resumed (undooring hst) (going rfl)).1]
    rfl
  · rw [(h.resumed (pushing hst hp) (going rfl)).1]
    rfl
  · rw [(h.resumed (paced hst hp) (going rfl)).1]
    simp [pacedTicket, goingTicket, hst]
  · rw [(h.resumed (closing hst) (going rfl)).1]
    rfl
  · exact (h.resumed (gone hst) fun x hx => by cases hx).1

end

/-! ## The command (R168) -/

section
variable {s s₀ : State} {port : Port} {tag : Byte}

/-- The checks of RESUME. -/
def resumeChecks (port : Port) (s : State) : List Check :=
  [ whileStarting s,
    ⟨port = .sup && s.ground.runState = .stopped, .state, .runState⟩,
    ⟨port = .pnl && s.ground.estopLine && !s.ground.running, .state, .line⟩ ]

theorem exec_resume (port : Port) (tag : Byte) (s : State) :
    exec (.resume port tag) s = .next (s.serve port tag .resume (resumeChecks port) fun s =>
      let s := if s.ground.running then s else s.goOn
      (s, .runState s.ground.runState s.ground.estopLine)) := rfl

/-- The plant in which the work goes on. -/
theorem State.goOn_plant (s : State) :
    ∃ sup pnl, s.goOn.plant = resumeWork { s.ground with runState := .running } { s.plant with sup := sup, pnl := pnl } := by
  obtain ⟨sup, pnl, e⟩ := s.setRunState_plant .running .resume
  refine ⟨sup, pnl, ?_⟩
  rw [← e, ← s.setRunState_ground .running .resume]
  rfl

/-- The first of RESUME's checks that fails. -/
theorem firstRefusal_resume (hs : started s) (ht : takes s port tag .resume s₀) :
    firstRefusal (resumeChecks port s₀) =
      if port = .sup ∧ s.ground.runState = .stopped then some (.refused .state .runState)
      else if port = .pnl ∧ s.ground.estopLine = true ∧ s.ground.runState ≠ .running then some (.refused .state .line)
      else none := by
  have hstarting : s.ground.starting = false := hs
  simp [resumeChecks, whileStarting, ground_of_takes ht, hstarting, Ground.running, and_assoc]

theorem exec_resume_goes (hs : started s) (ht : takes s port tag .resume s₀) (hr : s.ground.runState ≠ .running)
    (hsup : ¬(port = .sup ∧ s.ground.runState = .stopped)) (hpnl : ¬(port = .pnl ∧ s.ground.estopLine = true)) :
    exec (.resume port tag) s = .next (s₀.goOn.settled.answer port tag (.ok (.runState .running s.ground.estopLine))) := by
  have ground := ground_of_takes ht
  have halted : s₀.ground.running = false := by
    rw [ground]
    exact decide_eq_false hr
  rw [exec_resume]
  refine accepted_of_takes_eq ht ?_ ?_
  · rw [firstRefusal_resume hs ht, if_neg hsup, if_neg fun ⟨hport, hline, _⟩ => hpnl ⟨hport, hline⟩]
  · dsimp only
    rw [halted, if_neg (by decide), State.goOn_ground, ground]

/-- While RUNNING the command answers the run state. -/
theorem exec_resume_idle (hs : started s) (ht : takes s port tag .resume s₀) (hr : s.ground.runState = .running) (hc : calm s) :
    exec (.resume port tag) s = .next (s₀.answer port tag (.ok (.runState .running s.ground.estopLine))) := by
  have ground := ground_of_takes ht
  have running : s₀.ground.running = true := by
    rw [ground]
    exact decide_eq_true hr
  rw [exec_resume]
  refine accepted_of_takes_calm_eq ht ?_ ?_ (calm_of_takes ht hc)
  · rw [firstRefusal_resume hs ht, if_neg (by simp [hr]), if_neg (by simp [hr])]
  · dsimp only
    rw [running, if_pos rfl, ground, hr]

end

/-- Settles O15: the work gone on unit by unit, and RESUME where it is refused or has nothing to do. -/
theorem resumeStartsTheBattery : Obligations.ResumeStartsTheBattery := by
  unfold Obligations.ResumeStartsTheBattery
  intro s s₀ port tag hs ht
  refine ⟨fun hr hsup hpnl => ?goes, fun hport hst => ?onSup, fun hport hline hr => ?onPnl, fun hr hc => exec_resume_idle hs ht hr hc⟩
  case goes =>
    have answered := exec_resume_goes hs ht hr hsup hpnl
    have ground : s₀.goOn.settled.ground = { s.ground with runState := .running } := by
      rw [State.settled_ground, State.goOn_ground, ground_of_takes ht]
    obtain ⟨sup, pnl, plant⟩ := s₀.goOn_plant
    obtain ⟨sup₀, pnl₀, rfl⟩ := state_of_takes ht
    rw [plant]
    generalize hp : ({ s.plant with sup := sup, pnl := pnl, sent := [] } : Plant) = p
    have side : ∀ side, p.side side = s.plant.side side := fun side => by subst hp; cases side <;> rfl
    have car : ∀ c, p.car c = s.plant.car c := fun c => by subst hp; cases c <;> rfl
    refine ⟨answered, ground, fun t hticket hsusp only => ?ticket, fun sd j hj hsusp => ?job, fun c left hc hsusp hleft hpos => ?charge,
      resumeWork_trackHold .., fun c => ⟨fun x hst hx => ?runs, fun hst hx => ?dumps⟩⟩
    case ticket =>
      have alone : Alone p t := by
        subst hp
        exact ⟨hticket.1, hsusp, only⟩
      have pacing : pacingTime s.ground s.plant = pacingTime s.ground p := by subst hp; rfl
      have met : pacingMet s.ground s.plant = pacingMet s.ground p := by subst hp; rfl
      rw [pacing, met]
      refine ⟨fun hst he => ⟨?_, fun m op hm => alone.machine ?_ he hm⟩, fun hst m hm hat => alone.aligning hst hm hat,
        fun he => alone.advanced he⟩
      · rw [(alone.waits (if_neg ?_) he).1]
        · rfl
        · rcases hst with e | e | e | e <;> rw [e] <;> decide
      · rcases hst with e | e | e | e <;> rw [e] <;> decide
    case job =>
      obtain ⟨before, job, sent⟩ := resumeWork_side sd { s.ground with runState := .running } p
      obtain ⟨presses, again⟩ := resumeJob_resumed (g := { s.ground with runState := .running })
        (before.trans ((congrArg _ (side sd)).trans hj)) hsusp
      dsimp only
      rw [job]
      refine ⟨fun hst hat => ?_, fun hst hat hcmd => ?_, fun hst hcmd => ?_⟩
      · exact (presses hst hat).imp_right fun h => sent.subset h
      · exact (again (fun _ => hat) _ (by rw [hcmd]; rfl)).imp_right fun h => sent.subset h
      · exact (again (fun h => by rw [hst] at h; cases h) _ (by rw [hcmd]; rfl)).imp_right fun h => sent.subset h
    case charge =>
      obtain ⟨before, after, sent⟩ := resumeWork_charge { s.ground with runState := .running } p
      have charge : p.charge = some c := by subst hp; exact hc
      obtain ⟨resumed, cc, pm⟩ := resumeCharge_resumed (g := { s.ground with runState := .running }) (before.trans charge)
        hsusp hleft hpos
      exact ⟨after.trans resumed, fun h => sent.subset (cc h), fun h => sent.subset (pm h)⟩
    case runs =>
      refine resumeWork_car (c := c) (.inl ?_) ?_
      · rw [car]
        exact ⟨hst, x, hx⟩
      · rw [car, carCommand, hx]
    case dumps =>
      refine resumeWork_car (c := c) (.inr ?_) ?_
      · rw [car]
        exact ⟨hst, hx⟩
      · rw [car, carCommand, hx, hst]
  case onSup =>
    rw [exec_resume]
    exact refused_of_takes ht (by rw [firstRefusal_resume hs ht, if_pos ⟨hport, hst⟩])
  case onPnl =>
    rw [exec_resume]
    exact refused_of_takes ht (by rw [firstRefusal_resume hs ht, if_neg (by simp [hport]), if_pos ⟨hport, hline, hr⟩])

end Sys2Proof.Machine
end

section
/-! One push at a time (R63, R64): what the operations of the plant keep of the ticket list. -/

namespace Sys2Proof.Machine

open Sys2Proof.Safety

/-! ## The ticket list of a plant -/

/-- The plant's part of `PushSound`, the tickets at work being one by its number. -/
structure Pushes (p : Plant) : Prop where
  numbers : (p.tickets.map fun t => t.number).Nodup
  ovens : (p.tickets.map fun t => t.oven).Nodup
  one : ∀ a ∈ p.tickets, ∀ b ∈ p.tickets, atWork a.state = true → atWork b.state = true → a.number = b.number
  counted : ∀ t ∈ p.tickets, t.number < p.nextTicket
  held : ∀ t ∈ p.tickets, (p.oven t.oven).phase.holdsTicket = true
  extracted : ∀ t ∈ p.tickets, t.extractSent = true → atWork t.state = true

section
variable {p q r : Plant} {g : Ground} {t : Ticket} {num : Nat}

theorem Pushes.same_of_number (h : Pushes p) {a b : Ticket} (ha : a ∈ p.tickets) (hb : b ∈ p.tickets) (hn : a.number = b.number) :
    a = b :=
  List.inj_on_of_nodup_map h.numbers ha hb hn

theorem Pushes.same_of_oven (h : Pushes p) {a b : Ticket} (ha : a ∈ p.tickets) (hb : b ∈ p.tickets) (ho : a.oven = b.oven) :
    a = b :=
  List.inj_on_of_nodup_map h.ovens ha hb ho

theorem Pushes.ticket? (h : Pushes p) (ht : t ∈ p.tickets) : p.ticket? t.number = some t := by
  have found : p.ticket? t.number ≠ none := fun hn => by
    simpa using List.find?_eq_none.1 hn t ht
  obtain ⟨x, hx⟩ := Option.ne_none_iff_exists'.1 found
  obtain ⟨mem, number⟩ := Plant.ticket?_eq_some hx
  rw [hx, h.same_of_number mem ht number]

/-- Some of the tickets, their ovens holding them. -/
theorem Pushes.sub (h : Pushes p) (ht : q.tickets.Sublist p.tickets) (hc : q.nextTicket = p.nextTicket)
    (hh : ∀ t ∈ q.tickets, (q.oven t.oven).phase.holdsTicket = true) : Pushes q where
  numbers := h.numbers.sublist (ht.map _)
  ovens := h.ovens.sublist (ht.map _)
  one a ha b hb := h.one a (ht.subset ha) b (ht.subset hb)
  counted t hm := hc ▸ h.counted t (ht.subset hm)
  held := hh
  extracted t hm := h.extracted t (ht.subset hm)

/-- The ticket list is kept sound without an issue. -/
structure PushKept (p q : Plant) : Prop where
  pushes : Pushes p → Pushes q
  nil : p.tickets = [] → q.tickets = []
  counter : Pushes p → q.nextTicket = p.nextTicket

theorem PushKept.refl (p : Plant) : PushKept p p := ⟨id, id, fun _ => rfl⟩

theorem PushKept.trans (h : PushKept p q) (h' : PushKept q r) : PushKept p r :=
  ⟨fun x => h'.pushes (h.pushes x), fun x => h'.nil (h.nil x), fun x => (h'.counter (h.pushes x)).trans (h.counter x)⟩

/-- What a sound list keeps, where a list without tickets stays so. -/
theorem PushKept.of_pushes (h : Pushes p → PushKept p q) (hn : p.tickets = [] → q.tickets = []) : PushKept p q :=
  ⟨fun x => (h x).pushes x, hn, fun x => (h x).counter x⟩

theorem PushKept.ite {c : Prop} [Decidable c] (h : c → PushKept p q) (h' : ¬c → PushKept p r) : PushKept p (if c then q else r) := by
  split
  · rename_i hc
    exact h hc
  · rename_i hc
    exact h' hc

theorem PushKept.foldl {α : Type} {f : Plant → α → Plant} (l : List α) (hf : ∀ a q, PushKept q (f q a)) (p : Plant) :
    PushKept p (l.foldl f p) := by
  induction l generalizing p with
  | nil => exact .refl p
  | cons a l ih => exact (hf a p).trans (ih _)

/-- The kinds that the ticket list hangs on. -/
abbrev Kind.ofPushes : List Kind := [.tickets, .counter, .phases]

/-- Some of the tickets are left, in ovens that hold them. -/
theorem PushKept.of_sub (ht : q.tickets.Sublist p.tickets) (hc : q.nextTicket = p.nextTicket)
    (hh : Pushes p → ∀ t ∈ q.tickets, (q.oven t.oven).phase.holdsTicket = true) : PushKept p q :=
  ⟨fun h => h.sub ht hc (hh h), fun hn => List.sublist_nil.1 (hn ▸ ht), fun _ => hc⟩

/-- The tickets are as they were, and their ovens hold them still. -/
theorem PushKept.of_holds {k : Kinds} (h : Keeps k p q) (ht : k .tickets = false) (hc : k .counter = false)
    (hh : ∀ t ∈ p.tickets, (p.oven t.oven).phase.holdsTicket = true → (q.oven t.oven).phase.holdsTicket = true) :
    PushKept p q := by
  have tickets := h.tickets ht
  refine .of_sub (tickets ▸ .refl _) (h.counter hc) fun x t hm => ?_
  rw [tickets] at hm
  exact hh t hm (x.held t hm)

/-- The tickets and the phases are as they were. -/
theorem PushKept.of_keeps {k : Kinds} (h : Keeps k p q) (hk : ∀ x ∈ Kind.ofPushes, k x = false) : PushKept p q :=
  .of_holds h (hk _ (by simp)) (hk _ (by simp)) fun t _ hold => by rwa [h.phase (hk _ (by simp))]

theorem PushKept.of_writes (h : Writes (.but Kind.ofPushes) p q) : PushKept p q := by
  have tickets := h.tickets (Kinds.but_eq_false (by simp))
  refine .of_sub (tickets ▸ .refl _) (h.counter (Kinds.but_eq_false (by simp))) fun x t hm => ?_
  rw [h.phase (Kinds.but_eq_false (by simp))]
  exact x.held t (tickets ▸ hm)

theorem PushKept.of_but (h : Keeps (.but Kind.ofPushes) p q) : PushKept p q := .of_keeps h fun _ => Kinds.but_eq_false

/-- A list without tickets is sound. -/
theorem PushKept.of_nil (h : q.tickets = []) (hc : q.nextTicket = p.nextTicket) : PushKept p q :=
  .of_sub (h ▸ List.nil_sublist _) hc fun _ t hm => by simp [h] at hm

/-! ## The ovens' phases (R4) -/

/-- The causes that let an oven go from holding a ticket. -/
def Cause.frees : Cause → Bool
  | .ticketComplete | .clearedEmpty | .clearedFull | .ticketReturn => true
  | _ => false

theorem Cause.moves_holds {cause : Cause} (hc : cause.frees = false) {old new : Phase} (hm : cause.moves old new = true)
    (ho : old.holdsTicket = true) : new.holdsTicket = true := by
  unfold Cause.moves at hm
  split at hm <;> simp_all [Cause.frees, Phase.holdsTicket]

theorem Plant.oven_of_not_hasOven {n : Nat} (h : ¬p.hasOven n) : p.oven n = Oven.created n := by
  have none : numbered p.ovens n = none := by
    cases n with
    | zero => rfl
    | succ n => exact List.getElem?_eq_none (Nat.le_of_not_lt fun hlt => h ⟨Nat.le_add_left .., hlt⟩)
  rw [oven, none]
  rfl

/-- An oven that holds a ticket stands in the table. -/
theorem hasOven_of_holds {n : Nat} (h : (p.oven n).phase.holdsTicket = true) : p.hasOven n := by
  by_contra hn
  have absent : p.oven n = Oven.created n := Plant.oven_of_not_hasOven hn
  rw [absent] at h
  cases h

theorem changePhase_holds {n : Nat} {new : Phase} {cause : Cause} (hc : cause.frees = false)
    (h : (p.oven n).phase.holdsTicket = true) : ((changePhase g n new cause p).oven n).phase.holdsTicket = true := by
  cases hm : cause.moves (p.oven n).phase new with
  | false => rwa [changePhase_refused hm]
  | true =>
    rw [changePhase_phase hm (hasOven_of_holds h)]
    exact Cause.moves_holds hc hm h

theorem changePhase_kept (g : Ground) (n : Nat) (new : Phase) {cause : Cause} (hc : cause.frees = false) (p : Plant) :
    PushKept p (changePhase g n new cause p) := by
  have keeps := changePhase_keeps (k := .of (Kind.ofPhase n)) (Kinds.of_has (List.Subset.refl _)) g new cause p
  refine .of_holds keeps (by simp [Kinds.of]) (by simp [Kinds.of]) fun t _ h => ?_
  by_cases hn : t.oven = n
  · rw [hn] at h ⊢
    exact changePhase_holds hc h
  · rwa [keeps.oven t.oven (Kinds.of_eq_false (by simp [hn]))]

/-! ## Changes of one ticket -/

/-- No other ticket is at work. -/
def NoneBeside (num : Nat) (p : Plant) : Prop := ∀ o ∈ p.tickets, o.number ≠ num → atWork o.state = false

/-- A ticket at work is at work alone. -/
theorem Pushes.noneBeside (h : Pushes p) (ht : t ∈ p.tickets) (hw : atWork t.state = true) : NoneBeside t.number p := fun o ho hn => by
  cases hwo : atWork o.state with
  | false => rfl
  | true => exact absurd (h.one o ho t ht hwo hw) hn

/-- A change of a ticket that leaves number and oven, and sets it to work only beside none. -/
theorem modTicket_kept {f : Ticket → Ticket} (hn : ∀ t, (f t).number = t.number) (ho : ∀ t, (f t).oven = t.oven)
    (hw : Pushes p → ∀ t, p.ticket? num = some t → atWork (f t).state = true → NoneBeside num p)
    (he : Pushes p → ∀ t, p.ticket? num = some t → (f t).extractSent = true → atWork (f t).state = true) :
    PushKept p (p.modTicket num f) := by
  have tickets : (p.modTicket num f).tickets = p.tickets.map fun t => if t.number = num then f t else t := Plant.modTicket_tickets ..
  refine ⟨fun h => ?_, fun hnil => by rw [tickets, hnil]; rfl, fun _ => rfl⟩
  have number : ∀ t : Ticket, (if t.number = num then f t else t).number = t.number := fun t => by
    split
    · exact hn t
    · rfl
  have oven : ∀ t : Ticket, (if t.number = num then f t else t).oven = t.oven := fun t => by
    split
    · exact ho t
    · rfl
  have mem : ∀ x ∈ (p.modTicket num f).tickets, ∃ t ∈ p.tickets, (if t.number = num then f t else t) = x := fun x hx => by
    rw [tickets] at hx
    exact List.mem_map.1 hx
  have found : ∀ {t}, t ∈ p.tickets → t.number = num → p.ticket? num = some t := fun ht hnum => hnum ▸ h.ticket? ht
  have alone : ∀ {a b : Ticket}, a ∈ p.tickets → b ∈ p.tickets → a.number = num → b.number ≠ num →
      atWork (f a).state = true → atWork b.state = false := fun ha hb hna hnb hwa =>
    hw h _ (found ha hna) hwa _ hb hnb
  refine ⟨?_, ?_, ?_, ?_, ?_, ?_⟩
  · rw [tickets, List.map_map, show (fun t : Ticket => t.number) ∘ _ = fun t => t.number from funext number]
    exact h.numbers
  · rw [tickets, List.map_map, show (fun t : Ticket => t.oven) ∘ _ = fun t => t.oven from funext oven]
    exact h.ovens
  · intro a ha b hb hwa hwb
    obtain ⟨a, ma, rfl⟩ := mem a ha
    obtain ⟨b, mb, rfl⟩ := mem b hb
    rw [number, number]
    by_cases hna : a.number = num
    · by_cases hnb : b.number = num
      · rw [hna, hnb]
      · rw [if_pos hna] at hwa
        rw [if_neg hnb, alone ma mb hna hnb hwa] at hwb
        cases hwb
    · by_cases hnb : b.number = num
      · rw [if_pos hnb] at hwb
        rw [if_neg hna, alone mb ma hnb hna hwb] at hwa
        cases hwa
      · rw [if_neg hna] at hwa
        rw [if_neg hnb] at hwb
        exact h.one a ma b mb hwa hwb
  · intro x hx
    obtain ⟨t, ht, rfl⟩ := mem x hx
    rw [number]
    exact h.counted t ht
  · intro x hx
    obtain ⟨t, ht, rfl⟩ := mem x hx
    rw [oven]
    exact h.held t ht
  · intro x hx hex
    obtain ⟨t, ht, rfl⟩ := mem x hx
    by_cases hnum : t.number = num
    · rw [if_pos hnum] at hex ⊢
      exact he h t (found ht hnum) hex
    · rw [if_neg hnum] at hex ⊢
      exact h.extracted t ht hex

/-- What the soundness of the list reads of a ticket. -/
def Ticket.core (t : Ticket) : Nat × Nat × TicketState × Bool := (t.number, t.oven, t.state, t.extractSent)

/-- A change of tickets that leaves what the soundness reads of each. -/
theorem PushKept.of_map {f : Ticket → Ticket} (hf : ∀ t, (f t).core = t.core) (ht : q.tickets = p.tickets.map f)
    (hc : q.nextTicket = p.nextTicket) (ho : q.ovens = p.ovens) : PushKept p q := by
  have number : ∀ t, (f t).number = t.number := fun t => congrArg (fun c => c.1) (hf t)
  have oven : ∀ t, (f t).oven = t.oven := fun t => congrArg (fun c => c.2.1) (hf t)
  have state : ∀ t, (f t).state = t.state := fun t => congrArg (fun c => c.2.2.1) (hf t)
  have extractSent : ∀ t, (f t).extractSent = t.extractSent := fun t => congrArg (fun c => c.2.2.2) (hf t)
  have mem : ∀ x ∈ q.tickets, ∃ t ∈ p.tickets, f t = x := fun x hx => List.mem_map.1 (ht ▸ hx)
  refine ⟨fun h => ⟨?_, ?_, fun a ha b hb hwa hwb => ?_, fun x hx => ?_, fun x hx => ?_, fun x hx he => ?_⟩,
    fun hnil => by rw [ht, hnil]; rfl, fun _ => hc⟩
  · rw [ht, List.map_map, show (fun t : Ticket => t.number) ∘ f = fun t => t.number from funext number]
    exact h.numbers
  · rw [ht, List.map_map, show (fun t : Ticket => t.oven) ∘ f = fun t => t.oven from funext oven]
    exact h.ovens
  · obtain ⟨a, ma, rfl⟩ := mem a ha
    obtain ⟨b, mb, rfl⟩ := mem b hb
    rw [number, number]
    exact h.one a ma b mb (state a ▸ hwa) (state b ▸ hwb)
  · obtain ⟨t, mt, rfl⟩ := mem x hx
    rw [number, hc]
    exact h.counted t mt
  · obtain ⟨t, mt, rfl⟩ := mem x hx
    rw [oven, Plant.oven_congr ho]
    exact h.held t mt
  · obtain ⟨t, mt, rfl⟩ := mem x hx
    rw [state]
    exact h.extracted t mt (extractSent t ▸ he)

/-- A change of a ticket that leaves its step. -/
theorem modTicket_kept_step (num : Nat) {f : Ticket → Ticket} (p : Plant)
    (hf : ∀ t, (f t).core = t.core := by exact fun _ => rfl) : PushKept p (p.modTicket num f) :=
  .of_map (f := fun t => if t.number = num then f t else t) (fun t => by split; exacts [hf t, rfl]) rfl rfl rfl

/-- A ticket enters a step at work: it was at work before, or no other is. -/
theorem enterStep_kept {st : TicketState} (hst : atWork st = true)
    (hw : Pushes p → ∀ t, p.ticket? num = some t → atWork t.state = true ∨ NoneBeside num p) (g : Ground) (w : Waits) :
    PushKept p (enterStep g num st w p) := by
  unfold enterStep
  split
  · exact .refl p
  · refine (modTicket_kept (by exact fun _ => rfl) (by exact fun _ => rfl) (fun h t ht _ => ?_) (fun _ _ _ _ => hst)).trans
      (.of_but (raise_keeps ..))
    obtain ⟨mem, hnum⟩ := Plant.ticket?_eq_some ht
    rcases hw h t ht with work | alone
    · exact hnum ▸ h.noneBeside mem work
    · exact alone

/-! ## Retirement and hold (R64, R75, R78, R79) -/

/-- A ticket that leaves the list leaves its oven alone. -/
theorem PushKept.of_retirement (ht : p.ticket? t.number = some t) (htickets : q.tickets = p.tickets.filter fun x => x.number ≠ t.number)
    (h : Keeps (.of (Kind.ofRetirement t)) p q) : PushKept p q := by
  have counter := (h.of_subset (Kind.ofRetirement_subset t)).counter (by simp [Kinds.of])
  refine .of_sub (htickets ▸ List.filter_sublist) counter fun hp x hx => ?_
  rw [htickets] at hx
  obtain ⟨mem, hne⟩ := List.mem_filter.1 hx
  obtain ⟨tmem, -⟩ := Plant.ticket?_eq_some ht
  rw [h.oven_ne fun ho => (by simpa using hne : x.number ≠ t.number) (congrArg _ (hp.same_of_oven mem tmem ho))]
  exact hp.held x mem

theorem retireEarly_kept (g : Ground) (num : Nat) (how : EarlyEnd) (reason : AbortReason) (p : Plant) :
    PushKept p (retireEarly g num how reason p) := by
  cases ht : p.ticket? num with
  | none => rw [retireEarly, ht]; exact .refl p
  | some t =>
    obtain ⟨-, rfl⟩ := Plant.ticket?_eq_some ht
    have retired := retireEarly_retired (g := g) ht how reason
    exact .of_retirement ht retired.tickets retired.keeps

theorem completeTicket_kept (g : Ground) (num : Nat) (p : Plant) : PushKept p (completeTicket g num p) := by
  cases ht : p.ticket? num with
  | none => rw [completeTicket, ht]; exact .refl p
  | some t =>
    obtain ⟨-, rfl⟩ := Plant.ticket?_eq_some ht
    have completed := completeTicket_completed (g := g) ht
    exact .of_retirement ht completed.tickets completed.keeps

theorem endBinding_kept (g : Ground) (t : Ticket) (faultHeld : Bool) (p : Plant) : PushKept p (endBinding g t faultHeld p) :=
  .of_but (endBinding_keeps (fun c _ => Kinds.but_has (by simp)) ..)

/-- A ticket past its EXTRACT is at work before it is held. -/
theorem holdTicket_kept (ht : p.ticket? num = some t) (he : t.extractSent = true) (g : Ground) (reason : AbortReason) :
    PushKept p (holdTicket g num reason p) := by
  rw [holdTicket_eq ht]
  refine PushKept.trans (modTicket_kept (by exact fun _ => rfl) (by exact fun _ => rfl) (fun h x hx _ => ?_) (fun _ _ _ _ => rfl)) <|
    (PushKept.of_but (raise_keeps ..)).trans <| (PushKept.of_but (sendStops_keeps ..)).trans <|
    (changePhase_kept g _ _ rfl _).trans <| (endBinding_kept ..).trans (.of_but (raise_keeps ..))
  rw [ht] at hx
  obtain rfl := Option.some.inj hx
  obtain ⟨mem, rfl⟩ := Plant.ticket?_eq_some ht
  exact h.noneBeside mem (h.extracted t mem he)

theorem abortTicket_kept (g : Ground) (num : Nat) (reason : AbortReason) (p : Plant) : PushKept p (abortTicket g num reason p) := by
  cases ht : p.ticket? num with
  | none => rw [abortTicket, ht]; exact .refl p
  | some t =>
    rw [abortTicket, ht]
    refine .ite (fun _ => .refl p) fun _ => ?_
    split
    · rename_i he
      exact holdTicket_kept ht he g reason
    · exact retireEarly_kept ..

/-! ## Entries to the steps (R70 to R75) -/

/-- A ticket at work enters its next step. -/
theorem enterStep_kept_working {st : TicketState} (hst : atWork st = true) (ht : p.ticket? num = some t) (hw : atWork t.state = true)
    (g : Ground) (w : Waits) : PushKept p (enterStep g num st w p) :=
  enterStep_kept hst (fun _ x hx => .inl (by rw [ht] at hx; rwa [← Option.some.inj hx])) g w

theorem enterUndooring_kept (ht : p.ticket? num = some t) (hw : atWork t.state = true) (g : Ground) :
    PushKept p (enterUndooring g num t p) := by
  rw [enterUndooring_eq]
  have entered := enterStep_kept_working (st := .undooring) rfl ht hw g undooringWaits
  have ticket := enterStep_ticket ht g .undooring undooringWaits
  generalize enterStep g num .undooring undooringWaits p = e at *
  have sends := extractsSent_keeps t.oven e
  generalize extractsSent t.oven e = x at *
  obtain ⟨changed, -⟩ := changePhase_opening g t.oven x
  have phase := changePhase_kept g t.oven .opening (cause := .enterUndooring) rfl x
  generalize changePhase g t.oven .opening .enterUndooring x = y at *
  have here : y.ticket? num = _ := (Plant.ticket?_congr (changed.tickets (by simp [Kinds.of])) _).trans
    ((Plant.ticket?_congr (sends.tickets rfl) _).trans ticket)
  refine entered.trans <| (PushKept.of_keeps sends (by decide)).trans <| phase.trans <|
    modTicket_kept (by exact fun _ => rfl) (by exact fun _ => rfl) (fun h u hu hwu => ?_) (fun h u hu _ => ?_)
  · obtain ⟨mem, rfl⟩ := Plant.ticket?_eq_some hu
    exact h.noneBeside mem hwu
  · rw [here] at hu
    obtain rfl := Option.some.inj hu
    rfl

theorem receiveOffered_keeps (k : Kinds) (t : Ticket) (p : Plant) : Keeps k p (receiveOffered t p) := by
  unfold receiveOffered
  split
  · exact sendReceive_keeps ..
  · exact .refl k p

theorem enterGuiding_kept (ht : p.ticket? num = some t) (hw : atWork t.state = true) (g : Ground) :
    PushKept p (enterGuiding g num t p) := by
  rw [enterGuiding_eq]
  exact (enterStep_kept_working (st := .guiding) rfl ht hw g _).trans <| (PushKept.of_but (send_keeps ..)).trans
    (.of_but (receiveOffered_keeps ..))

theorem enterPushing_kept (ht : p.ticket? num = some t) (hw : atWork t.state = true) (g : Ground) :
    PushKept p (enterPushing g num t p) := by
  rw [enterPushing_eq]
  exact (enterStep_kept_working (st := .pushing) rfl ht hw g _).trans <| (PushKept.of_but (send_keeps ..)).trans <|
    (modTicket_kept_step num _).trans <|
    (PushKept.of_keeps (pushStarted_keeps ..) (by decide)).trans (changePhase_kept g _ _ rfl _)

theorem enterClosing_kept (ht : p.ticket? num = some t) (hw : atWork t.state = true) (g : Ground) :
    PushKept p (enterClosing g num t p) := by
  rw [enterClosing_eq]
  exact (enterStep_kept_working (st := .closing) rfl ht hw g _).trans <| (PushKept.of_but (send_keeps ..)).trans <|
    (PushKept.of_but (send_keeps ..)).trans <| (PushKept.of_keeps (boundLetGo_keeps ..) (by decide)).trans
      (changePhase_kept g _ _ rfl _)

theorem guidingDone_kept (ht : p.ticket? num = some t) (hw : atWork t.state = true) (g : Ground) :
    PushKept p (guidingDone g num t p) :=
  .ite (fun _ => .ite (fun _ => .refl p) fun _ => enterPushing_kept ht hw g) fun _ =>
    modTicket_kept_step num p

theorem tryAdvance_kept (g : Ground) (num : Nat) (p : Plant) : PushKept p (tryAdvance g num p) := by
  unfold tryAdvance
  split
  · exact .refl p
  · rename_i t ht
    refine .ite (fun _ => .refl p) fun _ => .ite (fun _ => .ite (fun hst => ?_) fun _ => .refl p) fun _ => ?_
    · exact guidingDone_kept ht (by rw [hst]; rfl) g
    · split
      · exact enterUndooring_kept ht (by rename_i h; rw [h]; rfl) g
      · exact enterGuiding_kept ht (by rename_i h; rw [h]; rfl) g
      · exact guidingDone_kept ht (by rename_i h; rw [h]; rfl) g
      · exact enterClosing_kept ht (by rename_i h; rw [h]; rfl) g
      · exact completeTicket_kept ..
      · exact .refl p

end

end Sys2Proof.Machine
end

section
/-! One push at a time (R63, R64): the push sequencer's events and the schedule unit. -/

namespace Sys2Proof.Machine

open Sys2Proof.Safety

section
variable {p q r : Plant} {g : Ground} {t : Ticket} {num : Nat}

theorem checkAligning_kept (g : Ground) (num : Nat) (p : Plant) : PushKept p (checkAligning g num p) := by
  unfold checkAligning
  split
  · exact .refl p
  · exact .ite (fun _ => (modTicket_kept_step num p).trans (tryAdvance_kept ..)) fun _ => .refl p

/-- The ticket offered the machines is at work alone. -/
theorem alignSent_kept (alone : NoneBeside t.number p) (g : Ground) :
    PushKept p (alignSent g t p) := by
  have claims := claimsTaken_keeps g t.number p
  have entered : PushKept p (alignEntered g t p) := by
    unfold alignEntered
    have same : (claimsTaken g t.number p).tickets = p.tickets := claims.tickets (by decide)
    refine (PushKept.of_keeps claims (by decide)).trans <| (modTicket_kept_step t.number _).trans
      (enterStep_kept rfl (fun _ x hx => .inr ?_) g _)
    intro o ho hn
    rw [Plant.modTicket_tickets] at ho
    obtain ⟨u, hu, rfl⟩ := List.mem_map.1 ho
    rw [same] at hu
    by_cases hun : u.number = t.number
    · rw [if_pos hun] at hn
      exact absurd hun hn
    · rw [if_neg hun]
      exact alone u hu hun
  unfold alignSent
  exact .ite (fun _ => entered.trans (.of_but (sendMoves_keeps ..))) fun _ => entered

theorem enterAligning_kept (ht : p.ticket? t.number = some t) (alone : NoneBeside t.number p) (g : Ground) :
    PushKept p (enterAligning g t.number p) := by
  rw [enterAligning_eq ht]
  have sent := alignSent_kept alone g
  exact .ite (fun _ => sent.trans (abortTicket_kept ..)) fun _ =>
    .ite (fun _ => sent.trans (abortTicket_kept ..)) fun _ => sent.trans (tryAdvance_kept ..)

theorem offerToTickets_kept (g : Ground) (p : Plant) : PushKept p (offerToTickets g p) := by
  unfold offerToTickets
  refine .ite (fun _ => ?_) fun _ => .refl p
  split
  · rename_i t hfind
    have mem := List.mem_of_find?_eq_some hfind
    obtain ⟨-, -, alone⟩ := (mayAlign_iff p t).1 (List.find?_some hfind)
    exact .of_pushes (fun h => enterAligning_kept (h.ticket? mem) alone g) fun hnil => by simp [hnil] at mem
  · exact .refl p

theorem isolationConfirmed_kept (n : Nat) (p : Plant) : PushKept p (isolationConfirmed n p) := by
  unfold isolationConfirmed
  split
  · exact .refl p
  · exact .ite (fun _ => (modTicket_kept_step _ p).trans (.of_but (start_keeps ..))) fun _ => .refl p

theorem machineDone_kept (g : Ground) (m : Machine) (op : Op) (n : Nat) (p : Plant) : PushKept p (machineDone g m op n p) := by
  unfold machineDone
  split
  · exact .refl p
  · exact .ite (fun _ => (modTicket_kept_step _ p).trans <| (PushKept.of_but (sendNext_keeps ..)).trans (tryAdvance_kept ..)) fun _ => .refl p

theorem ramAdvanced_kept (g : Ground) (n load : Nat) (p : Plant) : PushKept p (ramAdvanced g n load p) := by
  unfold ramAdvanced
  split
  · exact .refl p
  · exact .ite (fun _ => (modTicket_kept_step _ p).trans <| (PushKept.of_but (judgeLoad_keeps (Kinds.but_has (by simp)) ..)).trans
        (machineDone_kept ..)) fun _ => .refl p

theorem carDone_kept (g : Ground) (c : Car) (cmd : Cmd) (p : Plant) : PushKept p (carDone g c cmd p) := by
  unfold carDone
  split
  · exact .refl p
  · split
    · exact .refl p
    · exact .ite (fun _ => (modTicket_kept_step _ p).trans (tryAdvance_kept ..)) fun _ => .refl p

theorem receiveDone_kept (g : Ground) (c : Car) (n : Nat) (p : Plant) : PushKept p (receiveDone g c n p) :=
  .ite (fun _ => (PushKept.of_writes (modCar_writes (c := c) (by simp [Kinds.but]) _ p)).trans <|
    (PushKept.of_writes (setCarState_writes (by simp [Kinds.but]) g _ _)).trans (carDone_kept ..)) fun _ => .refl p

theorem carReported_kept (g : Ground) (c : Car) (p : Plant) : PushKept p (carReported g c p) := by
  unfold carReported
  split
  · exact .refl p
  · split
    · exact .refl p
    · split
      · exact checkAligning_kept ..
      · exact .ite (fun _ => .refl p) fun _ => abortTicket_kept ..
      · exact .ite (fun _ => .refl p) fun _ => abortTicket_kept ..
      · exact .ite (fun _ => .refl p) fun _ => abortTicket_kept ..
      · exact .refl p

theorem carFaulted_kept (g : Ground) (c : Car) (num : Nat) (reason : CarFault) (p : Plant) :
    PushKept p (carFaulted g c num reason p) := by
  unfold carFaulted
  split
  · exact .refl p
  · split
    · exact abortTicket_kept ..
    · exact abortTicket_kept ..
    · exact abortTicket_kept ..
    · exact abortTicket_kept ..
    · exact abortTicket_kept ..
    · exact .refl p

theorem ticketMachineReport_kept (g : Ground) (m : Machine) (num : Nat) (p : Plant) :
    PushKept p (ticketMachineReport g m num p) := by
  unfold ticketMachineReport
  split
  · exact .refl p
  · split
    · exact checkAligning_kept ..
    · exact .ite (fun _ => .refl p) fun _ => abortTicket_kept ..
    · exact .ite (fun _ => .refl p) fun _ => abortTicket_kept ..
    · exact .ite (fun _ => .refl p) fun _ => abortTicket_kept ..
    · exact .ite (fun _ => .refl p) fun _ => abortTicket_kept ..
    · exact .refl p

theorem ticketMachineLost_kept (g : Ground) (num : Nat) (reason : AbortReason) (p : Plant) :
    PushKept p (ticketMachineLost g num reason p) := by
  unfold ticketMachineLost
  split
  · exact .refl p
  · exact .ite (fun _ => abortTicket_kept ..) fun _ => .refl p

theorem stepReached_kept (g : Ground) (num : Nat) (p : Plant) : PushKept p (stepReached g num p) := by
  unfold stepReached
  split
  · exact .refl p
  · split
    · exact .refl p
    · exact .ite (fun _ => .refl p) fun _ => abortTicket_kept ..

theorem pacingWaitReached_kept (g : Ground) (num : Nat) (p : Plant) : PushKept p (pacingWaitReached g num p) := by
  unfold pacingWaitReached
  split
  · exact .refl p
  · rename_i t ht
    split
    · rename_i hst _
      exact .ite (fun _ => .refl p) fun _ => enterPushing_kept ht (by rw [hst]; rfl) g
    · exact .refl p

theorem suspendTickets_kept (p : Plant) : PushKept p (suspendTickets p) :=
  .of_map (f := fun t => if t.state.claims then { t with suspended := true, timer := none } else t)
    (fun t => by split; exacts [rfl, rfl]) rfl rfl rfl

theorem resumeTicket_kept (g : Ground) (num : Nat) (p : Plant) : PushKept p (resumeTicket g num p) := by
  cases ht : p.ticket? num with
  | none => rw [resumeTicket_idle (by simp [ht])]; exact .refl p
  | some t =>
    by_cases hs : t.suspended = true
    · rw [resumeTicket_eq ht hs]
      have gone := modTicket_kept_step num (f := goingTicket (resumedWaits g p t)) p
      exact .ite (fun _ => gone.trans (tryAdvance_kept ..)) fun _ => gone.trans <| (PushKept.of_but (commandsResent_keeps ..)).trans
        (modTicket_kept_step num _)
    · rw [resumeTicket_idle (by simp [ht, hs])]
      exact .refl p

theorem resumeTickets_kept (g : Ground) (p : Plant) : PushKept p (resumeTickets g p) :=
  .foldl _ (fun num q => resumeTicket_kept g num q) p

/-! ## The issue of a ticket (R55, R63) -/

/-- At most so many tickets have been issued, none of them while unconfigured. -/
structure PushIssued (configured : Bool) (m : Nat) (p q : Plant) : Prop where
  pushes : Pushes p → p.nextTicket + m ≤ maxU32 → Pushes q
  nil : p.tickets = [] → q.tickets = [] ∨ configured = true
  counter : Pushes p → p.nextTicket + m ≤ maxU32 → q.nextTicket ≤ p.nextTicket + m

theorem PushKept.issued (h : PushKept p q) (configured : Bool) (m : Nat) : PushIssued configured m p q :=
  ⟨fun x _ => h.pushes x, fun x => .inl (h.nil x), fun x _ => by rw [h.counter x]; exact Nat.le_add_right ..⟩

theorem PushIssued.trans {c : Bool} {m m' : Nat} (h : PushIssued c m p q) (h' : PushIssued c m' q r) :
    PushIssued c (m + m') p r := by
  refine ⟨fun x hm => ?_, fun x => ?_, fun x hm => ?_⟩
  · have counter := h.counter x (by omega)
    exact h'.pushes (h.pushes x (by omega)) (by omega)
  · rcases h.nil x with hq | hc
    · exact h'.nil hq
    · exact .inr hc
  · have counter := h.counter x (by omega)
    have counter' := h'.counter (h.pushes x (by omega)) (by omega)
    omega

theorem PushKept.before {c : Bool} {m : Nat} (h : PushKept p q) (h' : PushIssued c m q r) : PushIssued c m p r :=
  Nat.zero_add m ▸ (h.issued c 0).trans h'

theorem PushIssued.kept {c : Bool} {m : Nat} (h : PushIssued c m p q) (h' : PushKept q r) : PushIssued c m p r :=
  h.trans (h'.issued c 0)

/-- An issue for an oven that holds no ticket. -/
theorem PushIssued.of_issued {kind : TicketKind} {n : Nat} {c : Car} (h : issued g kind n c p q)
    (free : (p.oven n).phase.holdsTicket = false) : PushIssued true 1 p q := by
  obtain ⟨tickets, counter, -, phase, others, -⟩ := h
  have next : p.nextTicket + 1 ≤ maxU32 → q.nextTicket = p.nextTicket + 1 := fun hm => by
    rw [counter, ticketAfter, if_neg (by omega)]
  have mem : ∀ t ∈ q.tickets, t ∈ p.tickets ∨ t = newTicket g p.nextTicket n kind c := fun t ht => by
    rw [tickets] at ht
    simpa using ht
  have apart : Pushes p → ∀ t ∈ p.tickets, t.oven ≠ n := fun x t ht hn => by
    have held := x.held t ht
    rw [hn, free] at held
    cases held
  refine ⟨fun x hm => ?_, fun _ => .inr rfl, fun x hm => (next hm).le⟩
  refine ⟨?_, ?_, fun a ha b hb hwa hwb => ?_, fun t ht => ?_, fun t ht => ?_, fun t ht he => ?_⟩
  · rw [tickets, List.map_append, List.nodup_append]
    refine ⟨x.numbers, by simp, fun a ha b hb => ?_⟩
    obtain ⟨t, mt, rfl⟩ := List.mem_map.1 ha
    obtain rfl : b = p.nextTicket := by simpa [newTicket] using hb
    exact (x.counted t mt).ne
  · rw [tickets, List.map_append, List.nodup_append]
    refine ⟨x.ovens, by simp, fun a ha b hb => ?_⟩
    obtain ⟨t, mt, rfl⟩ := List.mem_map.1 ha
    obtain rfl : b = n := by simpa [newTicket] using hb
    exact apart x t mt
  · rcases mem a ha with ma | rfl
    · rcases mem b hb with mb | rfl
      · exact x.one a ma b mb hwa hwb
      · cases hwb
    · cases hwa
  · rw [next hm]
    rcases mem t ht with mt | rfl
    · exact (x.counted t mt).trans (Nat.lt_succ_self _)
    · exact Nat.lt_succ_self _
  · rcases mem t ht with mt | rfl
    · rw [others t.oven (apart x t mt)]
      exact x.held t mt
    · exact congrArg Phase.holdsTicket phase
  · rcases mem t ht with mt | rfl
    · exact x.extracted t mt he
    · cases he

theorem issueTicket_pushIssued {kind : TicketKind} {n : Nat} {c : Car} (hp : p.tickets.length < 2)
    (hph : (p.oven n).phase = issuePhase kind) : PushIssued true 1 p (issueTicket g kind n c p) := by
  refine .of_issued (issueTicket_issued hp hph).1 ?_
  rw [hph, issuePhase]
  split <;> rfl

theorem issueTicket_eligible_issued {kind : TicketKind} {n : Nat} {c : Car} (hk : kind ≠ .forced) (hp : p.tickets.length < 2)
    (he : eligibleCar g p .ready true n = some c) : PushIssued true 1 p (issueTicket g kind n c p) :=
  issueTicket_pushIssued hp ((phase_of_eligible he).trans (if_neg hk).symm)

theorem cursorStep_issued (g : Ground) (fuel : Nat) (hp : p.tickets.length < 2) : PushIssued true 1 p (cursorStep g fuel p) := by
  induction fuel generalizing p with
  | zero => exact (PushKept.refl p).issued true 1
  | succ fuel ih =>
    have advanced : ∀ {u : Plant}, u.tickets.length < 2 → PushIssued true 1 u (cursorStep g fuel (advanceCursor g u)) := fun {u} hu => by
      have rest := ih (p := advanceCursor g u) hu
      exact (PushKept.of_but (advanceCursor_keeps rfl g u)).before rest
    unfold cursorStep
    split
    · exact (PushKept.refl p).issued true 1
    · rename_i n hn
      split
      · rename_i c he
        exact issueTicket_eligible_issued (by decide) hp (by assumption)
      · exact (PushKept.refl p).issued true 1
      · exact (PushKept.refl p).issued true 1
      · exact advanced hp
      · split
        · exact advanced hp
        · split
          · rename_i hroom
            exact (PushKept.of_but (listAtTail_keeps rfl g n _ hroom)).before (advanced hp)
          · exact (PushKept.of_but (catchupFull_keeps rfl g n _ p)).issued true 1

theorem catchupChoice_eligible {l : List CatchupEntry} {n : Nat} {c : Car} (h : catchupChoice g p l = some (n, c)) :
    eligibleCar g p .ready true n = some c := by
  induction l with
  | nil => cases h
  | cons e l ih =>
    unfold catchupChoice at h
    split at h
    · rename_i c' he
      cases h
      exact he
    · exact ih h

theorem evaluate_issued (g : Ground) (p : Plant) : PushIssued g.configured 1 p (evaluate g p) := by
  unfold evaluate
  split
  · rename_i ha
    obtain ⟨configured, -, -, hp, -, -⟩ := (evaluationActs_iff g p).1 ha
    rw [configured]
    split
    · rename_i n c hchoice
      exact issueTicket_eligible_issued (by decide) hp (catchupChoice_eligible hchoice)
    · exact cursorStep_issued g _ hp
  · exact (PushKept.refl p).issued _ 1

end

end Sys2Proof.Machine
end

section
/-! One push at a time (R63, R64): the charge unit, the doors and the follow-up events. -/

namespace Sys2Proof.Machine

open Sys2Proof.Safety

section
variable {p q : Plant}

/-! ## The charge unit -/

theorem Kinds.pushes_oven (n : Nat) : (Kinds.but Kind.ofPushes).has (Kind.ofOven n) := Kinds.but_has (by simp)
theorem Kinds.pushes_ask : (Kinds.but Kind.ofPushes).has Kind.ofAsk := Kinds.but_has (by decide)
theorem Kinds.pushes_claims : ∀ m ∈ [Machine.pm, Machine.gc], Kinds.but Kind.ofPushes (.claim m) = true := by decide

theorem becomeReady_kept (g : Ground) (n : Nat) {cause : Cause} (hc : cause.frees = false) (p : Plant) :
    PushKept p (becomeReady g n cause p) :=
  (changePhase_kept g n .ready hc p).trans (.of_but (raise_keeps ..))

theorem readinessReached_kept (g : Ground) (n : Nat) (p : Plant) : PushKept p (readinessReached g n p) := by
  unfold readinessReached
  dsimp only
  split
  · refine .ite (fun _ => .refl p) fun _ => (PushKept.of_but (accrue_keeps (Kinds.pushes_oven n) g p)).trans <|
      .ite (fun _ => (becomeReady_kept g n (cause := .readinessMet) rfl _).trans ?_) fun _ => ?_
    · exact .of_but (recomputeOven_keeps (Kinds.pushes_oven n) g _)
    · exact .of_but (recomputeOven_keeps (Kinds.pushes_oven n) g _)
  · exact .refl p

theorem beginCharge_kept (g : Ground) (n : Nat) (p : Plant) : PushKept p (beginCharge g n p) :=
  (PushKept.of_but (setChargeAsk_keeps Kinds.pushes_ask _ none p)).trans <| (changePhase_kept g n _ rfl _).trans <|
    (PushKept.of_but (commandAspirate_keeps (Kinds.pushes_oven n) _)).trans <| (PushKept.of_but (send_keeps ..)).trans
      (.of_but (send_keeps ..))

theorem prepareAsk_kept (g : Ground) (a : Ask) (p : Plant) : PushKept p (prepareAsk g a p) := by
  have claimed : PushKept p (setClaim g .pm .charge p) := .of_but (setClaim_keeps (by decide) g .charge p)
  exact .ite (fun _ => .ite (fun _ => beginCharge_kept ..) fun _ => .of_but (tellWait_keeps Kinds.pushes_ask ..)) fun _ =>
    .ite (fun _ => claimed.trans (beginCharge_kept ..)) fun _ => claimed.trans <|
      (PushKept.of_but (setAsk_keeps Kinds.pushes_ask _ _)).trans <| (PushKept.of_but (send_keeps ..)).trans (.of_but (send_keeps ..))

theorem dropAsk_kept (g : Ground) (p : Plant) : PushKept p (dropAsk g p) := .of_but (dropAsk_keeps Kinds.pushes_ask g p)

theorem recheckAsk_kept (g : Ground) (p : Plant) : PushKept p (recheckAsk g p) := by
  unfold recheckAsk
  split
  · exact .refl p
  · split
    · exact (PushKept.of_but (send_keeps ..)).trans (dropAsk_kept ..)
    · exact .of_but (tellWait_keeps Kinds.pushes_ask ..)
    · exact prepareAsk_kept ..

theorem newAsk_kept (g : Ground) (n : Nat) (p : Plant) : PushKept p (newAsk g n p) := by
  have asked : ∀ (u : Plant) a, PushKept u { u with ask := a } := fun u a => .of_but (setAsk_keeps Kinds.pushes_ask a u)
  unfold newAsk
  split
  · exact .of_but (send_keeps ..)
  · exact (dropAsk_kept g p).trans <| (asked _ _).trans (.of_but (send_keeps ..))
  · exact .ite (fun _ => (dropAsk_kept g p).trans (asked _ _)) fun _ => (dropAsk_kept g p).trans (prepareAsk_kept ..)

theorem repeatAsk_kept (g : Ground) (a : Ask) (p : Plant) : PushKept p (repeatAsk g a p) := by
  unfold repeatAsk
  split
  · exact .of_but (send_keeps ..)
  · exact .of_but (send_keeps ..)
  · exact .ite (fun _ => .of_but (send_keeps ..)) fun _ => prepareAsk_kept ..

theorem chargeAsked_kept (g : Ground) (n : Nat) (p : Plant) : PushKept p (chargeAsked g n p) := by
  unfold chargeAsked
  split
  · exact .ite (fun _ => repeatAsk_kept ..) fun _ => newAsk_kept ..
  · exact newAsk_kept ..

theorem setCharge_kept (c : Option Charge) (p : Plant) : PushKept p { p with charge := c } :=
  .of_but (setCharge_keeps Kinds.pushes_ask c p)

theorem endCharge_kept (g : Ground) (c : Charge) (mass : Nat) (unconfirmed stopPm : Bool) (p : Plant) :
    PushKept p (endCharge g c mass unconfirmed stopPm p) := by
  have oven := Kinds.pushes_oven c.oven
  exact (PushKept.of_but (setTarget_keeps oven g mass p)).trans <| (changePhase_kept g _ _ rfl _).trans <|
    (PushKept.ite (fun _ => .of_but (modOven_keeps oven (by exact fun _ => rfl) _)) fun _ => .refl _).trans <|
    (PushKept.of_but (beginAccrual_keeps oven g _)).trans <| (PushKept.of_but (setOverdue_keeps oven g _)).trans <|
    (PushKept.of_but (commandRegulate_keeps oven g _)).trans <| (setCharge_kept none _).trans <|
    (PushKept.ite (fun _ => .of_but (send_keeps ..)) fun _ => .refl _).trans (.of_but (releasePm_keeps (by decide) g true _))

theorem completeCharge_kept (g : Ground) (p : Plant) : PushKept p (completeCharge g p) := by
  unfold completeCharge
  split
  · exact .refl p
  · exact .ite (fun _ => (endCharge_kept ..).trans (.of_but (raise_keeps ..))) fun _ => .refl p

theorem chargeTimeout_kept (g : Ground) (p : Plant) : PushKept p (chargeTimeout g p) := by
  unfold chargeTimeout
  split
  · exact .refl p
  · split
    · exact .refl p
    · exact .ite (fun _ => .refl p) fun _ => (endCharge_kept ..).trans (.of_but (raise_keeps ..))

theorem chargeEndReport_kept (g : Ground) (n mass : Nat) (p : Plant) : PushKept p (chargeEndReport g n mass p) := by
  unfold chargeEndReport
  split
  · exact .ite (fun _ => .ite (fun _ => .refl p) fun _ => (setCharge_kept _ p).trans (completeCharge_kept ..)) fun _ =>
      .of_but (send_keeps ..)
  · exact .of_but (send_keeps ..)

theorem levelDone_kept (g : Ground) (n : Nat) (p : Plant) : PushKept p (levelDone g n p) := by
  unfold levelDone
  split
  · exact .ite (fun _ => (setCharge_kept _ p).trans (completeCharge_kept ..)) fun _ => .refl p
  · exact .refl p

theorem faultLevel_kept (g : Ground) (reason : WorkFault) (p : Plant) : PushKept p (faultLevel g reason p) := by
  unfold faultLevel
  split
  · exact .ite (fun _ => (setCharge_kept _ p).trans <| (PushKept.of_but (send_keeps ..)).trans <|
      (PushKept.of_but (raise_keeps ..)).trans (completeCharge_kept ..)) fun _ => .refl p
  · exact .refl p

theorem chargePmReport_kept (g : Ground) (p : Plant) : PushKept p (chargePmReport g p) := by
  unfold chargePmReport
  split
  · exact .ite (fun _ => .refl p) fun _ => faultLevel_kept ..
  · exact recheckAsk_kept ..

theorem chargePmFault_kept (g : Ground) (p : Plant) : PushKept p (chargePmFault g p) := by
  unfold chargePmFault
  split
  · exact faultLevel_kept ..
  · split
    · exact .ite (fun _ => (dropAsk_kept g p).trans (.of_but (send_keeps ..))) fun _ => .refl p
    · exact .refl p

theorem chargePmLost_kept (g : Ground) (p : Plant) : PushKept p (chargePmLost g p) := by
  unfold chargePmLost
  split
  · exact faultLevel_kept ..
  · split
    · exact .ite (fun _ => (PushKept.of_but (setAsk_keeps Kinds.pushes_ask _ p)).trans <|
        (PushKept.of_but (releasePm_keeps (by decide) g true _)).trans (.of_but (send_keeps ..))) fun _ => .refl p
    · exact .refl p

theorem resumeCharge_kept (g : Ground) (p : Plant) : PushKept p (resumeCharge g p) := by
  unfold resumeCharge
  split
  · exact .ite (fun _ => (setCharge_kept _ p).trans <| (PushKept.ite (fun _ => .refl _) fun _ => .of_but (send_keeps ..)).trans <|
      (PushKept.ite (fun _ => .refl _) fun _ => .of_but (send_keeps ..)).trans (chargeTimeout_kept ..)) fun _ => .refl p
  · exact .ite (fun _ => .of_but (send_keeps ..)) fun _ => .refl p
  · exact .refl p

/-! ## The doors -/

theorem doorChanged_kept (n : Nat) (side : Side) (old : Door) (always : Bool) (g : Ground) (p : Plant) :
    PushKept p (doorChanged n side old always g p) := by
  have informed : ∀ (c : Bool) (b : NoticeBody), PushKept p (rejudge g n side (if c then raise g b p else p)) := fun c b =>
    (PushKept.ite (fun _ => .of_but (raise_keeps ..)) fun _ => .refl p).trans
      (.of_but (rejudge_keeps (by cases side <;> decide) g n _))
  unfold doorChanged
  dsimp only
  split
  · exact .ite (fun _ => (informed _ _).trans (recheckAsk_kept ..)) fun _ => informed _ _
  · exact informed _ _

/-! ## Follow-up events -/

theorem Kinds.pushes_car (c : Car) : (Kinds.but Kind.ofPushes).has (Kind.ofCar c) := Kinds.but_has (by simp)
theorem Kinds.pushes_job (side : Side) : (Kinds.but Kind.ofPushes).has (Kind.ofJob side) := Kinds.but_has (by simp)

theorem runTask_issued (g : Ground) (t : Task) (p : Plant) : PushIssued g.configured 1 p (runTask g t p) := by
  have kept : ∀ {q}, PushKept p q → PushIssued g.configured 1 p q := fun h => h.issued _ 1
  cases t with
  | evaluate => exact evaluate_issued g p
  | pacing => exact kept (.of_but (pacingReached_keeps (by decide) g p))
  | offerTicket => exact kept (offerToTickets_kept g p)
  | recheckAsk => exact kept (recheckAsk_kept g p)
  | testJob side => exact kept (.of_but (testJob_keeps (Kinds.pushes_job side) g p))
  | recheckTarget c => exact kept (.of_but (recheckTarget_keeps (Kinds.pushes_car c) g p))
  | carReported c => exact kept (carReported_kept g c p)
  | carLoaded c => exact kept (carDone_kept g c .load p)
  | carFaulted c num reason => exact kept (carFaulted_kept g c num reason p)
  | readiness n => exact kept (readinessReached_kept g n p)
  | overdue n => exact kept (.of_but (overdueReached_keeps (Kinds.pushes_oven n) g p))
  | dwell n => exact kept (.of_but (dwellReached_keeps (Kinds.pushes_oven n) g p))
  | drain c => exact kept (.of_but (drainReached_keeps (Kinds.pushes_car c) g p))

theorem agenda_kept (p : Plant) (l : List Task) : PushKept p { p with agenda := l } := .of_sub (.refl _) rfl fun h => h.held

theorem settle_issued (g : Ground) (fuel : Nat) (p : Plant) : PushIssued g.configured fuel p (settle g fuel p) := by
  induction fuel generalizing p with
  | zero => exact (agenda_kept p []).issued _ 0
  | succ fuel ih =>
    unfold settle
    split
    · exact (PushKept.refl p).issued _ _
    · rename_i t rest _
      exact Nat.add_comm 1 fuel ▸ ((agenda_kept p rest).before (runTask_issued g t _)).trans (ih _)

end

end Sys2Proof.Machine
end

section
/-! One push at a time (R63, R64): the operations on a whole state. -/

namespace Sys2Proof.Machine

open Sys2Proof.Safety

/-- The ticket list of a state is kept sound without an issue. -/
structure Stays (s t : State) : Prop where
  plant : PushKept s.plant t.plant

section
variable {s t u : State}

theorem Stays.refl (s : State) : Stays s s := ⟨.refl _⟩

theorem Stays.trans (h : Stays s t) (h' : Stays t u) : Stays s u := ⟨h.plant.trans h'.plant⟩

theorem Stays.ite {c : Prop} [Decidable c] (h : c → Stays s t) (h' : ¬c → Stays s u) : Stays s (if c then t else u) := by
  split
  · rename_i hc
    exact h hc
  · rename_i hc
    exact h' hc

theorem Stays.foldl {α : Type} {f : State → α → State} (l : List α) (hf : ∀ a s, Stays s (f s a)) (s : State) :
    Stays s (l.foldl f s) := by
  induction l generalizing s with
  | nil => exact .refl s
  | cons a l ih => exact (hf a s).trans (ih _)

/-- The tickets, their counter and the ovens are as they were. -/
theorem Stays.of_eq (ht : t.plant.tickets = s.plant.tickets) (hc : t.plant.nextTicket = s.plant.nextTicket)
    (ho : t.plant.ovens = s.plant.ovens) : Stays s t := by
  refine ⟨.of_sub (ht ▸ .refl _) hc fun h x hx => ?_⟩
  rw [Plant.oven_congr ho]
  exact h.held x (ht ▸ hx)

theorem State.work_stays {f : Ground → Plant → Plant} (h : PushKept s.plant (f s.ground s.plant)) : Stays s (s.work f) := ⟨h⟩

theorem State.raise_stays (s : State) (b : NoticeBody) : Stays s (s.raise b) := State.work_stays (.of_but (raise_keeps ..))

theorem State.opened_stays (s : State) : Stays s s.opened := .of_eq rfl rfl rfl

theorem State.ground_stays (s : State) (g : Ground) : Stays s { s with ground := g } := .of_eq rfl rfl rfl

theorem State.modPort_stays (s : State) (port : Port) (f : PortState → PortState) : Stays s (s.modPort port f) :=
  .of_eq (Plant.modPort_tickets ..) (Plant.modPort_nextTicket ..) (Plant.modPort_ovens ..)

theorem State.answer_stays (s : State) (port : Port) (tag : Byte) (r : Reply) : Stays s (s.answer port tag r) :=
  s.modPort_stays ..

theorem State.takeRequest_stays {s s₀ : State} {port : Port} {tag : Byte} {r : Request} (h : s.takeRequest port tag r = some s₀) :
    Stays s s₀ := by
  rcases State.takeRequest_eq_some.1 h with ⟨_, rfl⟩ | ⟨rest, _, rfl⟩
  · exact .refl _
  · exact s.modPort_stays ..

/-! ## Doors, mirrors and nodes -/

theorem State.putDoor_stays (s : State) (n : Nat) (side : Side) (d : Door) (always : Bool) : Stays s (s.putDoor n side d always) :=
  ⟨doorChanged_kept ..⟩

theorem State.setMirror_stays (s : State) (m : Machine) (r : Mirror) : Stays s { s with ground := s.ground.setMirror m r } :=
  s.ground_stays _

theorem State.doorExtracted_stays (s : State) (n : Nat) (side : Side) : Stays s (s.doorExtracted n side) := by
  unfold State.doorExtracted
  dsimp only
  split
  · exact .refl s
  · exact .refl s
  · exact .ite (fun _ => s.putDoor_stays ..) fun _ => s.raise_stays _

theorem State.doorReplaced_stays (s : State) (n : Nat) (side : Side) : Stays s (s.doorReplaced n side) := by
  unfold State.doorReplaced
  dsimp only
  split
  · exact s.putDoor_stays ..
  · exact .refl s

theorem State.pressFailed_stays (s : State) (n : Nat) (side : Side) (force : Nat) : Stays s (s.pressFailed n side force) :=
  .ite (fun _ => (s.raise_stays _).trans <| (State.putDoor_stays ..).trans (State.raise_stays ..))
    fun _ => (s.raise_stays _).trans (State.putDoor_stays ..)

theorem State.doorPressed_stays (s : State) (n : Nat) (side : Side) (force : Nat) : Stays s (s.doorPressed n side force) := by
  have judged : Stays s
      (if inBand s.ground.params (min 400 force) then
        s.putDoor n side { state := .pressed, leak := 0, force := min 400 force, count := 0 }
      else s.pressFailed n side (min 400 force)) :=
    .ite (fun _ => s.putDoor_stays ..) fun _ => s.pressFailed_stays ..
  unfold State.doorPressed
  split
  · exact .refl s
  · exact .refl s
  · exact .refl s
  · exact judged

theorem State.hangDoor_stays (s : State) (n : Nat) (side : Side) : Stays s (s.hangDoor n side) :=
  .ite (fun _ => .refl s) fun _ => s.putDoor_stays ..

theorem State.judgeTries_stays (s : State) (n : Nat) (side : Side) : Stays s (s.judgeTries n side) := by
  unfold State.judgeTries
  dsimp only
  exact .ite (fun _ => (s.putDoor_stays ..).trans (State.raise_stays ..)) fun _ =>
    .ite (fun _ => s.ground_stays _) fun _ => .refl s

/-! ## The machine links -/

theorem machineReturned_kept (m : Machine) (g : Ground) (p : Plant) : PushKept p (machineReturned m g p) := by
  cases m with
  | pm => exact (PushKept.of_but (testJob_keeps (Kinds.pushes_job _) g p)).trans (recheckAsk_kept ..)
  | gc => exact .of_but (testJob_keeps (Kinds.pushes_job _) g p)
  | _ => exact .refl p

theorem State.contact_stays (s : State) (m : Machine) : Stays s (s.contact m) := by
  have touched := s.setMirror_stays m (contacted s.ground (s.ground.mirror m))
  refine .ite (fun _ => touched) fun _ => (touched.trans ?_).trans (State.work_stays (machineReturned_kept ..))
  exact .ite (fun _ => State.raise_stays ..) fun _ => .refl _

theorem State.received_stays (s : State) (link : Link) : Stays s (s.received link) := .of_eq rfl rfl rfl

theorem State.record_stays {m : Machine} {f : State → State} (h : ∀ s, Stays s (f s)) (s : State) : Stays s (s.record m f) :=
  .ite (fun _ => s.received_stays _) fun _ => (s.received_stays _).trans <| (State.contact_stays ..).trans (h _)

theorem State.doneRecord_stays {m : Machine} {op : Op} {f : State → State} (h : ∀ s, Stays s (f s)) (s : State) :
    Stays s (s.doneRecord m op f) :=
  State.record_stays (fun s => .ite (fun _ => h s) fun _ => .refl s) s

theorem faultCar_kept (g : Ground) (c : Car) (reason : CarFault) (p : Plant) : PushKept p (faultCar g c reason p) :=
  .of_but (faultCar_keeps (Kinds.pushes_car c) g reason p)

theorem machineLost_kept (m : Machine) (g : Ground) (p : Plant) : PushKept p (machineLost m g p) := by
  have recheck : ∀ q : Plant, PushKept q (machineLost.recheckLost m g q) := fun q => by
    unfold machineLost.recheckLost
    split
    · exact recheckAsk_kept ..
    · exact .refl q
  unfold machineLost
  split
  · split
    · exact faultCar_kept ..
    · exact .refl p
  · split
    · exact dropAsk_kept ..
    · exact (ticketMachineLost_kept ..).trans (recheck _)
    · exact (PushKept.of_but (abandonJob_keeps (Kinds.pushes_job _) g _ p)).trans (recheck _)
    · exact chargePmLost_kept ..
    · exact recheck p

theorem State.silenceReached_stays (s : State) (m : Machine) : Stays s (s.silenceReached m) := by
  unfold State.silenceReached
  split
  · exact .refl s
  · exact .ite (fun _ => .refl s) fun _ => (s.setMirror_stays m _).trans <| (State.raise_stays ..).trans
      (State.work_stays (machineLost_kept ..))

theorem reportHanded_kept (m : Machine) (changed : Bool) (g : Ground) (p : Plant) : PushKept p (reportHanded m changed g p) := by
  unfold reportHanded
  split
  · split
    · exact dropAsk_kept ..
    · exact .refl p
  · exact ticketMachineReport_kept ..
  · exact .of_but (jobReport_keeps (Kinds.pushes_job _) g p)
  · exact chargePmReport_kept ..
  · exact .refl p

theorem State.posRecord_stays (m : Machine) (position : Nat) (moving loaded : Bool) (s : State) :
    Stays s (s.posRecord m position moving loaded) := by
  have heard : ∀ (s : State) (c : Prop) [Decidable c] (b : NoticeBody), Stays s (if c then s.raise b else s) := fun s c _ b =>
    .ite (fun _ => s.raise_stays b) fun _ => .refl s
  unfold State.posRecord
  dsimp only
  split
  · rename_i c _
    exact (s.setMirror_stays m _).trans <| (heard _ _ _).trans <| .ite
      (fun _ => State.work_stays (.of_but (carReport_keeps (Kinds.pushes_car c) ..))) fun _ => .refl _
  · exact (s.setMirror_stays m _).trans <| (heard _ _ _).trans (State.work_stays (reportHanded_kept ..))

theorem faultHanded_kept (m : Machine) (code : Nat) (g : Ground) (p : Plant) : PushKept p (faultHanded m code g p) := by
  unfold faultHanded
  split
  · split
    · exact faultCar_kept ..
    · exact .refl p
  · split
    · exact ticketMachineLost_kept ..
    · exact .of_but (abandonJob_keeps (Kinds.pushes_job _) g _ p)
    · exact chargePmFault_kept ..
    · exact .refl p

theorem State.faultRecord_stays (m : Machine) (code : Nat) (s : State) : Stays s (s.faultRecord m code) :=
  (s.setMirror_stays m _).trans <| (State.raise_stays ..).trans (State.work_stays (faultHanded_kept ..))

theorem extractEffect_stays (m : Machine) (n : Nat) (s : State) : Stays s (extractEffect m n s) :=
  (s.doorExtracted_stays ..).trans (State.work_stays (machineDone_kept ..))

theorem replaceEffect_stays (m : Machine) (n : Nat) (s : State) : Stays s (replaceEffect m n s) :=
  (s.doorReplaced_stays ..).trans (State.work_stays (machineDone_kept ..))

theorem pressEffect_stays (m : Machine) (n force : Nat) (s : State) : Stays s (pressEffect m n force s) :=
  (s.doorPressed_stays ..).trans <| State.work_stays <| (PushKept.of_but (pressAnswered_keeps ..)).trans <|
    (machineDone_kept ..).trans (.of_but (endJob_keeps (Kinds.pushes_job _) ..))

theorem receiveEffect_stays (m : Machine) (n : Nat) (s : State) : Stays s (receiveEffect m n s) := by
  unfold receiveEffect
  split
  · exact State.work_stays (receiveDone_kept ..)
  · exact .refl s

theorem dumpEffect_stays (m : Machine) (s : State) : Stays s (dumpEffect m s) := by
  unfold dumpEffect
  split
  · exact State.work_stays (.of_but (dumpDone_keeps (Kinds.pushes_car _) ..))
  · exact .refl s

/-! ## The offtake line -/

theorem recheckAskOf_kept (g : Ground) (n : Nat) (p : Plant) : PushKept p (recheckAskOf g n p) := by
  unfold recheckAskOf
  split
  · exact .ite (fun _ => recheckAsk_kept ..) fun _ => .refl p
  · exact .refl p

theorem nodeReturned_kept (g : Ground) (address : Nat) (p : Plant) : PushKept p (nodeReturned g address p) :=
  .ite (fun _ => recheckAsk_kept ..) fun _ => .ite (fun _ => .of_but (lookForGrant_keeps (c := .a) (Kinds.pushes_car _) g p)) fun _ =>
    (PushKept.of_but (start_keeps ..)).trans (recheckAskOf_kept ..)

theorem abortIsolating_kept (g : Ground) (n : Nat) (p : Plant) : PushKept p (abortIsolating g n p) := by
  unfold abortIsolating
  split
  · exact .refl p
  · exact .ite (fun _ => abortTicket_kept ..) fun _ => .refl p

theorem nodeLost_kept (g : Ground) (address : Nat) (p : Plant) : PushKept p (nodeLost g address p) := by
  have unconfirmed : ∀ b : Bool, PushKept p
      (if b then p.modValve address fun v => { v with confirmed := false } else p) := fun b =>
    .ite (fun _ => .of_but (modValve_keeps (Kinds.pushes_oven _) _ p)) fun _ => .refl p
  have handed : ∀ (b : Bool) (q : Plant), PushKept q
      (if address = 0 then recheckAsk g q else if b then recheckAskOf g address (abortIsolating g address q) else q) :=
    fun b q => .ite (fun _ => recheckAsk_kept g q) fun _ =>
      .ite (fun _ => (abortIsolating_kept ..).trans (recheckAskOf_kept ..)) fun _ => .refl q
  exact (unconfirmed _).trans <| (PushKept.of_but (raise_keeps ..)).trans <| handed _ _

theorem judgeIsolation_kept (g : Ground) (n : Nat) (carried : Carried) (actual : Nat) (p : Plant) :
    PushKept p (judgeIsolation g n carried actual p) := by
  have valve : ∀ b : Bool, PushKept p (p.modValve n fun v => { v with confirmed := b }) := fun b =>
    .of_but (modValve_keeps (Kinds.pushes_oven n) _ p)
  unfold judgeIsolation
  dsimp only
  refine .ite (fun _ => .refl p) fun _ => .ite (fun _ => ?_) fun _ => ?_
  · exact .ite (fun _ => (valve false).trans (.of_but (raise_keeps ..))) fun _ => valve false
  · split
    · exact .ite (fun _ => .refl p) fun _ => (valve true).trans (isolationConfirmed_kept n _)
    · exact .refl p

theorem actOnReply_kept (g : Ground) (address : Nat) (carried : Carried) (reply : NodeReply) (p : Plant) :
    PushKept p (actOnReply g address carried reply p) := by
  unfold actOnReply
  split
  · exact .of_but (sprayReported_keeps (Kinds.pushes_car _) ..)
  · exact .ite (fun _ => .of_but (mainStep_keeps (by decide) ..)) fun _ =>
      (PushKept.of_but (modValve_keeps (Kinds.pushes_oven _) _ p)).trans <|
      (judgeIsolation_kept ..).trans (.of_but (ovenStep_keeps (Kinds.pushes_oven _) ..))

theorem replyTaken_kept (old : NodeLine) (x : Poll) (reply : NodeReply) (g : Ground) (p : Plant) :
    PushKept p (replyTaken old x reply g p) := by
  have raised : ∀ (c : Prop) [Decidable c] (b : NoticeBody) (q : Plant), PushKept q (if c then raise g b q else q) := fun c _ b q =>
    .ite (fun _ => .of_but (raise_keeps ..)) fun _ => .refl q
  have returned : PushKept p
      (if old.online then p
      else nodeReturned g x.address
        (if old.miss = 3 then raise g (.nodeBack x.address (g.node x.address).values) p else p)) :=
    .ite (fun _ => .refl p) fun _ => (raised _ _ p).trans (nodeReturned_kept ..)
  have acted : ∀ q : Plant, PushKept q (if replyFaulted reply then q else actOnReply g x.address x.carried reply q) := fun q =>
    .ite (fun _ => .refl q) fun _ => actOnReply_kept ..
  exact returned.trans <| (raised _ _ _).trans (acted _)

theorem State.nextExchange_stays (s : State) (x : Poll) : Stays s (s.nextExchange x) := .of_eq rfl rfl rfl

theorem State.otlReplied_stays (s : State) (address : Nat) (reply : NodeReply) : Stays s (s.otlReplied address reply) := by
  unfold State.otlReplied
  dsimp only
  refine (s.received_stays .offtake).trans ?_
  generalize s.received .offtake = s
  split
  · exact .refl s
  · refine .ite (fun _ => ?_) fun _ => .refl s
    exact (s.ground_stays _).trans <| (State.work_stays (replyTaken_kept ..)).trans (State.nextExchange_stays ..)

theorem State.replyMissed_stays (s : State) : Stays s s.replyMissed := by
  unfold State.replyMissed
  split
  · exact .refl s
  · dsimp only
    exact (s.ground_stays _).trans <| Stays.trans
      (.ite (fun _ => State.work_stays (nodeLost_kept ..)) fun _ => .refl _) (State.nextExchange_stays ..)

end

end Sys2Proof.Machine
end

section
/-! One push at a time (R63, R64): settings, requests and the run state. -/

namespace Sys2Proof.Machine

open Sys2Proof.Safety

section
variable {s t : State} {p q : Plant}

/-! ## The run state -/

theorem State.setRunState_stays (s : State) (new : RunState) (cause : RunCause) : Stays s (s.setRunState new cause) :=
  .ite (fun _ => (s.ground_stays _).trans <| (State.raise_stays ..).trans (State.raise_stays ..))
    fun _ => (s.ground_stays _).trans (State.raise_stays ..)

theorem suspendWork_kept (g : Ground) (p : Plant) : PushKept p (suspendWork g p) :=
  (suspendTickets_kept p).trans <| (PushKept.of_but (suspendJob_keeps (Kinds.pushes_job _) _)).trans <|
    (PushKept.of_but (suspendJob_keeps (Kinds.pushes_job _) _)).trans <|
    (PushKept.of_but (suspendCharge_keeps Kinds.pushes_ask g _)).trans (recheckAsk_kept g _)

theorem State.halt_stays (s : State) (new : RunState) (cause : RunCause) : Stays s (s.halt new cause) :=
  (s.setRunState_stays new cause).trans <|
    State.work_stays ((PushKept.of_but (sendStops_keeps ..)).trans (suspendWork_kept ..))

theorem resumeWork_kept (g : Ground) (p : Plant) : PushKept p (resumeWork g p) :=
  (resumeTickets_kept g p).trans <| (resumeCharge_kept g _).trans <|
    (PushKept.of_but (resumeJob_keeps (Kinds.pushes_job _) g _)).trans <|
    (PushKept.of_but (resumeJob_keeps (Kinds.pushes_job _) g _)).trans <|
    (PushKept.of_keeps (track_keeps g _) (by decide)).trans (.of_but (startAll_keeps ..))

theorem State.goOn_stays (s : State) : Stays s s.goOn := (s.setRunState_stays ..).trans (State.work_stays (resumeWork_kept ..))

theorem State.stopSchedule_stays (s : State) : Stays s s.stopSchedule :=
  (s.ground_stays _).trans (State.work_stays (.of_but (announceWindow_keeps ..)))

theorem restartTickets_kept (g : Ground) (p : Plant) : PushKept p (restartTickets g p) :=
  .foldl _ (fun num q => retireEarly_kept g num _ _ q) p

theorem restartWork_kept (g : Ground) (p : Plant) : PushKept p (restartWork g p) :=
  (restartTickets_kept g p).trans <| (PushKept.of_but (restartJob_keeps (Kinds.pushes_job _) g _)).trans <|
    (PushKept.of_but (restartJob_keeps (Kinds.pushes_job _) g _)).trans <|
    (PushKept.of_but (restartAsk_keeps Kinds.pushes_ask g _)).trans <|
    (PushKept.of_but (restartCar_keeps (Kinds.pushes_car _) _)).trans (.of_but (restartCar_keeps (Kinds.pushes_car _) _))

theorem State.restartMachines_stays (s : State) : Stays s s.restartMachines :=
  Stays.trans (.ite (fun _ => s.setRunState_stays ..) fun _ => .refl s) (State.work_stays (.of_but (sendStops_keeps ..)))

theorem restart_stays (s : State) : Stays s (restart s).1 :=
  ((s.modPort_stays .sup _).trans (State.modPort_stays _ .pnl _)).trans <| (State.restartMachines_stays _).trans <|
    (State.stopSchedule_stays _).trans <| (State.work_stays (restartWork_kept ..)).trans (State.raise_stays ..)

/-! ## Settings -/

theorem eachOven_kept {g : Ground} {f : Nat → Plant → Plant} (hf : ∀ n p, Keeps (.but Kind.ofPushes) p (f n p)) (p : Plant) :
    PushKept p (eachOven g f p) :=
  .of_but (eachOven_keeps hf p)

theorem accrueAll_kept (g : Ground) (p : Plant) : PushKept p (accrueAll g p) :=
  (eachOven_kept (fun n q => accrue_keeps (Kinds.pushes_oven n) g q) p).trans
    (eachOven_kept (fun n q => recomputeOven_keeps (Kinds.pushes_oven n) g q) _)

theorem State.restale_stays (old : Ground) (s : State) : Stays s (State.restale old s) := by
  unfold State.restale
  dsimp only
  exact (s.ground_stays _).trans <| State.work_stays <| (eachOven_kept (fun n q => accrue_keeps (Kinds.pushes_oven n) _ q) _).trans <|
    (PushKept.of_but (Keeps.foldl _ (fun v _ q => staleChanged_keeps (v := v) (Kinds.but_has (by simp)) old _ q) _)).trans
      (eachOven_kept (fun n q => recomputeOven_keeps (Kinds.pushes_oven n) _ q) _)

theorem State.reorder_stays (s : State) : Stays s s.reorder := .ite (fun _ => .of_eq rfl rfl rfl) fun _ => .refl s

theorem repace_kept (old g : Ground) (p : Plant) : PushKept p (repace old g p) :=
  (PushKept.of_but (setPacing_keeps (by decide) g p)).trans (.of_but (announceWindow_keeps ..))

/-- The lift of a change of V_MIN is the valves' alone. -/
theorem liftVMin_phase (g : Ground) (p : Plant) (n : Nat) : ((liftVMin g p).oven n).phase = (p.oven n).phase := by
  cases n with
  | zero => rfl
  | succ n =>
    simp only [Plant.oven, numbered, liftVMin, List.getElem?_map]
    cases p.ovens[n]? with
    | none => rfl
    | some o =>
      dsimp only [Option.map, Option.getD]
      split <;> rfl

theorem liftVMin_kept (g : Ground) (p : Plant) : PushKept p (liftVMin g p) :=
  .of_sub (.refl _) rfl fun h t ht => by
    rw [liftVMin_phase]
    exact h.held t ht

theorem State.handOn_stays (old : Ground) (id : ParamId) (s : State) : Stays s (State.handOn old id s) := by
  unfold State.handOn
  split
  · exact State.work_stays ((PushKept.of_but (recheckTarget_keeps (Kinds.pushes_car _) _ _)).trans
      (.of_but (recheckTarget_keeps (Kinds.pushes_car _) _ _)))
  · exact s.reorder_stays
  · exact State.work_stays (repace_kept ..)
  · exact State.work_stays (repace_kept ..)
  · exact State.work_stays (.of_but (announceWindow_keeps ..))
  · exact State.work_stays (accrueAll_kept ..)
  · exact s.restale_stays old
  · exact State.work_stays (eachOven_kept (fun n q => (resetReadiness_keeps (Kinds.pushes_oven n) _ q).when) _)
  · exact State.work_stays (eachOven_kept (fun n q => (setOverdue_keeps (Kinds.pushes_oven n) _ q).when) _)
  · exact State.work_stays (liftVMin_kept ..)
  · exact .of_eq rfl rfl rfl
  · exact State.work_stays (eachOven_kept (fun n q => (setDwell_keeps (Kinds.pushes_oven n) _ q).when) _)
  · exact .foldl (allDoors s.ground) (fun x s => s.judgeTries_stays x.1 x.2) s
  · exact State.work_stays (.of_but (Keeps.foldl _
      (fun x _ q => (rejudge_keeps (n := x.1) (side := x.2) (by cases x.2 <;> decide) _ q).when) _))
  · exact .foldl _ (fun m s => (s.setMirror_stays m _).trans (State.silenceReached_stays ..)) s
  · exact s.modPort_stays ..
  · exact s.modPort_stays ..
  all_goals exact .refl s

theorem State.takeParam_stays (s : State) (id : ParamId) (v : ParamValue) : Stays s (s.takeParam id v) :=
  (s.ground_stays _).trans (State.handOn_stays ..)

/-- The configuration empties no list of tickets: there is none while unconfigured. -/
theorem State.configure_stays (s : State) (n split : Nat) (h : s.plant.tickets = []) : Stays s (s.configure n split) :=
  ⟨.of_nil h rfl⟩

theorem State.loadParam_stays (im : Params) (id : ParamId) (s : State) : Stays s (State.loadParam im s id) := by
  unfold State.loadParam
  split
  · exact s.takeParam_stays ..
  · exact .refl s

theorem loadStore_stays (s : State) : Stays s (loadStore s).1 := by
  unfold loadStore
  split
  · exact .refl s
  · exact .foldl _ (fun id s => State.loadParam_stays _ id s) s

/-! ## Requests of the ovens -/

theorem queryOven_stays (n : Nat) (s : State) : Stays s (queryOven n s).1 := by
  unfold queryOven
  split <;> dsimp only
  · exact State.work_stays (.of_but (accrualEvent_keeps (Kinds.pushes_oven _) ..))
  · exact .refl s

theorem restoreEmpty_kept (g : Ground) (n : Nat) (f : RestoreFields) (p : Plant) : PushKept p (restoreEmpty g n f p) :=
  (changePhase_kept g n .empty (cause := .ovenRestore) rfl p).trans <|
    (PushKept.of_but (modOven_keeps (Kinds.pushes_oven n) (by exact fun _ => rfl) _)).trans <|
    (PushKept.of_but (commandIsolate_keeps (Kinds.pushes_oven n) _)).trans (.of_but (setDwell_keeps (Kinds.pushes_oven n) g _))

theorem testRestored_kept (g : Ground) (n : Nat) (p : Plant) : PushKept p (testRestored g n p) :=
  .ite (fun _ => (becomeReady_kept g n (cause := .readinessMet) rfl p).trans (.of_but (recomputeOven_keeps (Kinds.pushes_oven n) g _)))
    fun _ => .refl p

theorem restoreCoking_kept (g : Ground) (n : Nat) (f : RestoreFields) (p : Plant) : PushKept p (restoreCoking g n f p) :=
  (changePhase_kept g n .coking (cause := .ovenRestore) rfl p).trans <|
    (PushKept.of_but (modOven_keeps (Kinds.pushes_oven n) (by exact fun _ => rfl) _)).trans <|
    (PushKept.of_but (setTarget_keeps (Kinds.pushes_oven n) g _ _)).trans <|
    (PushKept.of_but (beginAccrual_keeps (Kinds.pushes_oven n) g _)).trans <| (testRestored_kept g n _).trans <|
    (PushKept.of_but (setOverdue_keeps (Kinds.pushes_oven n) g _)).trans (.of_but (commandRegulate_keeps (Kinds.pushes_oven n) g _))

theorem restoreOven_stays (n : Nat) (f : RestoreFields) (s : State) : Stays s (restoreOven n f s).1 := by
  have restored : Stays s
      (s.work fun g p => if f.phase = some .empty then restoreEmpty g n f p else restoreCoking g n f p) :=
    State.work_stays (.ite (fun _ => restoreEmpty_kept ..) fun _ => restoreCoking_kept ..)
  exact restored.trans <| (State.putDoor_stays ..).trans (State.putDoor_stays ..)

theorem removeCatchup_kept (n : Nat) (p : Plant) : PushKept p (removeCatchup n p) :=
  .of_but (removeCatchup_keeps (Kinds.but_has (by decide)) n p)

theorem setService_stays (n : Nat) (v : Service) (s : State) : Stays s (setService n v s).1 := by
  unfold setService
  split <;> dsimp only
  · exact .refl s
  · exact State.work_stays <| (PushKept.of_but (modOven_keeps (Kinds.pushes_oven n) (by exact fun _ => rfl) _)).trans <|
      (PushKept.ite (fun _ => removeCatchup_kept ..) fun _ => .refl _).trans (recheckAskOf_kept ..)

theorem setRange_stays (range : Option (Nat × Nat)) (s : State) : Stays s (setRange range s).1 :=
  (s.ground_stays _).trans <| State.work_stays <|
    (PushKept.foldl _ (fun n q => .ite (fun _ => removeCatchup_kept n q) fun _ => .refl q) _).trans (recheckAsk_kept ..)

theorem reportWalls_stays (first : Nat) (readings : List Int) (s : State) : Stays s (reportWalls first readings s).1 := by
  unfold reportWalls
  dsimp only
  exact (State.work_stays (.of_but (Keeps.foldl _ (fun n _ q => accrue_keeps (Kinds.pushes_oven n) _ q) _))).trans <|
    (State.ground_stays ..).trans <|
    State.work_stays (.of_but (Keeps.foldl _ (fun n _ q => reportedOven_keeps (Kinds.pushes_oven n) _ q) _))

theorem wallStaled_stays (s : State) (v : Nat) : Stays s (s.wallStaled v) := by
  unfold State.wallStaled
  dsimp only
  split
  · exact .refl s
  · refine .ite (fun _ => .refl s) fun _ => ?_
    exact (State.work_stays (f := fun g p => accrue g v (accrue g (v - 1) p))
        ((PushKept.of_but (accrue_keeps (Kinds.pushes_oven _) _ _)).trans
          (.of_but (accrue_keeps (Kinds.pushes_oven _) _ _)))).trans <|
      (State.ground_stays ..).trans <| (State.raise_stays ..).trans <| State.work_stays <|
      (PushKept.of_but (recomputeOven_keeps (Kinds.pushes_oven _) _ _)).trans
        (.of_but (recomputeOven_keeps (Kinds.pushes_oven _) _ _))

/-! ## Requests of the push -/

/-- A ticket that leaves the list, with its oven alone changed. -/
theorem PushKept.of_dropped {t : Ticket} (ht : p.ticket? t.number = some t)
    (h : Keeps (.of (Kind.ofPhase t.oven)) (dropTicket t.number p) q) : PushKept p q := by
  refine .of_retirement ht (h.tickets (by simp [Kinds.of])) ?_
  exact (dropTicket_keeps (by simp [Kinds.of]) t.number p).trans (h.of_subset (by simp))

theorem releaseEnd_kept (t : Ticket) (full : Bool) (record : LogRecord) (g : Ground) (p : Plant) :
    PushKept p (releaseEnd t full record g p) :=
  (PushKept.of_but (commandRegulate_keeps (Kinds.pushes_oven _) g p).when).trans <|
    (PushKept.of_but (releaseClaims_keeps Kinds.pushes_claims g true _)).trans <|
    (PushKept.of_but (writeLog_keeps (by decide) _ _)).trans <|
    (PushKept.of_but (raise_keeps ..)).trans (.of_but (startAll_keeps ..))

theorem releaseTicket_stays (num : Nat) (outcome : ReleaseOutcome) (s : State) : Stays s (releaseTicket num outcome s).1 := by
  unfold releaseTicket
  split
  · exact .refl s
  · rename_i t ht
    obtain ⟨-, rfl⟩ := Plant.ticket?_eq_some ht
    have retired : ∀ b : Bool, Stays s (s.work fun g p =>
        if b then returnOven g t.oven .clearedFull (dropTicket t.number p)
        else changePhase g t.oven .empty .clearedEmpty (dropTicket t.number p)) := fun b =>
      State.work_stays <| .ite
        (fun _ => .of_dropped ht (returnOven_keeps (Kinds.of_has (List.Subset.refl _)) ..))
        (fun _ => .of_dropped ht (changePhase_keeps (Kinds.of_has (List.Subset.refl _)) ..))
    dsimp only
    exact (retired _).trans <| (State.hangDoor_stays ..).trans <| (State.hangDoor_stays ..).trans
      (State.work_stays (releaseEnd_kept ..))

end

end Sys2Proof.Machine
end

section
/-! One push at a time (R63, R64): every command, and the statement. -/

namespace Sys2Proof.Machine

open Sys2Proof.Safety

/-! ## What a command may issue -/

/-- More issues than a command makes: one of its own, and one for each of its follow-up events. -/
def issueLimit : Nat := 5000

theorem Pushes.of_nil {p : Plant} (h : p.tickets = []) : Pushes p := by
  constructor <;> simp [h]

theorem PushIssued.mono {c : Bool} {m m' : Nat} {p q : Plant} (h : PushIssued c m p q) (hm : m ≤ m') : PushIssued c m' p q :=
  ⟨fun x hx => h.pushes x (by omega), h.nil, fun x hx => (h.counter x (by omega)).trans (by omega)⟩

/-- The ticket list of a state is kept sound with at most so many issues. -/
structure Issues (m : Nat) (s t : State) : Prop where
  plant : PushIssued t.ground.configured m s.plant t.plant

section
variable {s t u : State}

theorem Stays.issues (h : Stays s t) (m : Nat) : Issues m s t := ⟨h.plant.issued _ m⟩

theorem Stays.before {m : Nat} (h : Stays s t) (h' : Issues m t u) : Issues m s u := ⟨h.plant.before h'.plant⟩

theorem State.settled_issues (s : State) : Issues settleLimit s s.settled := ⟨settle_issued ..⟩

/-- The follow-up events after at most one issue. -/
theorem Issues.settled (h : Issues 1 s t) : Issues issueLimit s t.settled :=
  ⟨(h.plant.trans (State.settled_issues t).plant).mono (by decide)⟩

theorem Stays.settled (h : Stays s t) : Issues issueLimit s t.settled := (h.issues 1).settled

theorem Issues.stays {m : Nat} (h : Issues m s t) (h' : Stays t u) (hg : u.ground = t.ground) : Issues m s u :=
  ⟨by rw [hg]; exact h.plant.kept h'.plant⟩

theorem event_issues {f : State → State} (h : ∀ s, Stays s (f s)) (s : State) : Issues issueLimit s (s.event f) :=
  (s.opened_stays.trans (h s.opened)).settled

/-! ## Requests -/

theorem serve_issues {port : Port} {tag : Byte} {r : Request} {checks : State → List Check} {act : State → State × OkData}
    (h : ∀ s₀, takes s port tag r s₀ → firstRefusal (checks s₀) = none → Issues 1 s₀ (act s₀).1) :
    Issues issueLimit s (s.serve port tag r checks act) := by
  have taken : ∀ {s₀}, s.opened.takeRequest port tag r = some s₀ → Stays s s₀ := fun ht =>
    s.opened_stays.trans (State.takeRequest_stays ht)
  obtain e | ⟨s₀, ht, ⟨reply, _, e⟩ | ⟨hc, e⟩⟩ := s.serve_cases port tag r checks act
  · rw [e]
    exact s.opened_stays.issues _
  · rw [e]
    exact ((taken ht).trans (State.answer_stays ..)).issues _
  · rw [e]
    exact ((taken ht).before (h s₀ ht hc).settled).stays (State.answer_stays ..) (State.answer_ground ..)

/-- A request that issues nothing. -/
theorem serve_stays {port : Port} {tag : Byte} {r : Request} {checks : State → List Check} {act : State → State × OkData}
    (h : ∀ s₀, Stays s₀ (act s₀).1) : Issues issueLimit s (s.serve port tag r checks act) :=
  serve_issues fun s₀ _ _ => (h s₀).issues 1

theorem pushNow_issues {port : Port} {n : Nat} {force : Bool} (h : firstRefusal (pushChecks port n force s) = none) :
    Issues 1 s (pushNow port n force s).1 := by
  have configured : s.ground.configured = true := by
    have := firstRefusal_eq_none.1 h (unlessConfigured s) (by simp [pushChecks, ovenChecks])
    simpa [unlessConfigured] using this
  cases hc : pushCar s.ground s.plant port n force with
  | none =>
    rw [pushNow, hc]
    exact (Stays.refl s).issues 1
  | some c =>
    have issue : PushIssued true 1 s.plant (issueTicket s.ground (pushKind s.plant n force) n c s.plant) :=
      issueTicket_pushIssued (length_tickets_of_pushChecks h) ((phase_of_eligible hc).trans (pushPhase_eq s.plant n force))
    rw [pushNow_of_car hc]
    refine ⟨?_⟩
    rw [show (s.work _).ground.configured = true from configured]
    dsimp only [State.work]
    split
    · exact issue.kept (.of_but (start_keeps ..))
    · exact issue

/-- A setting configures only what holds no ticket. -/
theorem applySetting_stays (id : ParamId) (v : ParamValue) (h : id = .ovenCount → s.plant.tickets = []) :
    Stays s (applySetting id v s).1 := by
  unfold applySetting
  split
  · exact State.configure_stays _ _ _ (h rfl)
  · exact s.takeParam_stays ..

/-! ## Start-up and the store -/

theorem State.openLinks_stays (s : State) : Stays s s.openLinks := by
  have masked := (s.modPort_stays .sup fun x => { x with mask := s.ground.params.supMask }).trans
    (State.modPort_stays _ .pnl fun x => { x with mask := s.ground.params.pnlMask })
  exact masked.trans <| (State.ground_stays _ _).trans <| .ite (fun _ => State.halt_stays ..) fun _ => .refl _

theorem State.leaveStarting_stays (s : State) (store : StoreState) (im : Option Image) (failure : Option StoreFailure)
    (h : s.plant.tickets = []) : Stays s (s.leaveStarting store im failure) := by
  have failed : ∀ u : State, Stays u
      (match failure with
      | some f => u.raise (.storeFail f)
      | none => u) := fun u => by
    cases failure with
    | none => exact .refl u
    | some f => exact u.raise_stays _
  have configured : ∀ (n split : Option Nat) (u : State), u.plant.tickets = [] → Stays u
      (match n, split with
      | some n, some split => u.configure n split
      | _, _ => u) := fun n split u hu => by
    split
    · exact u.configure_stays _ _ hu
    · exact .refl u
  have read := (s.ground_stays (s.ground.storeRead store im)).trans <| (State.openLinks_stays _).trans (failed _)
  exact read.trans (configured _ _ _ (read.plant.nil h))

theorem State.storeFails_stays (s : State) (failure : StoreFailure) : Stays s (s.storeFails failure) :=
  (s.ground_stays _).trans (State.raise_stays ..)

theorem nil_of_unconfigured (hs : PushSound s) (h : s.ground.configured = false) : s.plant.tickets = [] := by
  by_contra hn
  rw [hs.configured hn] at h
  cases h

/-! ## Every command -/

/-- Every command but the two that hand bytes to a receiver answers a next state, with the list kept sound and few issues. -/
theorem exec_issues {c : Instr} (hs : PushSound s) (hdiscard : ∀ link cause, c ≠ .discardedFrame link cause)
    (hgap : ∀ link bytes, c ≠ .frameGapTimeout link bytes) : ∃ t, exec c s = .next t ∧ Issues issueLimit s t := by
  have reads : ∀ {store im failure}, reading s.opened.ground = true → Stays s.opened (s.opened.leaveStarting store im failure) :=
    fun hr => State.leaveStarting_stays _ _ _ _
      (show s.plant.tickets = [] from nil_of_unconfigured hs (hs.starting (Bool.and_eq_true_iff.1 hr).1))
  have worked : ∀ {f : Ground → Plant → Plant}, (∀ g p, PushKept p (f g p)) → ∀ s : State, Stays s (s.work f) := fun hf s =>
    State.work_stays (hf ..)
  cases c with
  | coldStart byResetLine =>
    have counted : (s.coldStarted byResetLine).plant.nextTicket ≤ s.plant.nextTicket + issueLimit :=
      Nat.le_trans (m := issueLimit) (show 1 ≤ 5000 by decide) (Nat.le_add_left ..)
    exact ⟨_, rfl, ⟨⟨fun _ _ => .of_nil rfl, fun _ => .inl rfl, fun _ _ => counted⟩⟩⟩
  | resetLineRelease => exact ⟨_, rfl, (s.opened_stays.trans (State.ground_stays ..)).issues _⟩
  | storeReadEnd found => exact ⟨_, rfl, (s.opened_stays.trans (.ite (fun hr => reads hr) fun _ => .refl _)).settled⟩
  | storeReadTimeout => exact ⟨_, rfl, (s.opened_stays.trans (.ite (fun hr => reads hr) fun _ => .refl _)).settled⟩
  | batteryClockTick =>
    exact ⟨_, rfl, (Stays.ite (fun _ => s.opened_stays) fun _ => s.opened_stays.trans (State.ground_stays ..)).issues _⟩
  | estopAsserted =>
    exact ⟨_, rfl, event_issues (fun s => .ite (fun _ => s.ground_stays _)
      fun _ => (s.ground_stays _).trans (State.halt_stays ..)) s⟩
  | estopReleased =>
    exact ⟨_, rfl, event_issues (fun s => .ite (fun _ => s.ground_stays _)
      fun _ => (s.ground_stays _).trans (State.raise_stays ..)) s⟩
  | keyLineChange asserted => exact ⟨_, rfl, event_issues (fun s => s.ground_stays _) s⟩
  | requestFrameArrival port tag body =>
    exact ⟨_, rfl, (s.opened_stays.trans ((State.received_stays ..).trans (State.modPort_stays ..))).issues _⟩
  | frameGapTimeout link bytes => exact absurd rfl (hgap link bytes)
  | portFrameSent port => exact ⟨_, rfl, (s.opened_stays.trans (State.modPort_stays ..)).issues _⟩
  | status port tag sec => exact ⟨_, rfl, serve_stays fun s => s.modPort_stays ..⟩
  | ovenQuery port tag n => exact ⟨_, rfl, serve_stays fun s => queryOven_stays n s⟩
  | ovenRestore port tag n fields => exact ⟨_, rfl, serve_stays fun s => restoreOven_stays n fields s⟩
  | ovenService port tag n state => exact ⟨_, rfl, serve_stays fun s => setService_stays n _ s⟩
  | ovenHold port tag n value =>
    exact ⟨_, rfl, serve_stays fun s => by
      dsimp only
      exact State.work_stays (.of_but (modOven_keeps (Kinds.pushes_oven n) (by exact fun _ => rfl) _))⟩
  | maintRange port tag range => exact ⟨_, rfl, serve_stays fun s => setRange_stays range s⟩
  | ovenTrim port tag n trim =>
    exact ⟨_, rfl, serve_stays fun s => by
      dsimp only
      exact State.work_stays (.of_but (modOven_keeps (Kinds.pushes_oven n) (by exact fun _ => rfl) _))⟩
  | wallReport port tag first count readings =>
    refine ⟨_, rfl, ?_⟩
    split
    · exact serve_stays fun s => reportWalls_stays first readings s
    · exact (s.opened_stays.trans ((State.received_stays ..).trans (State.modPort_stays ..))).issues _
  | schedStart port tag =>
    exact ⟨_, rfl, serve_stays fun s => by
      dsimp only
      exact (s.ground_stays _).trans (State.work_stays (.of_but (start_keeps ..)))⟩
  | schedStop port tag => exact ⟨_, rfl, serve_stays fun s => s.stopSchedule_stays⟩
  | cursorSet port tag index => exact ⟨_, rfl, serve_stays fun s => .of_eq rfl rfl rfl⟩
  | catchupClear port tag =>
    exact ⟨_, rfl, serve_stays fun s => by
      dsimp only
      exact State.work_stays (.of_but (clearCatchup_keeps (Kinds.but_has (by decide)) _))⟩
  | pushNow port tag n force => exact ⟨_, rfl, serve_issues fun s₀ _ hc => pushNow_issues hc⟩
  | ticketCancel port tag num =>
    exact ⟨_, rfl, serve_stays fun s => (State.work_stays (retireEarly_kept ..) : Stays s (s.work fun g p => retireEarly g num _ _ p))⟩
  | release port tag num outcome => exact ⟨_, rfl, serve_stays fun s => releaseTicket_stays num _ s⟩
  | logRead port tag index => exact ⟨_, rfl, serve_stays fun s => .refl s⟩
  | leakReport port tag n side level =>
    exact ⟨_, rfl, serve_stays fun s => .ite (fun _ => .refl s) fun _ => s.putDoor_stays ..⟩
  | doorReset port tag n side => exact ⟨_, rfl, serve_stays fun s => s.putDoor_stays ..⟩
  | valve port tag n form =>
    exact ⟨_, rfl, serve_stays fun s => by
      dsimp only
      exact State.work_stays (.of_but (setValve_keeps (Kinds.pushes_oven n) ..))⟩
  | carService port tag car state =>
    refine ⟨_, rfl, ?_⟩
    refine serve_issues fun s₀ _ hc => ?_
    have hc : firstRefusal (carServiceChecks (car.getD .a) (state.getD .inService) s₀) = none :=
      firstRefusal_eq_none.2 fun x hx => firstRefusal_eq_none.1 hc x (List.mem_append_right _ hx)
    dsimp only
    refine (State.work_stays ?_).issues 1
    split
    · rename_i hin
      rw [hin] at hc
      exact .of_but (carIn_keeps (Kinds.pushes_car _) (ordered_of_carServiceChecks hc))
    · exact .of_but (carOut_keeps (Kinds.pushes_car _) _)
  | pause port tag => exact ⟨_, rfl, serve_stays fun s => .ite (fun _ => s.halt_stays ..) fun _ => .refl s⟩
  | resume port tag => exact ⟨_, rfl, serve_stays fun s => .ite (fun _ => .refl s) fun _ => s.goOn_stays⟩
  | maskSet port tag level => exact ⟨_, rfl, serve_stays fun s => s.modPort_stays ..⟩
  | restart port tag => exact ⟨_, rfl, serve_stays fun s => restart_stays s⟩
  | paramGet port tag id => exact ⟨_, rfl, serve_stays fun s => .refl s⟩
  | paramSet port tag id value =>
    refine ⟨_, rfl, ?_⟩
    refine serve_issues fun s₀ ht hc => (applySetting_stays _ value fun hid => ?_).issues 1
    obtain ⟨-, hsetting⟩ := paramSet_checked hc
    obtain ⟨honce, -⟩ := settingChecks_eq_none hsetting
    have unconfigured := honce (by rw [hid]; rfl)
    rw [ground_of_takes ht] at unconfigured
    exact (plant_of_takes ht (fun p => p.tickets) fun _ _ _ _ => rfl).trans (nil_of_unconfigured hs unconfigured)
  | storeSave port tag => exact ⟨_, rfl, serve_stays fun s => s.ground_stays _⟩
  | storeLoad port tag => exact ⟨_, rfl, serve_stays fun s => loadStore_stays s⟩
  | storeErase port tag => exact ⟨_, rfl, serve_stays fun s => s.ground_stays _⟩
  | protectSet port tag level => exact ⟨_, rfl, serve_stays fun s => s.ground_stays _⟩
  | storeSaveEnd failed =>
    refine ⟨_, rfl, ?_⟩
    refine event_issues (f := fun s => _) (fun s => ?_) s
    split
    · exact (s.ground_stays _).trans (State.raise_stays ..)
    · exact s.storeFails_stays _
    · exact .refl s
  | storeSaveTimeout =>
    refine ⟨_, rfl, ?_⟩
    refine event_issues (f := fun s => _) (fun s => ?_) s
    split
    · exact s.storeFails_stays _
    · exact .refl s
  | storeEraseEnd ok =>
    refine ⟨_, rfl, ?_⟩
    refine event_issues (f := fun s => _) (fun s => ?_) s
    split
    · exact .ite (fun _ => s.ground_stays _) fun _ => s.storeFails_stays _
    · exact .refl s
  | storeEraseTimeout =>
    refine ⟨_, rfl, ?_⟩
    refine event_issues (f := fun s => _) (fun s => ?_) s
    split
    · exact s.storeFails_stays _
    · exact .refl s
  | machinePos m position moving loaded =>
    exact ⟨_, rfl, event_issues (State.record_stays (State.posRecord_stays m position moving loaded)) s⟩
  | machineFault m code => exact ⟨_, rfl, event_issues (State.record_stays (State.faultRecord_stays m code)) s⟩
  | extractDone m n => exact ⟨_, rfl, event_issues (State.doneRecord_stays (extractEffect_stays m n)) s⟩
  | replaceDone m n => exact ⟨_, rfl, event_issues (State.doneRecord_stays (replaceEffect_stays m n)) s⟩
  | pressDone m n force => exact ⟨_, rfl, event_issues (State.doneRecord_stays (pressEffect_stays m n force)) s⟩
  | guideLockDone m n =>
    exact ⟨_, rfl, event_issues (State.doneRecord_stays (worked fun g p => machineDone_kept g m .guideLock n p)) s⟩
  | guideReleaseDone m n =>
    exact ⟨_, rfl, event_issues (State.doneRecord_stays (worked fun g p => machineDone_kept g m .guideRelease n p)) s⟩
  | ramAdvanceDone m n load =>
    exact ⟨_, rfl, event_issues (State.doneRecord_stays (worked fun g p => ramAdvanced_kept g n load p)) s⟩
  | ramReturnDone m n =>
    exact ⟨_, rfl, event_issues (State.doneRecord_stays (worked fun g p => machineDone_kept g m .ramReturn n p)) s⟩
  | levelDone m n => exact ⟨_, rfl, event_issues (State.doneRecord_stays (worked fun g p => levelDone_kept g n p)) s⟩
  | receiveDone m n => exact ⟨_, rfl, event_issues (State.doneRecord_stays (receiveEffect_stays m n)) s⟩
  | dumpDone m n => exact ⟨_, rfl, event_issues (State.doneRecord_stays (dumpEffect_stays m)) s⟩
  | chargeAsk n => exact ⟨_, rfl, event_issues (State.record_stays (worked fun g p => chargeAsked_kept g n p)) s⟩
  | chargeEnd n mass =>
    exact ⟨_, rfl, event_issues (State.record_stays (worked fun g p => chargeEndReport_kept g n mass p)) s⟩
  | otlReply address reply => exact ⟨_, rfl, event_issues (fun s => s.otlReplied_stays address reply) s⟩
  | replyWaitExpiry => exact ⟨_, rfl, event_issues State.replyMissed_stays s⟩
  | wallStalenessExpiry v => exact ⟨_, rfl, event_issues (fun s => wallStaled_stays s v) s⟩
  | readinessExpiry n => exact ⟨_, rfl, event_issues (worked fun g p => readinessReached_kept g n p) s⟩
  | overdueTimerExpiry n =>
    exact ⟨_, rfl, event_issues (worked fun g p => .of_but (overdueReached_keeps (Kinds.pushes_oven n) g p)) s⟩
  | pacingTimerExpiry => exact ⟨_, rfl, event_issues (worked fun g p => .of_but (pacingReached_keeps (by decide) g p)) s⟩
  | stepTimerExpiry num => exact ⟨_, rfl, event_issues (worked fun g p => stepReached_kept g num p) s⟩
  | pacingWaitReached num => exact ⟨_, rfl, event_issues (worked fun g p => pacingWaitReached_kept g num p) s⟩
  | serviceTimerExpiry side =>
    exact ⟨_, rfl, event_issues (worked fun g p => .of_but (jobTimeout_keeps (Kinds.pushes_job side) g p)) s⟩
  | chargeTimerExpiry => exact ⟨_, rfl, event_issues (worked chargeTimeout_kept) s⟩
  | emptyDwellExpiry n =>
    exact ⟨_, rfl, event_issues (worked fun g p => .of_but (dwellReached_keeps (Kinds.pushes_oven n) g p)) s⟩
  | silenceTimerExpiry m => exact ⟨_, rfl, event_issues (fun s => s.silenceReached_stays m) s⟩
  | quenchTimerExpiry c =>
    exact ⟨_, rfl, event_issues (worked fun g p => .of_but (quenchReached_keeps (Kinds.pushes_car c) g p)) s⟩
  | drainTimerExpiry c =>
    exact ⟨_, rfl, event_issues (worked fun g p => .of_but (drainReached_keeps (Kinds.pushes_car c) g p)) s⟩
  | hotDwellExpiry c =>
    exact ⟨_, rfl, event_issues (worked fun g p => .of_but (hotReached_keeps (Kinds.pushes_car c) g p)) s⟩
  | discardedFrame link cause => exact absurd rfl (hdiscard link cause)

end

end Sys2Proof.Machine
end

section
/-! One push at a time (R63, R64): the statement. -/

namespace Sys2Proof.Machine

open Sys2Proof.Safety

section
variable {s t : State}

/-! ## The list at work -/

/-- At most one ticket at work, by the numbers. -/
theorem one_of_length {l : List Ticket} (h : (l.filter fun t => atWork t.state).length ≤ 1) {a b : Ticket} (ha : a ∈ l) (hb : b ∈ l)
    (hwa : atWork a.state = true) (hwb : atWork b.state = true) : a.number = b.number := by
  have ma : a ∈ l.filter fun t => atWork t.state := List.mem_filter.2 ⟨ha, hwa⟩
  have mb : b ∈ l.filter fun t => atWork t.state := List.mem_filter.2 ⟨hb, hwb⟩
  match hl : l.filter fun t => atWork t.state with
  | [] => rw [hl] at ma; cases ma
  | [x] =>
    rw [hl, List.mem_singleton] at ma mb
    rw [ma, mb]
  | x :: y :: rest => simp [hl] at h

theorem length_of_one {l : List Ticket} (hn : (l.map fun t => t.number).Nodup)
    (h : ∀ a ∈ l, ∀ b ∈ l, atWork a.state = true → atWork b.state = true → a.number = b.number) :
    (l.filter fun t => atWork t.state).length ≤ 1 := by
  have distinct : ((l.filter fun t => atWork t.state).map fun t => t.number).Nodup := hn.sublist (List.filter_sublist.map _)
  have mem : ∀ x ∈ l.filter fun t => atWork t.state, x ∈ l ∧ atWork x.state = true := fun x hx => List.mem_filter.1 hx
  match hl : l.filter fun t => atWork t.state with
  | [] => simp [hl]
  | [x] => simp [hl]
  | x :: y :: rest =>
    obtain ⟨hx, hwx⟩ := mem x (by simp [hl])
    obtain ⟨hy, hwy⟩ := mem y (by simp [hl])
    rw [hl] at distinct
    exact absurd (h x hx y hy hwx hwy) fun e => by simp [e] at distinct

theorem pushes_of_sound (h : PushSound s) : Pushes s.plant where
  numbers := h.numbers
  ovens := h.ovens
  one _ ha _ hb := one_of_length h.one ha hb
  counted := h.counted
  held := h.held
  extracted := h.extracted

theorem sound_of_pushes (h : Pushes s.plant) (hc : s.plant.tickets ≠ [] → s.ground.configured = true)
    (hs : s.ground.starting = true → s.ground.configured = false) : PushSound s where
  numbers := h.numbers
  ovens := h.ovens
  one := length_of_one h.numbers h.one
  counted := h.counted
  held := h.held
  extracted := h.extracted
  configured := hc
  starting := hs

/-! ## Configured, and STARTING (R189) -/

/-- Once configured, the 2480 stays so but for a cold start. -/
theorem exec_configured {c : Instr} (hs : started s) (hconf : s.ground.configured = true) (h : exec c s = .next t)
    (hcold : ∀ byLine, c ≠ .coldStart byLine) : t.ground.configured = true := by
  obtain ⟨n, hn⟩ := Option.isSome_iff_exists.1 hconf
  exact Option.isSome_iff_exists.2 ⟨n, ovenCountIsSetOnce c s t n hs hn h hcold⟩

/-- A state that is STARTING is unconfigured. -/
theorem exec_starting {c : Instr} (hs : s.ground.starting = true → s.ground.configured = false) (h : exec c s = .next t) :
    t.ground.starting = true → t.ground.configured = false := by
  have of_params : t.ground.starting = s.ground.starting → t.ground.params = s.ground.params →
      t.ground.starting = true → t.ground.configured = false := fun hstart hparams hst => by
    rw [Ground.configured, hparams]
    exact hs (hstart.symm.trans hst)
  have same : t.ground = s.ground → t.ground.starting = true → t.ground.configured = false := fun e =>
    of_params (by rw [e]) (by rw [e])
  -- an accepted request is taken after STARTING
  have accepted : ∀ {s₀ : State} {checks : State → List Check}, s₀.ground = s.ground → t.ground.starting = s.ground.starting →
      whileStarting s₀ ∈ checks s₀ → firstRefusal (checks s₀) = none → t.ground.starting = true → t.ground.configured = false :=
    fun {s₀ checks} hg hstart hmem hr hst => by
      have awake := firstRefusal_eq_none.1 hr (whileStarting s₀) hmem
      rw [whileStarting, hg, ← hstart, hst] at awake
      cases awake
  cases c with
  | coldStart byLine => cases h; exact fun _ => rfl
  | resetLineRelease => cases h; exact hs
  | storeReadEnd found =>
    obtain e | ⟨-, read⟩ := storeReadEnd_ground h
    · exact same e
    · exact fun hst => absurd (read.starting.symm.trans hst) (by decide)
  | storeReadTimeout =>
    obtain e | ⟨-, read⟩ := storeReadTimeout_ground h
    · exact same e
    · exact fun hst => absurd (read.starting.symm.trans hst) (by decide)
  | paramSet port tag id v =>
    have start := ((goes_of_exec h).start rfl).1
    cases h
    obtain e | ⟨s₀, hg, hr, -⟩ := s.serve_ground_cases port tag (.paramSet id v) _ _
    · exact same e
    · exact accepted (checks := fun s => [whileStarting s, badField (id.isNone || !valueFits (id.getD .ovenCount) v)] ++
        settingChecks s (id.getD .ovenCount) v) hg start (by simp) hr
  | storeLoad port tag =>
    have start := ((goes_of_exec h).start rfl).1
    cases h
    obtain e | ⟨s₀, hg, hr, -⟩ := s.serve_ground_cases port tag .storeLoad loadChecks loadStore
    · exact same e
    · exact accepted hg start (by simp [loadChecks]) hr
  | protectSet port tag level =>
    obtain e | ⟨-, e⟩ := protectSet_ground h
    · exact same e
    · exact of_params (by rw [e]) (by rw [e])
  | _ => exact of_params ((goes_of_exec h).start rfl).1 ((goes_of_exec h).settings rfl).1

end

/-- Settles O7: the ticket list through `exec_issues`, with the counter far from its wrap. -/
theorem onePushAtATime : Obligations.OnePushAtATime := by
  unfold Obligations.OnePushAtATime
  intro c s t hs hcounter hdiscard hgap h
  obtain ⟨t', h', issues⟩ := exec_issues hs hdiscard hgap
  obtain rfl : t' = t := by
    rw [h] at h'
    injection h' with e
    exact e.symm
  have pushes := issues.plant.pushes (pushes_of_sound hs) hcounter
  refine sound_of_pushes pushes (fun hne => ?_) (exec_starting hs.starting h)
  by_cases hnil : s.plant.tickets = []
  · exact (issues.plant.nil hnil).resolve_left hne
  · have configured := hs.configured hnil
    have awake : started s := by
      by_contra hst
      rw [hs.starting (by simpa [started] using hst)] at configured
      cases configured
    refine exec_configured awake configured h fun byLine hc => ?_
    subst hc
    cases h
    exact hne rfl

end Sys2Proof.Machine
end
